-- ==== Sys2Proof/Word.lean ====
section
/-!
DEFINITION. The words of the part's links. Every quantity of the manual (section 4.1) is an integer
and is held as one. What is held as bits here is only what the manual lays out as bits: the bytes of
the frames, the tags and order kinds they carry, and the counters that wrap at a width.
-/

namespace Sys2Proof

/-- One byte of a lane frame or of a C-port frame (R193). -/
abbrev Byte := BitVec 8

end Sys2Proof
end

