-- ==== Sys2Proof/Config.lean ====
section
/-!
DEFINITION. What the manual leaves open, as constants with no body. Nothing in Lean can evaluate one
of them, so a claim that is proved holds for every value. Each is named in the assumption log.
-/

namespace Sys2Proof

/-- Which of several open outcomes is taken. The manual names several places where blocks act on one
event in an order that is not fixed (R25, R144 and others); the machine asks for its next choice by a
running number, and takes the answer modulo the number of outcomes. Assumption 4. -/
opaque Config.choice : Nat → Nat

/-- The jog maximum a JOG order is judged against while the working copy of XSET is BLANK. R58 judges
"the jog maximum of XSET" and no rule states one for a BLANK table. Assumption 16. -/
opaque Config.jogMaximumWhileBlank : Int

/-- The bytes of a set of trip classes inside a reply payload. R199 codes quantities, enumerations
and optional fields and states no coding of a set. Assumption 27. -/
opaque Config.tripSetBytes : List (Fin 8) → List Byte

/-- The bytes of a set of table identities inside a reply payload or a notice detail (R199 states no
coding of a set). Assumption 27. -/
opaque Config.tableSetBytes : List (Fin 15) → List Byte

/-- The byte of a check's name in a reply detail that stands in no list of R199: 0 asks for FORMAT and 1
for ENTRIES. Assumption 27. -/
opaque Config.checkNameByte : Nat → Byte

end Sys2Proof
end

