-- ==== Sys2Proof/Syntax.lean ====
section
/-!
DEFINITION. The commands of the part: one constructor of `Instr` for each row of
spec/opcode_table.json. The table gives its rows no operand fields, so the operands are what the rules
say arrives with each step: a lane and the bytes received on it, an order's tag and argument bytes,
the outcome of a store access, and the run-clock time since the command before it.
-/

namespace Sys2Proof

/-- One of the five sensor-side lanes L0 to L4 (section 1.1). -/
abbrev Lane := Fin 5

/-- What a receiver takes between a start delimiter and the next end delimiter (R193). `clean` is
false when the frame was abandoned for a new start delimiter, or when a line symbol that is neither a
data byte nor a delimiter came inside it (R195, R197). -/
structure Reception where
  bytes : List Byte
  clean : Bool
  deriving DecidableEq, Repr

/-- The commands. `dt` is the run-clock time in microseconds that has passed since the command before
it (assumption 2). A timer's expiry carries none: it is the moment the timer runs out. -/
inductive Instr where
  /-- POWER_ON (R16, R39, R61, R83, R107, R131, R153, R154, R169, R177, R179, R191). -/
  | powerOn
  /-- SAMPLE: a frame arrives on a lane (R1, R12, R195). -/
  | sample (dt : Nat) (lane : Lane) (rx : Reception)
  /-- DRIVE_STATUS: a status frame arrives on a lane (R1, R44, R195). -/
  | driveStatus (dt : Nat) (lane : Lane) (rx : Reception)
  /-- SILENCE_TIMER_EXPIRY of a lane (R4). -/
  | silenceTimerExpiry (lane : Lane)
  /-- DEMAND_TIMER_EXPIRY (R45). -/
  | demandTimerExpiry
  /-- REPEAT_TIMER_EXPIRY (R33). -/
  | repeatTimerExpiry
  /-- DWELL_TIMER_EXPIRY (R36). -/
  | dwellTimerExpiry
  /-- TARE_SAMPLE_TIMER_EXPIRY (R30). -/
  | tareSampleTimerExpiry
  /-- SETTLE_TIMER_EXPIRY (R68). -/
  | settleTimerExpiry
  /-- ZERO_AVERAGING_TIMEOUT (R70). -/
  | zeroAveragingTimeout
  /-- JOG_DEADLINE_EXPIRY (R59, R60). -/
  | jogDeadlineExpiry
  /-- PHASE_TIMER_EXPIRY (R93). -/
  | phaseTimerExpiry
  /-- TIME_LIMIT_EXPIRY (R97). -/
  | timeLimitExpiry
  /-- LOAD_LOSS_TIMER_EXPIRY (R139). -/
  | loadLossTimerExpiry
  /-- STREAM_FALLBACK_EXPIRY (R162). -/
  | streamFallbackExpiry
  /-- SESSION_TIMER_EXPIRY (R185). -/
  | sessionTimerExpiry
  /-- STORE_SAVE_WRITE_COMPLETE: `good` says that the write passed its check (R189). -/
  | storeSaveWriteComplete (dt : Nat) (good : Bool)
  /-- STORE_RECALL_READ_COMPLETE: `intact` says that the stored copy passes its check (R190). -/
  | storeRecallReadComplete (dt : Nat) (intact : Bool)
  /-- START_UP_TABLE_READ: `intact` says that the stored copy passes its check (R191). -/
  | startUpTableRead (dt : Nat) (intact : Bool)
  /-- TRANSMISSION_COMPLETE (R159). -/
  | transmissionComplete (dt : Nat)
  /-- CPORT_BAD_FRAME: an inbound C-port frame that fails a check (R155, R197). -/
  | cportBadFrame (dt : Nat) (rx : Reception)
  /-- UNKNOWN_ORDER: an order frame whose kind is not in the catalogue (R156). -/
  | unknownOrder (dt : Nat) (kind tag : Byte) (args : List Byte)
  /-- TABLE_OPEN (R180). -/
  | tableOpen (dt : Nat) (tag : Byte) (args : List Byte)
  /-- TABLE_DATA (R181). -/
  | tableData (dt : Nat) (tag : Byte) (args : List Byte)
  /-- TABLE_COMMIT (R182). -/
  | tableCommit (dt : Nat) (tag : Byte) (args : List Byte)
  /-- TABLE_DISCARD (R184). -/
  | tableDiscard (dt : Nat) (tag : Byte) (args : List Byte)
  /-- TABLE_READ (R188). -/
  | tableRead (dt : Nat) (tag : Byte) (args : List Byte)
  /-- STORE_SAVE (R189). -/
  | storeSave (dt : Nat) (tag : Byte) (args : List Byte)
  /-- STORE_RECALL (R190). -/
  | storeRecall (dt : Nat) (tag : Byte) (args : List Byte)
  /-- ARM (R87). -/
  | arm (dt : Nat) (tag : Byte) (args : List Byte)
  /-- DISARM (R89). -/
  | disarm (dt : Nat) (tag : Byte) (args : List Byte)
  /-- START (R90). -/
  | start (dt : Nat) (tag : Byte) (args : List Byte)
  /-- HOLD (R95). -/
  | hold (dt : Nat) (tag : Byte) (args : List Byte)
  /-- RESUME (R96). -/
  | resume (dt : Nat) (tag : Byte) (args : List Byte)
  /-- ABORT (R100). -/
  | abort (dt : Nat) (tag : Byte) (args : List Byte)
  /-- RELEASE (R101). -/
  | release (dt : Nat) (tag : Byte) (args : List Byte)
  /-- RESULT_READ (R129). -/
  | resultRead (dt : Nat) (tag : Byte) (args : List Byte)
  /-- MILESTONE_READ (R130). -/
  | milestoneRead (dt : Nat) (tag : Byte) (args : List Byte)
  /-- TARE (R28). -/
  | tare (dt : Nat) (tag : Byte) (args : List Byte)
  /-- EXT_ATTACH (R67). -/
  | extAttach (dt : Nat) (tag : Byte) (args : List Byte)
  /-- EXT_REMOVE (R76). -/
  | extRemove (dt : Nat) (tag : Byte) (args : List Byte)
  /-- JOG (R58). -/
  | jog (dt : Nat) (tag : Byte) (args : List Byte)
  /-- JOG_STOP (R60). -/
  | jogStop (dt : Nat) (tag : Byte) (args : List Byte)
  /-- CLEAR_TRIP (R146). -/
  | clearTrip (dt : Nat) (tag : Byte) (args : List Byte)
  /-- TRIP_HISTORY_READ (R149). -/
  | tripHistoryRead (dt : Nat) (tag : Byte) (args : List Byte)
  /-- TRIP_HISTORY_RESET (R149). -/
  | tripHistoryReset (dt : Nat) (tag : Byte) (args : List Byte)
  /-- LINE_SET (R151). -/
  | lineSet (dt : Nat) (tag : Byte) (args : List Byte)
  /-- STREAM_SET (R166). -/
  | streamSet (dt : Nat) (tag : Byte) (args : List Byte)
  /-- STATUS_READ (R167). -/
  | statusRead (dt : Nat) (tag : Byte) (args : List Byte)
  /-- RESTART (R168). -/
  | restart (dt : Nat) (tag : Byte) (args : List Byte)
  deriving DecidableEq, Repr

end Sys2Proof
end

