-- ==== Sys2Proof/Machine/Operands.lean ====
section
/-!
DEFINITION. The arithmetic of section 4.3, the byte coding of quantities (R193, R199), and the
ordering of acts whose order the manual leaves open. Shared by every block.
-/

namespace Sys2Proof.Machine

/-! ## Arithmetic (section 4.3) -/

/-- The quotient `n / d` rounded to nearest, halves away from zero (section 4.3); `d` is positive.
Lean's `/` on integers with a positive divisor is the manual's "div", a division rounded down. -/
def roundDiv (n d : Int) : Int :=
  if 0 ≤ n then (2 * n + d) / (2 * d) else -((2 * (-n) + d) / (2 * d))

/-- `v` moved into the interval from `lo` to `hi`. -/
def clamp (lo hi v : Int) : Int :=
  if v < lo then lo else if hi < v then hi else v

/-- The clamp of forces and positions to ±2,147,483,647 (R21, R24, R42). -/
def clampForce (v : Int) : Int :=
  clamp (-2147483647) 2147483647 v

/-- The clamp of stress and strain to the signed 32-bit range (R27, R65, R73, R114). -/
def clampSigned32 (v : Int) : Int :=
  clamp (-2147483648) 2147483647 v

/-- A count that stays at 65,535 once it has reached it (R1, R2, R6, R148, R155, R157, R163). -/
def countUp (n : Nat) : Nat :=
  if n < 65535 then n + 1 else n

/-- Engineering stress of a net force on a cross-section `s0` in 0.001 mm² (R27). -/
def stressOf (force s0 : Int) : Int :=
  clampSigned32 (roundDiv (force * 10000) s0)

/-- Milliseconds in run-clock microseconds. -/
def millis (ms : Int) : Nat :=
  ms.toNat * 1000

/-! ## Bytes (R193, R199) -/

/-- The unsigned integer a list of bytes carries, most significant byte first (R193). -/
def bigEndian (bytes : List Byte) : Nat :=
  bytes.foldl (fun n b => n * 256 + b.toNat) 0

/-- `n` bytes carrying the low bits of `v`, most significant byte first (R193). -/
def bytesOf : Nat → Nat → List Byte
  | 0, _ => []
  | n + 1, v => bytesOf n (v / 256) ++ [BitVec.ofNat 8 v]

/-- The signed integer of `w` bits in two's complement (R193). -/
def signedOf (w n : Nat) : Int :=
  (BitVec.ofNat w n).toInt

/-- A signed quantity as four bytes in two's complement (R199); of one that is held exactly and passes 32
bits, the low 32 (assumption 43). -/
def quantityBytes (v : Int) : List Byte :=
  bytesOf 4 (BitVec.ofInt 32 v).toNat

/-- The byte at a place of a list of bytes; a place beyond its end reads as 0, and is read only after
the list's length has been judged (R156, R182). -/
def byteAt (bytes : List Byte) (i : Nat) : Byte :=
  bytes.getD i 0

/-- The unsigned field of `n` bytes at a place. -/
def unsignedAt (bytes : List Byte) (i n : Nat) : Nat :=
  bigEndian ((List.range n).map fun j => byteAt bytes (i + j))

/-- The signed 32-bit quantity at a place (R199). -/
def quantityAt (bytes : List Byte) (i : Nat) : Int :=
  signedOf 32 (unsignedAt bytes i 4)

/-! ## Acts in an open order -/

/-- `xs` without its element at place `i`, and that element; none when `i` is beyond the end. -/
def takeAt {α : Type} : List α → Nat → Option (α × List α)
  | [], _ => none
  | x :: xs, 0 => some (x, xs)
  | x :: xs, i + 1 => (takeAt xs i).map fun p => (p.1, x :: p.2)

/-- The `k`-th arrangement of a list: its first element is the one at place `k` modulo the length, and
the rest is arranged by the quotient. Every arrangement is the `k`-th one for some `k`; `fuel` is the
list's length. -/
def arrange {α : Type} : Nat → Nat → List α → List α
  | 0, _, xs => xs
  | fuel + 1, k, xs =>
    match takeAt xs (k % xs.length) with
    | none => xs
    | some (x, rest) => x :: arrange fuel (k / xs.length) rest

end Sys2Proof.Machine
end

