-- ==== Sys2Proof/Machine/Frames.lean ====
section
/-!
DEFINITION. The frames that come in: the CRCs, the checks the receivers make and the fields they read
(R1, R193 to R198).
-/

namespace Sys2Proof.Machine

/-! ## The CRCs (R194, R196) -/

/-- One bit into a CRC register, most significant bit first. -/
def crcBit {w : Nat} (generator register : BitVec w) (bit : Bool) : BitVec w :=
  if register.msb != bit then (register <<< 1) ^^^ generator else register <<< 1

/-- One byte into a CRC register, bit 7 first. -/
def crcByte {w : Nat} (generator register : BitVec w) (b : Byte) : BitVec w :=
  [7, 6, 5, 4, 3, 2, 1, 0].foldl (fun r i => crcBit generator r (b.getLsbD i)) register

/-- The CRC-16 of a lane frame: x¹⁶ + x¹² + x⁵ + 1, starting at all ones, sent as it stands (R194). -/
def crc16 (bytes : List Byte) : BitVec 16 :=
  bytes.foldl (crcByte 0x1021#16) 0xFFFF#16

/-- The CRC-32 of a C-port frame: 04C11DB7, starting at all ones, sent inverted (R196). -/
def crc32 (bytes : List Byte) : BitVec 32 :=
  ~~~(bytes.foldl (crcByte 0x04C11DB7#32) 0xFFFFFFFF#32)

/-! ## Lane frames (R194, R195) -/

/-- The content of a SAMPLE frame (section 1.1, R194). -/
structure SampleFrame where
  moduleFault : Bool
  overrange : Bool
  range : Fin 4
  sub : Fin 2
  value : Int
  deriving DecidableEq, Repr

/-- The flags of a DRIVE-STATUS frame, and of the held drive status (R44). -/
structure DriveStatus where
  ready : Bool
  fault : Bool
  saturated : Bool
  deriving DecidableEq, Repr

/-- What the LIF makes of a frame that arrives on a lane. -/
inductive LaneFrame where
  | bad
  | sample (f : SampleFrame)
  | driveStatus (d : DriveStatus)
  deriving DecidableEq, Repr

/-- The fields of a SAMPLE frame's bytes (R194). -/
def sampleFields (bytes : List Byte) : SampleFrame :=
  let b1 := byteAt bytes 1
  { moduleFault := b1.getLsbD 7
    overrange := b1.getLsbD 6
    range := Fin.ofNat 4 (b1.toNat / 16)
    sub := Fin.ofNat 2 b1.toNat
    value := signedOf 24 (unsignedAt bytes 2 3) }

/-- The fields of a DRIVE-STATUS frame's bytes (R194). -/
def driveFields (bytes : List Byte) : DriveStatus :=
  let b1 := byteAt bytes 1
  { ready := b1.getLsbD 0, fault := b1.getLsbD 1, saturated := b1.getLsbD 2 }

/-- The LIF's checks of a lane frame, in the order of R195: eight bytes, the CRC-16 over bytes 0 to 5
in bytes 6 and 7, and a kind accepted on the lane (R1). -/
def readLaneFrame (lane : Lane) (rx : Reception) : LaneFrame :=
  if !rx.clean || rx.bytes.length != 8 then .bad
  else if (crc16 (rx.bytes.take 6)).toNat != unsignedAt rx.bytes 6 2 then .bad
  else if byteAt rx.bytes 0 = 1 then .sample (sampleFields rx.bytes)
  else if byteAt rx.bytes 0 = 2 ∧ lane = 4 then .driveStatus (driveFields rx.bytes)
  else .bad

/-- The eight bytes of a lane frame from its first six (R194). -/
def laneFrameBytes (content : List Byte) : List Byte :=
  content ++ bytesOf 2 (crc16 content).toNat

/-- The bytes of a SAMPLE frame, fill sent as 0 (R194). -/
def sampleFrameBytes (f : SampleFrame) : List Byte :=
  laneFrameBytes
    ([1#8, BitVec.ofNat 8 ((if f.moduleFault then 128 else 0) + (if f.overrange then 64 else 0)
        + 16 * f.range.val + f.sub.val)]
      ++ bytesOf 3 (BitVec.ofInt 24 f.value).toNat ++ [0#8])

/-- The bytes of a DRIVE-STATUS frame, fill sent as 0 (R194). -/
def driveFrameBytes (d : DriveStatus) : List Byte :=
  laneFrameBytes
    [2#8, BitVec.ofNat 8 ((if d.ready then 1 else 0) + (if d.fault then 2 else 0)
        + (if d.saturated then 4 else 0)), 0#8, 0#8, 0#8, 0#8]

/-! ## C-port frames (R196, R197) -/

/-- An accepted order frame: its kind, its tag and its argument bytes (R198). -/
structure OrderFrame where
  kind : Byte
  tag : Byte
  args : List Byte
  deriving DecidableEq, Repr

/-- The CPT's checks of an inbound C-port frame, in the order of R197: the byte count against the
length field, the length, the CRC-32 and the frame kind. None where one fails. -/
def readCportFrame (rx : Reception) : Option OrderFrame :=
  let n := rx.bytes.length
  let len := unsignedAt rx.bytes 1 2
  if !rx.clean || n < 7 || n != len + 7 then none
  else if len < 2 || 512 < len then none
  else if (crc32 (rx.bytes.take (3 + len))).toNat != unsignedAt rx.bytes (3 + len) 4 then none
  else if byteAt rx.bytes 0 != 1 then none
  else some
    { kind := byteAt rx.bytes 3
      tag := byteAt rx.bytes 4
      args := (rx.bytes.drop 5).take (len - 2) }

/-- The bytes of a C-port frame of a kind with a body (R196). -/
def cportFrameBytes (kind : Byte) (body : List Byte) : List Byte :=
  let front := [kind] ++ bytesOf 2 body.length ++ body
  front ++ bytesOf 4 (crc32 front).toNat

/-! ## Order kinds (R198) -/

/-- The twenty-eight orders of the catalogue (section 8.3), in its order. -/
inductive OrderName where
  | tableOpen | tableData | tableCommit | tableDiscard | tableRead
  | storeSave | storeRecall
  | arm | disarm | start | hold | resume | abort | release
  | resultRead | milestoneRead
  | tare | extAttach | extRemove
  | jog | jogStop
  | clearTrip | tripHistoryRead | tripHistoryReset | lineSet
  | streamSet | statusRead | restart
  deriving DecidableEq, Repr

/-- The orders in the sequence in which section 8.3 names them. -/
def catalogue : List OrderName :=
  [.tableOpen, .tableData, .tableCommit, .tableDiscard, .tableRead, .storeSave, .storeRecall,
   .arm, .disarm, .start, .hold, .resume, .abort, .release, .resultRead, .milestoneRead,
   .tare, .extAttach, .extRemove, .jog, .jogStop, .clearTrip, .tripHistoryRead,
   .tripHistoryReset, .lineSet, .streamSet, .statusRead, .restart]

/-- The number of an order kind, 1 to 28 (R198). -/
def orderCode (o : OrderName) : Byte :=
  BitVec.ofNat 8 (catalogue.idxOf o + 1)

/-- The order of a kind byte; none outside the catalogue (R156, R198). -/
def orderOfCode (kind : Byte) : Option OrderName :=
  if kind.toNat = 0 then none else catalogue[kind.toNat - 1]?

/-! ## The form check (R156 stage 2, R199) -/

/-- The length of an order's arguments by the coding of R199. TABLE-DATA's follows its entry count,
the byte after the segment number. -/
def argumentLength (o : OrderName) (args : List Byte) : Nat :=
  match o with
  | .tableData => 2 + 28 * (byteAt args 1).toNat
  | .tableOpen | .storeSave | .storeRecall | .statusRead => 1
  | .tableRead => 2
  | .arm => 70
  | .milestoneRead | .jog => 4
  | .lineSet | .streamSet => 5
  | _ => 0

/-- The form check of R156 stage 2: the length of R199, TABLE-DATA's entry count from 1 to 16, and
ARM's two presence bytes 0 or 1. -/
def wellFormedArguments (o : OrderName) (args : List Byte) : Bool :=
  args.length == argumentLength o args &&
  match o with
  | .tableData => 1 ≤ (byteAt args 1).toNat && (byteAt args 1).toNat ≤ 16
  | .arm => (byteAt args 48).toNat ≤ 1 && (byteAt args 53).toNat ≤ 1
  | _ => true

end Sys2Proof.Machine
end

