-- ==== Sys2Proof/Decode.lean ====
section
/-!
DEFINITION. From frames to commands. The operation table gives its rows no bits, so no table word
spells a command; what a receiver makes of the bytes of a frame is `readLaneFrame` and
`readCportFrame`. Here stand the command that an accepted order frame is (R156, R198), and the order
frame of a command.
-/

namespace Sys2Proof

open Sys2Proof.Machine

/-- The command a table word spells: none, since no row of the table has bits. -/
def decodeTableWord (_nbits _w : Nat) : Option Instr :=
  none

/-- The command of an order of the catalogue. -/
def orderCommand (o : OrderName) (dt : Nat) (tag : Byte) (args : List Byte) : Instr :=
  match o with
  | .tableOpen => .tableOpen dt tag args
  | .tableData => .tableData dt tag args
  | .tableCommit => .tableCommit dt tag args
  | .tableDiscard => .tableDiscard dt tag args
  | .tableRead => .tableRead dt tag args
  | .storeSave => .storeSave dt tag args
  | .storeRecall => .storeRecall dt tag args
  | .arm => .arm dt tag args
  | .disarm => .disarm dt tag args
  | .start => .start dt tag args
  | .hold => .hold dt tag args
  | .resume => .resume dt tag args
  | .abort => .abort dt tag args
  | .release => .release dt tag args
  | .resultRead => .resultRead dt tag args
  | .milestoneRead => .milestoneRead dt tag args
  | .tare => .tare dt tag args
  | .extAttach => .extAttach dt tag args
  | .extRemove => .extRemove dt tag args
  | .jog => .jog dt tag args
  | .jogStop => .jogStop dt tag args
  | .clearTrip => .clearTrip dt tag args
  | .tripHistoryRead => .tripHistoryRead dt tag args
  | .tripHistoryReset => .tripHistoryReset dt tag args
  | .lineSet => .lineSet dt tag args
  | .streamSet => .streamSet dt tag args
  | .statusRead => .statusRead dt tag args
  | .restart => .restart dt tag args

/-- The command that a frame received on the C-port is: an order of its kind, an unknown order, or a
bad frame (R155, R156, R197). -/
def cportCommand (dt : Nat) (rx : Reception) : Instr :=
  match readCportFrame rx with
  | none => .cportBadFrame dt rx
  | some f =>
    match orderOfCode f.kind with
    | none => .unknownOrder dt f.kind f.tag f.args
    | some o => orderCommand o dt f.tag f.args

/-- The command that a frame received on a lane is: DRIVE_STATUS for an accepted drive status frame,
otherwise SAMPLE, whose step holds bad frames too (R1, R195). -/
def laneCommand (dt : Nat) (lane : Lane) (rx : Reception) : Instr :=
  match readLaneFrame lane rx with
  | .driveStatus _ => .driveStatus dt lane rx
  | .sample _ | .bad => .sample dt lane rx

/-- The bytes of an order frame (R196, R198). -/
def orderFrameBytes (kind tag : Byte) (args : List Byte) : List Byte :=
  cportFrameBytes 1 ([kind, tag] ++ args)

end Sys2Proof
end

