-- ==== Sys2Proof/Machine/State.lean ====
section
/-!
DEFINITION. The state of the part as plain data, one structure for each of its twelve blocks (section
2), and the state right after power-on. Quantities are integers in the units of section 4.1.
-/

namespace Sys2Proof.Machine

/-! ## Why a step may stop -/

/-- The reasons a step could fault. There is none: the manual gives every command an effect in every
state. Nobody raises one. -/
inductive Fault where
  deriving DecidableEq, Repr

/-- The reasons a step could be refused. -/
inductive Refusal where
  /-- A row of the opcode table that has no meaning yet. Raised by `exec`'s refused arms only; safe. -/
  | notModelled (mnemonic : String)
  deriving DecidableEq, Repr

/-! ## Tables (chapter 10) -/

/-- The fifteen tables (section 10.1). -/
inductive TableId where
  | route
  | cal (range : Fin 4)
  | loadset
  | extset
  | xset
  | protset
  | lineset
  | nlevels
  | prog (slot : Fin 4)
  deriving DecidableEq, Repr

/-- A 28-byte table entry as it travels (section 11.3.4). -/
abbrev Entry := List Byte

/-- The logical channel of a route entry (section 1.6). -/
inductive Channel where
  | load | xhead | extA | extB | unused
  deriving DecidableEq, Repr

/-- A route entry (section 1.6). -/
structure RouteEntry where
  channel : Channel
  tap : Bool
  deriving DecidableEq, Repr

/-- ROUTE: one entry per (lane, sub-channel), L0/0, L0/1 and so on to L4/1. -/
abbrev RouteTable := Vector RouteEntry 10

/-- A calibration point (section 2.1). -/
structure CalPoint where
  count : Int
  force : Int
  deriving DecidableEq, Repr

/-- CAL0 to CAL3: 2 to 16 points, counts and forces strictly rising (R18). -/
abbrev CalTable := List CalPoint

/-- The ranging mode of LOADSET (section 2.6). -/
inductive RangeMode where
  | auto
  | fixed (range : Fin 4)
  deriving DecidableEq, Repr

/-- LOADSET (section 2.6). -/
structure LoadSet where
  mode : RangeMode
  up : Int
  down : Int
  dwellMs : Int
  deriving DecidableEq, Repr

/-- EXTSET (section 4.1). -/
structure ExtSet where
  twoArm : Bool
  scaleA : Int
  scaleB : Int
  settleMs : Int
  rangeEnd : Int
  slipStep : Int
  setupLength : Int
  deriving DecidableEq, Repr

/-- XSET (section 3.1). -/
structure XSet where
  resolution : Int
  offset : Int
  softLower : Int
  softUpper : Int
  hardMargin : Int
  jogMaximum : Int
  deriving DecidableEq, Repr

/-- PROTSET (section 7.2). -/
structure ProtSet where
  tension1 : Int
  delay1Ms : Int
  tension2 : Int
  count2 : Int
  compression : Int
  delayCMs : Int
  followLimit : Int
  followDelayMs : Int
  loadLossMs : Int
  recovery : Int
  deriving DecidableEq, Repr

/-- The function of an output line (chapter 7). -/
inductive LineFunction where
  | manual | extOpen | dump | tripLamp | testActive
  deriving DecidableEq, Repr

/-- LINESET: the function of LINE0 to LINE3. -/
abbrev LineSet := Vector LineFunction 4

/-- The level of a notice source (section 9.4). -/
inductive Level where
  | off | one | two | three
  deriving DecidableEq, Repr

/-- NLEVELS: the level of each source, in source order. -/
abbrev NoticeLevels := Vector Level 10

/-- The control mode of a phase (section 5.1). -/
inductive PhaseMode where
  | positionRate | strainRate | stressRate | hold
  deriving DecidableEq, Repr

/-- The kinds of end condition (section 5.1). -/
inductive EndKind where
  | strainAtLeast | stressAtLeast | forceAtLeast | forceAtMost
  | positionAtLeast | positionAtMost | phaseTime | yieldClosed | never
  deriving DecidableEq, Repr

/-- A phase of a program (section 5.1). A field the mode does not use is kept as loaded (R85). -/
structure Phase where
  mode : PhaseMode
  rate : Int
  direction : Byte
  gain : Nat
  vmax : Int
  feedforward : Int
  end1 : EndKind
  threshold1 : Int
  end2 : Option EndKind
  threshold2 : Int
  removeExt : Bool
  deriving DecidableEq, Repr

/-- PROG0 to PROG3 (section 5.1); the time limit is in seconds. -/
structure Program where
  timeLimit : Nat
  phases : List Phase
  deriving DecidableEq, Repr

/-- The contents of the fifteen tables: working copies, stored copies or a snapshot. An absent content
is a BLANK working copy or an empty stored copy (R179, section 10.5). -/
structure Tables where
  route : Option RouteTable
  cal : Vector (Option CalTable) 4
  loadset : Option LoadSet
  extset : Option ExtSet
  xset : Option XSet
  protset : Option ProtSet
  lineset : Option LineSet
  nlevels : Option NoticeLevels
  prog : Vector (Option Program) 4
  deriving DecidableEq, Repr

/-! ## Names several blocks use -/

/-- The trip classes; in the order of their numbers (section 7.1). -/
inductive TripClass where
  | tension1 | tension2 | compression | following | travel | loadLost | positionLost | driveFault
  deriving DecidableEq, Repr

/-- The names of the XHU's modes (section 3.7). -/
inductive ModeName where
  | hold | positionRate | strainRate | stressRate | jog
  deriving DecidableEq, Repr

/-! ## LIF and RTB (chapter 1) -/

/-- The state of a lane (section 1.3). -/
inductive LaneStatus where
  | down | up | stale
  deriving DecidableEq, Repr

/-- What the LIF holds for a lane: its state, its silence timer (stopped, or the run-clock time at
which it runs out), and its three counts (R4, R6). -/
structure LaneState where
  status : LaneStatus
  silence : Option Nat
  checkFailures : Nat
  moduleFaults : Nat
  unmapped : Nat
  deriving DecidableEq, Repr

/-- The Lane Interface. -/
structure Lif where
  lanes : Vector LaneState 5
  deriving DecidableEq, Repr

/-- A raw holding: the latest raw value and its fresh mark (R13). -/
structure RawHolding where
  value : Int
  fresh : Bool
  deriving DecidableEq, Repr

/-- The Route Table: the working copy, and the raw holding of each entry (none where the entry is not
tapped, or has no sample yet). -/
structure Rtb where
  route : Option RouteTable
  holdings : Vector (Option RawHolding) 10
  deriving DecidableEq, Repr

/-! ## LCH (chapter 2) -/

/-- The quality of a force (section 2.2). -/
inductive ForceQuality where
  | good | beyondCal | overrange | noCal | stale
  deriving DecidableEq, Repr

/-- The last force (R24). -/
structure LastForce where
  net : Int
  gross : Int
  quality : ForceQuality
  range : Option (Fin 4)
  deriving DecidableEq, Repr

/-- A tare in progress: its order's tag, the samples taken, their sum, and when its 10 ms sample timer
runs out (R28, R30). -/
structure TareJob where
  tag : Byte
  count : Nat
  sum : Int
  deadline : Nat
  deriving DecidableEq, Repr

/-- The dwell timer while it runs: when it runs out and the range it was started on (R36). -/
structure Dwell where
  deadline : Nat
  range : Fin 4
  deriving DecidableEq, Repr

/-- The Load Channel. `awaiting` is set while a request has been made and no sample has arrived since
(R33). -/
structure Lch where
  tare : Int
  last : LastForce
  received : Option (Fin 4)
  requested : Option (Fin 4)
  awaiting : Bool
  repeatAt : Option Nat
  dwell : Option Dwell
  tareJob : Option TareJob
  stress : Option Int
  cal : Vector (Option CalTable) 4
  loadset : Option LoadSet
  deriving DecidableEq, Repr

/-! ## XHU (chapter 3) -/

/-- The XHU's mode with its parameters; `jog` holds the jog's velocity and keep-alive deadline. -/
inductive XhuMode where
  | hold
  | positionRate (v : Int) (direction : Int)
  | strainRate (rate : Int) (gain : Nat) (vmax : Int) (lc : Int)
  | stressRate (rate : Int) (gain : Nat) (vmax : Int) (feedforward : Int)
  | jog (velocity : Int) (deadline : Nat)
  deriving DecidableEq, Repr

/-- The Crosshead Unit. `good` is the position quality (GOOD or STALE); `strain` is the latest strain
update kept for STRAIN-RATE (R72). -/
structure Xhu where
  pos : Int
  good : Bool
  demand : Option Int
  drive : DriveStatus
  lastEnable : Bool
  demandAt : Option Nat
  mode : XhuMode
  a : Int
  b : Int
  target : Option Int
  strain : Int
  xset : Option XSet
  deriving DecidableEq, Repr

/-! ## EXH (chapter 4) -/

/-- The handler states (section 4.3). -/
inductive HandlerState where
  | detached | settling | attached | opened | lost
  deriving DecidableEq, Repr

/-- The source of a strain (R72). -/
inductive StrainSource where
  | ext | crosshead
  deriving DecidableEq, Repr

/-- A reported strain with its source. -/
structure Strain where
  value : Int
  source : StrainSource
  deriving DecidableEq, Repr

/-- The zero averaging of one arm: samples taken and their sum (R68). -/
structure ArmSum where
  count : Nat
  sum : Int
  deriving DecidableEq, Repr

/-- Zero averaging: both arms, and the run-clock time at which it opened (R68, R70). -/
structure Averaging where
  armA : ArmSum
  armB : ArmSum
  openedAt : Nat
  deriving DecidableEq, Repr

/-- The last-extensometer-strain record (R80). -/
structure LastExt where
  strain : Int
  force : Int
  deriving DecidableEq, Repr

/-- The Extensometer Handler. -/
structure Exh where
  handler : HandlerState
  latestA : Option Int
  latestB : Option Int
  zeroA : Option Int
  zeroB : Option Int
  deltaA : Option Int
  deltaB : Option Int
  settleAt : Option Nat
  averaging : Option Averaging
  pRef : Int
  ox : Int
  oe : Int
  reported : Option Strain
  lastExt : Option LastExt
  slipCount : Nat
  extset : Option ExtSet
  deriving DecidableEq, Repr

/-! ## TSQ (chapter 5) -/

/-- The sequencer states (section 5.3). -/
inductive SeqState where
  | idle | armed | running | held | tripped | ended | aborted
  deriving DecidableEq, Repr

/-- The end causes (chapter 5). -/
inductive EndCause where
  | breakFound | programEnd | timeLimit | abortOrder | trip | restart
  deriving DecidableEq, Repr

/-- The specimen record (section 5.2). -/
structure Specimen where
  slot : Int
  s0 : Int
  l0 : Int
  lc : Int
  yieldDrop : Int
  searchLimit : Int
  transient : Int
  riseMargin : Int
  yieldMinForce : Int
  sigmaLow : Int
  sigmaHigh : Int
  proofOffset : Int
  removalStrain : Option Int
  removalDrop : Option Int
  breakFraction : Int
  breakDrop : Int
  breakArm : Int
  deriving DecidableEq, Repr

/-- The Test Sequencer. Test time runs from `startedAt`, stops at `limitAt` (the time-limit timer, set
while it runs), and stands at `testTime` once a test has ended (R97). Phase time is `phaseBase` plus,
in RUNNING, the run-clock time since `phaseSince` (R93). `phaseTimer` is the phase time in
microseconds at which the phase timer runs out, where the phase has one. -/
structure Tsq where
  state : SeqState
  specimen : Option Specimen
  slot : Option (Fin 4)
  phase : Option Nat
  phaseBase : Nat
  phaseSince : Nat
  phaseTimer : Option Nat
  startedAt : Nat
  limitAt : Option Nat
  testTime : Nat
  endCause : Option EndCause
  prog : Vector (Option Program) 4
  deriving DecidableEq, Repr

/-! ## EVU (chapter 6) -/

/-- An evaluation sample (R108), and the values of the Fm record, of Fy, of ReH and of the candidate. -/
structure EvalSample where
  time : Nat
  force : Int
  stress : Int
  strain : Option Strain
  pos : Int
  deriving DecidableEq, Repr

/-- The yield search (section 6.3). -/
inductive YieldSearch where
  | closed | rising | plateau
  deriving DecidableEq, Repr

/-- The chord state (section 6.4). -/
inductive ChordState where
  | waitingLow | waitingHigh | complete
  deriving DecidableEq, Repr

/-- The proof state (section 6.5). -/
inductive ProofState where
  | inactive | watching | found
  deriving DecidableEq, Repr

/-- A chord point (R117). -/
structure ChordPoint where
  stress : Int
  strain : Int
  deriving DecidableEq, Repr

/-- The milestone kinds (R124). -/
inductive MilestoneKind where
  | upperYield | lowerYield | yieldEnd | chordLow | chordHigh | proof | extRemoved | extLost
  | fmax | breakFound | phaseEnd | trip | hold | resume
  deriving DecidableEq, Repr

/-- A milestone record (R123). -/
structure Milestone where
  kind : MilestoneKind
  index : Option Nat
  sample : EvalSample
  value : Option Int
  deriving DecidableEq, Repr

/-- The status of the modulus (R117, R118). -/
inductive ModulusStatus where
  | notReached | valid | invalid
  deriving DecidableEq, Repr

/-- A force with its stress, as ReH and ReL enter the result (section 6.8). -/
structure ForceStress where
  force : Int
  stress : Int
  deriving DecidableEq, Repr

/-- The fields of the result summary that an evaluation or an event sets (section 6.8). The others
follow what they name: Fm the Fm record, the counts the list and the slip count, the duration the test
time. -/
structure ResultFields where
  endState : Option SeqState
  endCause : Option EndCause
  firstTrip : Option TripClass
  reh : Option ForceStress
  rel : Option ForceStress
  ae : Option Int
  modulusStatus : ModulusStatus
  modulus : Option Int
  rp : Option Int
  breakForce : Option Int
  breakStrain : Option Int
  removalStrain : Option Int
  deriving DecidableEq, Repr

/-- The Evaluation Unit. `hasTest` is set from a START until the next accepted ARM: while it is clear the
summary is the empty one (R128). `listOpen` is set from START to the end of the test (R125).
`breakSeen` stops break detection once it has found a break (R121). -/
structure Evu where
  strain : Option Strain
  fm : Option EvalSample
  breakArmed : Bool
  window : List Int
  search : YieldSearch
  fy : Option EvalSample
  reh : Option EvalSample
  candidate : Option EvalSample
  chord : ChordState
  point1 : Option ChordPoint
  point2 : Option ChordPoint
  proof : ProofState
  breakSeen : Bool
  list : List Milestone
  listOpen : Bool
  overflow : Bool
  hasTest : Bool
  result : ResultFields
  deriving DecidableEq, Repr

/-! ## PRU and OLN (chapter 7) -/

/-- A condition state (R134). TIMING holds the start time of the delay, or TENSION-2's count. -/
inductive Condition where
  | clear
  | timing (n : Nat)
  | spent
  deriving DecidableEq, Repr

/-- The last trip counted in a history record (R148). -/
structure LastTrip where
  time : BitVec 48
  force : Int
  pos : Int
  state : SeqState
  deriving DecidableEq, Repr

/-- A history record (R148). -/
structure TripRecord where
  count : Nat
  first : Option (BitVec 48)
  last : Option LastTrip
  deriving DecidableEq, Repr

/-- The Protection Unit. The trip latch is a set of classes, by number. -/
structure Pru where
  conditions : Vector Condition 8
  loadLossAt : Option Nat
  latch : Vector Bool 8
  history : Vector TripRecord 8
  protset : Option ProtSet
  deriving DecidableEq, Repr

/-- The level of an output line (R150). -/
inductive LineLevel where
  | asserted | released
  deriving DecidableEq, Repr

/-- The Output Lines. -/
structure Oln where
  manual : Vector LineLevel 4
  lineset : Option LineSet
  deriving DecidableEq, Repr

/-! ## NTU (chapter 9) -/

/-- The ten notice sources (section 9.1). -/
inductive Source where
  | trip | lane | test | milestone | extensometer | limit | range | table | store | link
  deriving DecidableEq, Repr

/-- The causes of a TEST occurrence (R105). -/
inductive TestCause where
  | arm | disarm | trip | release | start | resume | hold | clearTrip
  | tripClass (c : TripClass)
  | breakFound | programEnd | timeLimit | abortOrder
  deriving DecidableEq, Repr

/-- The causes of a failed attach (R70). -/
inductive AttachFailure where
  | channelLost | settingsChanged | noSample | removed
  deriving DecidableEq, Repr

/-- The causes of a removal (R82). -/
inductive RemovalCause where
  | strainLevel | forceDrop | rangeEnd | phaseAction | breakFound | order
  deriving DecidableEq, Repr

/-- The details of an EXTENSOMETER occurrence (R82); `lost` is true of arm B. -/
inductive ExtDetail where
  | attached (oe : Int)
  | attachFailed (cause : AttachFailure)
  | removed (cause : RemovalCause)
  | lost (armB : Bool)
  | slip (fall : Int)
  | detached
  deriving DecidableEq, Repr

/-- What a store order names (section 10.5). -/
inductive StoreTarget where
  | one (t : TableId)
  | all
  deriving DecidableEq, Repr

/-- The operation a STORE occurrence reports (R189, R190, R191). -/
inductive StoreOperation where
  | save | recall | startUp
  deriving DecidableEq, Repr

/-- The detail of an occurrence (section 9.2). -/
inductive NoticeDetail where
  | tripped (c : TripClass)
  | cleared
  | lane (lane : Lane) (up : Bool)
  | test (new previous : SeqState) (cause : TestCause)
  | milestone (kind : MilestoneKind) (index : Option Nat) (position : Option Nat)
  | ext (d : ExtDetail)
  | limit (upper : Bool) (mode : ModeName)
  | range (previous new : Fin 4)
  | table (t : TableId) (timeout : Bool)
  | store (op : StoreOperation) (target : StoreTarget) (failed : Bool)
      (tables kept : List TableId)
  | overrun (tag kind : Byte)
  deriving DecidableEq, Repr

/-- A pending record (R170). -/
structure NoticeRecord where
  detail : NoticeDetail
  count : Nat
  time : BitVec 48
  deriving DecidableEq, Repr

/-- The Notice Unit. -/
structure Ntu where
  records : Vector (Option NoticeRecord) 10
  nlevels : Option NoticeLevels
  deriving DecidableEq, Repr

/-! ## TST and the load session (chapter 10) -/

/-- The store state with what is still to be done (section 10.5). A save holds the snapshot it writes. -/
inductive StoreOp where
  | idle
  | saving (target : StoreTarget) (snapshot : Tables) (todo failed : List TableId)
  | recalling (target : StoreTarget) (todo blank kept : List TableId)
  | starting (todo blank : List TableId)
  deriving DecidableEq, Repr

/-- The Table Store. A working copy's status is VALID when its owner holds a content. -/
structure Tst where
  editions : Vector (BitVec 16) 15
  stored : Tables
  op : StoreOp
  deriving DecidableEq, Repr

/-- The names of the store states (section 10.5). -/
inductive StoreState where
  | starting | idle | saving | recalling
  deriving DecidableEq, Repr

/-- An open load session (section 10.2). -/
structure Session where
  table : TableId
  staging : List Entry
  next : Nat
  deadline : Nat
  deriving DecidableEq, Repr

/-! ## CPT (chapter 8) -/

/-- The reply codes (section 8.4). -/
inductive ReplyCode where
  | done | accepted | wrongState | badArgument | busy | busyStore | inUse | blankTable
  | conditionPresent | lineOwned | sequence | notOpen | failed | unknownOrder
  deriving DecidableEq, Repr

/-- The checks of ARM, in the order of R87. -/
inductive ArmCheck where
  | state | tripLatched | field | route | program | xset | protset | loadChannel | xheadChannel | cal
  deriving DecidableEq, Repr

/-- The checks of START, in the order of R90. -/
inductive StartCheck where
  | state | loadChannel | xheadChannel | drive
  deriving DecidableEq, Repr

/-- The causes of a failed tare (R30). -/
inductive TareFailure where
  | overrange | noCal | channelLost | noSample
  deriving DecidableEq, Repr

/-- The detail of a reply (R158). -/
inductive Detail where
  | format
  | entries
  | condition (n : Nat)
  | arm (c : ArmCheck)
  | start (c : StartCheck)
  | tare (c : TareFailure)
  | table (t : TableId)
  | tripClass (c : TripClass)
  | count (n : Nat)
  | edition (e : BitVec 16)
  | entriesEdition (n : Nat) (e : BitVec 16)
  deriving DecidableEq, Repr

/-- The result summary as RESULT-READ returns it (section 6.8). -/
structure ResultSummary where
  fields : ResultFields
  duration : Nat
  fm : Option EvalSample
  slipCount : Nat
  milestones : Nat
  overflow : Bool
  deriving DecidableEq, Repr

/-- The sections of STATUS-READ (R167), with their contents. -/
inductive Status where
  | link (checkFailures overruns coalesced outstanding : Nat) (on : Bool) (decimation : Nat)
      (sequence : Option (BitVec 16))
  | lanes (lanes : List (LaneStatus × Nat × Nat × Nat))
  | load (last : LastForce) (tare : Int) (received requested : Option (Fin 4))
      (outstanding tareInProgress : Bool)
  | crosshead (pos : Int) (good : Bool) (demand : Option Int) (mode : ModeName)
      (jog : Option Int) (drive : DriveStatus) (lastEnable : Bool)
  | extensometer (handler : HandlerState) (extOpen : Bool) (zeroA zeroB : Option Int)
      (deltaA deltaB : Option Int) (pRef ox oe : Int) (reported : Option Strain)
      (slipCount : Nat) (settling averaging : Bool)
  | test (state : SeqState) (slot : Option (Fin 4)) (phase : Option Nat)
      (phaseTime testTime : Nat) (endCause : Option EndCause) (inUse : List TableId)
  | protection (latch : List TripClass) (conditions : List Condition) (dump tripLamp : Bool)
  | lines (lines : List (LineFunction × LineLevel × LineLevel))
      (extOpen dump tripLamp testActive : Bool)
  | notices (sources : List (Level × Option (Nat × NoticeDetail)))
  | tables (tables : List (Bool × BitVec 16)) (op : StoreState)
      (target : Option StoreTarget) (session : Option TableId)
  deriving DecidableEq, Repr

/-- The payload of a reply (R158). -/
inductive Payload where
  | tare (t : Int)
  | entries (total : Nat) (edition : BitVec 16) (entries : List Entry)
  | result (r : ResultSummary)
  | milestone (m : Milestone) (count : Nat)
  | history (records : Vector TripRecord 8)
  | status (s : Status)
  deriving DecidableEq, Repr

/-- A reply (R158). -/
structure Reply where
  tag : Byte
  kind : Byte
  code : ReplyCode
  detail : Option Detail
  payload : Option Payload
  deriving DecidableEq, Repr

/-- A measurement frame (R164). -/
structure MeasurementFrame where
  sequence : BitVec 16
  testFlag : Bool
  time : BitVec 32
  force : Int
  quality : ForceQuality
  peak : Int
  stress : Option Int
  strain : Option Strain
  pos : Int
  good : Bool
  demand : Option Int
  state : SeqState
  phase : Option Nat
  latched : Bool
  handler : HandlerState
  raw : List (Fin 10 × Int)
  deriving DecidableEq, Repr

/-- A notice frame (R171). -/
structure NoticeFrame where
  source : Source
  level : Level
  detail : NoticeDetail
  count : Nat
  time : BitVec 32
  deriving DecidableEq, Repr

/-- The frame in transmission on the outbound link (R159). -/
inductive OutFrame where
  | measurement (f : MeasurementFrame)
  | reply (r : Reply)
  | notice (n : NoticeFrame)
  deriving DecidableEq, Repr

/-- An outstanding order; `answered` is set once its reply has been formed (R157, R158). -/
structure Outstanding where
  tag : Byte
  kind : Byte
  answered : Bool
  deriving DecidableEq, Repr

/-- The Controller Port. `link` is none while the outbound link is FREE; `sequence` is that of the last
measurement frame whose transmission started (R165). -/
structure Cpt where
  outstanding : List Outstanding
  replies : List Reply
  link : Option OutFrame
  checkFailures : Nat
  overruns : Nat
  coalesced : Nat
  streamOn : Bool
  decimation : Nat
  count : Nat
  fallbackAt : Option Nat
  due : Bool
  peak : Option Int
  sequence : Option (BitVec 16)
  session : Option Session
  deriving DecidableEq, Repr

/-! ## The whole part -/

/-- A frame the part sends on a lane (R7, R46). -/
inductive LaneOut where
  | rangeRequest (range : Fin 4) (sub : Fin 2)
  | demand (enable moving : Bool) (demand : Int)
  deriving DecidableEq, Repr

/-- The state of the part. `pending` is the queue of commands waiting to be taken, `now` the run clock
in microseconds since power-on (section 4.2), `sent` the frames the latest command has put on the
lanes, oldest first, and `choices` the number of open choices taken so far (assumption 4). -/
structure State where
  pending : List Instr
  now : Nat
  sent : List (Lane × LaneOut)
  choices : Nat
  lif : Lif
  rtb : Rtb
  lch : Lch
  xhu : Xhu
  exh : Exh
  tsq : Tsq
  evu : Evu
  pru : Pru
  oln : Oln
  cpt : Cpt
  ntu : Ntu
  tst : Tst
  deriving DecidableEq, Repr

/-! ## The power-on state -/

/-- No table holds a content: the working copies at power-on (R179), or stored copies never written. -/
def Tables.blank : Tables :=
  { route := none, cal := Vector.replicate 4 none, loadset := none, extset := none, xset := none
    protset := none, lineset := none, nlevels := none, prog := Vector.replicate 4 none }

/-- The tables in identity order (section 10.1). -/
def allTables : List TableId :=
  [.route, .cal 0, .cal 1, .cal 2, .cal 3, .loadset, .extset, .xset, .protset, .lineset, .nlevels,
   .prog 0, .prog 1, .prog 2, .prog 3]

/-- The empty result summary's own fields (R128). -/
def ResultFields.empty : ResultFields :=
  { endState := none, endCause := none, firstTrip := none, reh := none, rel := none, ae := none
    modulusStatus := .notReached, modulus := none, rp := none, breakForce := none
    breakStrain := none, removalStrain := none }

/-- An empty history record (R148). -/
def TripRecord.empty : TripRecord :=
  { count := 0, first := none, last := none }

/-- The held drive status at power-on and after a loss of L4 (R15, R16, R61). -/
def noDriveStatus : DriveStatus :=
  { ready := false, fault := false, saturated := false }

/-- The state each block takes at power-on, over the stored copies the Table Store keeps without power
(R16, R39, R61, R83, R107, R131, R153, R154, R169, R177, R191). The queue and the number of open
choices are the model's own. -/
def State.powerOn (pending : List Instr) (choices : Nat) (stored : Tables) : State :=
  { pending := pending
    now := 0
    sent := []
    choices := choices
    lif :=
      { lanes := Vector.replicate 5
          { status := .down, silence := none, checkFailures := 0, moduleFaults := 0, unmapped := 0 } }
    rtb := { route := none, holdings := Vector.replicate 10 none }
    lch :=
      { tare := 0, last := { net := 0, gross := 0, quality := .stale, range := none }
        received := none, requested := none, awaiting := false, repeatAt := none, dwell := none
        tareJob := none, stress := none, cal := Vector.replicate 4 none, loadset := none }
    xhu :=
      { pos := 0, good := false, demand := none, drive := noDriveStatus, lastEnable := false
        demandAt := none, mode := .hold, a := 0, b := 0, target := none, strain := 0, xset := none }
    exh :=
      { handler := .detached, latestA := none, latestB := none, zeroA := none, zeroB := none
        deltaA := none, deltaB := none, settleAt := none, averaging := none, pRef := 0, ox := 0, oe := 0
        reported := none, lastExt := none, slipCount := 0, extset := none }
    tsq :=
      { state := .idle, specimen := none, slot := none, phase := none, phaseBase := 0, phaseSince := 0
        phaseTimer := none, startedAt := 0, limitAt := none, testTime := 0, endCause := none
        prog := Vector.replicate 4 none }
    evu :=
      { strain := none, fm := none, breakArmed := false, window := [], search := .closed, fy := none
        reh := none, candidate := none, chord := .waitingLow, point1 := none, point2 := none
        proof := .inactive, breakSeen := false, list := [], listOpen := false, overflow := false
        hasTest := false, result := ResultFields.empty }
    pru :=
      { conditions := Vector.replicate 8 .clear, loadLossAt := none, latch := Vector.replicate 8 false
        history := Vector.replicate 8 TripRecord.empty, protset := none }
    oln := { manual := Vector.replicate 4 .released, lineset := none }
    cpt :=
      { outstanding := [], replies := [], link := none, checkFailures := 0, overruns := 0, coalesced := 0
        streamOn := false, decimation := 16, count := 0, fallbackAt := none, due := false, peak := none
        sequence := none, session := none }
    ntu := { records := Vector.replicate 10 none, nlevels := none }
    tst :=
      { editions := Vector.replicate 15 0, stored := stored, op := .starting allTables [] } }

/-- The part right after power-on, with stored copies that have never been written (assumption 1). -/
def State.reset : State :=
  State.powerOn [] 0 Tables.blank

end Sys2Proof.Machine
end

