-- ==== Sys2Proof/Machine/Flags.lean ====
section
/-!
DEFINITION. What follows from the state at a moment: the states of channels, functions and lines, the
in-use judgement, the times, and the other views that several blocks read.
-/

namespace Sys2Proof.Machine

/-! ## Numbers of named things -/

/-- The route entry of a (lane, sub-channel) pair (section 1.6). -/
def routeKey (lane : Lane) (sub : Fin 2) : Fin 10 :=
  ⟨2 * lane.val + sub.val, by omega⟩

/-- The lane of a route entry. -/
def keyLane (k : Fin 10) : Lane :=
  ⟨k.val / 2, by omega⟩

/-- The sub-channel of a route entry. -/
def keySub (k : Fin 10) : Fin 2 :=
  ⟨k.val % 2, by omega⟩

/-- The identity number of a table (section 10.1). -/
def tableNumber : TableId → Fin 15
  | .route => 0
  | .cal g => ⟨g.val + 1, by omega⟩
  | .loadset => 5
  | .extset => 6
  | .xset => 7
  | .protset => 8
  | .lineset => 9
  | .nlevels => 10
  | .prog k => ⟨k.val + 11, by omega⟩

/-- The number of a trip class (section 7.1). -/
def tripNumber : TripClass → Fin 8
  | .tension1 => 0
  | .tension2 => 1
  | .compression => 2
  | .following => 3
  | .travel => 4
  | .loadLost => 5
  | .positionLost => 6
  | .driveFault => 7

/-- The trip classes in the order of their numbers. -/
def allTrips : List TripClass :=
  [.tension1, .tension2, .compression, .following, .travel, .loadLost, .positionLost, .driveFault]

/-- The DUMP-class classes; the others are HOLD-class (section 7.1). -/
def isDump : TripClass → Bool
  | .tension2 | .travel | .positionLost | .driveFault => true
  | _ => false

/-- The number of a notice source (section 9.1). -/
def sourceNumber : Source → Fin 10
  | .trip => 0
  | .lane => 1
  | .test => 2
  | .milestone => 3
  | .extensometer => 4
  | .limit => 5
  | .range => 6
  | .table => 7
  | .store => 8
  | .link => 9

/-- The notice sources in the order of their numbers. -/
def allSources : List Source :=
  [.trip, .lane, .test, .milestone, .extensometer, .limit, .range, .table, .store, .link]

/-- The default level of a source (section 9.1). -/
def defaultLevel : Source → Level
  | .trip | .lane => .three
  | .test | .milestone | .extensometer | .link => .two
  | .limit | .range | .table | .store => .one

/-- The name of a mode. -/
def modeName : XhuMode → ModeName
  | .hold => .hold
  | .positionRate _ _ => .positionRate
  | .strainRate _ _ _ _ => .strainRate
  | .stressRate _ _ _ _ => .stressRate
  | .jog _ _ => .jog

/-- The velocity of an active jog. -/
def jogVelocity : XhuMode → Option Int
  | .jog v _ => some v
  | _ => none

/-- Whether a jog is active. -/
def jogActive (s : State) : Bool :=
  (jogVelocity s.xhu.mode).isSome

/-! ## Times (section 4.2) -/

/-- The 48-bit run clock. -/
def runClock (s : State) : BitVec 48 :=
  BitVec.ofNat 48 s.now

/-- "During a test": RUNNING, HELD or TRIPPED (section 5). -/
def inTest (s : State) : Bool :=
  match s.tsq.state with
  | .running | .held | .tripped => true
  | _ => false

/-- Test time: it advances with the run clock while the time-limit timer runs, stands at the limit once
it is reached, and keeps its value at the end of a test (R97). -/
def testTime (s : State) : Nat :=
  match s.tsq.limitAt with
  | some limit => min s.now limit - s.tsq.startedAt
  | none => s.tsq.testTime

/-- Phase time: the RUNNING time spent in the current phase (R93). -/
def phaseTime (s : State) : Nat :=
  if s.tsq.state = .running then s.tsq.phaseBase + (s.now - s.tsq.phaseSince) else s.tsq.phaseBase

/-! ## Channels (R10) -/

/-- The entry that carries a channel in a route table; none where no entry does or it is BLANK. -/
def entryOf (route : Option RouteTable) (c : Channel) : Option (Fin 10) :=
  match route with
  | none => none
  | some r => (List.finRange 10).find? fun k => r[k].channel = c

/-- Whether a lane is UP. -/
def laneUp (s : State) (lane : Lane) : Bool :=
  s.lif.lanes[lane].status = .up

/-- Whether a channel is UP under a route table. -/
def channelUpUnder (s : State) (route : Option RouteTable) (c : Channel) : Bool :=
  match entryOf route c with
  | none => false
  | some k => laneUp s (keyLane k)

/-- Whether a channel is UP (R10). -/
def channelUp (s : State) (c : Channel) : Bool :=
  channelUpUnder s s.rtb.route c

/-! ## The trip latch and the line functions (R81, R145, R150, R152) -/

/-- Whether a class is in the trip latch. -/
def latched (s : State) (c : TripClass) : Bool :=
  s.pru.latch[tripNumber c]

/-- The latched classes, lowest number first. -/
def latchedClasses (s : State) : List TripClass :=
  allTrips.filter (latched s)

/-- Whether the trip latch is empty. -/
def latchEmpty (s : State) : Bool :=
  allTrips.all fun c => !latched s c

/-- The EXT-OPEN function: asserted while the handler is OPENED (R81). -/
def extOpenFunction (s : State) : Bool :=
  s.exh.handler = .opened

/-- The DUMP function: asserted while a DUMP-class class is latched (R145). -/
def dumpFunction (s : State) : Bool :=
  allTrips.any fun c => isDump c && latched s c

/-- The TRIP-LAMP function: asserted while the latch is not empty (R145). -/
def tripLampFunction (s : State) : Bool :=
  !latchEmpty s

/-- The TEST-ACTIVE function: asserted during a test (R152). -/
def testActiveFunction (s : State) : Bool :=
  inTest s

/-- The function of an output line; every line is MANUAL while LINESET is BLANK (R187). -/
def lineFunction (s : State) (i : Fin 4) : LineFunction :=
  match s.oln.lineset with
  | none => .manual
  | some fs => fs[i]

/-- The present level of an output line (R150). -/
def lineLevel (s : State) (i : Fin 4) : LineLevel :=
  let follow (f : Bool) : LineLevel := if f then .asserted else .released
  match lineFunction s i with
  | .manual => s.oln.manual[i]
  | .extOpen => follow (extOpenFunction s)
  | .dump => follow (dumpFunction s)
  | .tripLamp => follow (tripLampFunction s)
  | .testActive => follow (testActiveFunction s)

/-! ## Working copies and the in-use judgement (R179, R186) -/

/-- The working copies, each as its owner holds it. -/
def workingCopies (s : State) : Tables :=
  { route := s.rtb.route, cal := s.lch.cal, loadset := s.lch.loadset, extset := s.exh.extset
    xset := s.xhu.xset, protset := s.pru.protset, lineset := s.oln.lineset
    nlevels := s.ntu.nlevels, prog := s.tsq.prog }

/-- Whether a table holds a content: a VALID working copy, or a stored copy that is not empty. -/
def hasContent (t : Tables) : TableId → Bool
  | .route => t.route.isSome
  | .cal g => t.cal[g].isSome
  | .loadset => t.loadset.isSome
  | .extset => t.extset.isSome
  | .xset => t.xset.isSome
  | .protset => t.protset.isSome
  | .lineset => t.lineset.isSome
  | .nlevels => t.nlevels.isSome
  | .prog k => t.prog[k].isSome

/-- Whether a working copy is VALID (R179). -/
def valid (s : State) (t : TableId) : Bool :=
  hasContent (workingCopies s) t

/-- Whether a table is in use (section 10.3). -/
def tableInUse (s : State) : TableId → Bool
  | .route | .cal _ | .loadset | .extset => s.tsq.specimen.isSome
  | .prog k => s.tsq.specimen.isSome && s.tsq.slot = some k
  | .xset | .protset => s.tsq.specimen.isSome || !latchEmpty s
  | .lineset => inTest s || !latchEmpty s
  | .nlevels => false

/-- Whether a store operation in flight concerns a table (R180). -/
def storeConcerns (s : State) (t : TableId) : Bool :=
  let names : StoreTarget → Bool
    | .one u => u = t
    | .all => true
  match s.tst.op with
  | .idle => false
  | .saving target _ _ _ => names target
  | .recalling target _ _ _ => names target
  | .starting _ _ => true

/-- Whether the Table Store is STARTING (R191). -/
def storeStarting (s : State) : Bool :=
  match s.tst.op with
  | .starting _ _ => true
  | _ => false

/-- Whether the Table Store is IDLE. -/
def storeIdle (s : State) : Bool :=
  match s.tst.op with
  | .idle => true
  | _ => false

/-! ## Load (chapter 2) -/

/-- LOADSET, or the defaults of section 2.6 while it is BLANK (R32). -/
def loadSettings (s : State) : LoadSet :=
  s.lch.loadset.getD { mode := .auto, up := 9500, down := 4000, dwellMs := 100 }

/-- The full scale of a calibration table: the larger of |f₀| and |fₙ₋₁| (section 2.1). -/
def fullScale (t : CalTable) : Int :=
  max ((t.head?.map CalPoint.force).getD 0).natAbs ((t.getLast?.map CalPoint.force).getD 0).natAbs

/-- Whether the calibration table of a range is VALID. -/
def calValid (s : State) (g : Fin 4) : Bool :=
  s.lch.cal[g].isSome

/-- The coarsest VALID range: the lowest-numbered range whose table is VALID (R37). -/
def coarsestValid (s : State) : Option (Fin 4) :=
  (List.finRange 4).find? (calValid s)

/-- Whether a range request is outstanding (R33). With the requested range unset there is none, though
no sample may have arrived since the last request was made (assumption 40). -/
def requestOutstanding (s : State) : Bool :=
  match s.lch.requested with
  | none => false
  | some h => s.lch.received ≠ some h || s.lch.awaiting

/-- The stress at this moment: the latest one, or, before the first force update of an armed record,
the one the rule of R27 gives from the last force held (R56). Read during a test only, when a record
is held. -/
def currentStress (s : State) : Int :=
  match s.lch.stress, s.tsq.specimen with
  | some stress, _ => stress
  | none, some r => stressOf s.lch.last.net r.s0
  | none, none => 0

/-! ## Strain (chapter 4) -/

/-- Whether an arm is in use under an EXTSET (section 4.1); `armB` names EXT-B. -/
def armInUse (x : ExtSet) (armB : Bool) : Bool :=
  !armB || x.twoArm

/-- The channel of an arm. -/
def armChannel (armB : Bool) : Channel :=
  if armB then .extB else .extA

/-- The latest ΔL of an arm, where the arm is in use (R82); none while EXTSET is BLANK. -/
def deltaInUse (s : State) (armB : Bool) : Option Int :=
  match s.exh.extset with
  | none => none
  | some x => if armInUse x armB then (if armB then s.exh.deltaB else s.exh.deltaA) else none

/-- The gauge length: L0 of the specimen record while one is held, else the setup gauge length (R66). -/
def gaugeLength (s : State) (x : ExtSet) : Int :=
  match s.tsq.specimen with
  | some r => r.l0
  | none => x.setupLength

/-- The raw crosshead strain of a position (R73). -/
def rawCrossheadStrain (s : State) (pos : Int) : Int :=
  match s.tsq.specimen with
  | some r => roundDiv ((pos - s.exh.pRef) * 10000) r.lc
  | none => 0

/-! ## Programs (chapter 5) -/

/-- The phases of the armed program, read from its working copy (R86). -/
def armedProgram (s : State) : Option Program :=
  match s.tsq.slot with
  | none => none
  | some k => s.tsq.prog[k]

/-- A phase of the armed program. -/
def phaseAt (s : State) (k : Nat) : Option Phase :=
  match armedProgram s with
  | none => none
  | some p => p.phases[k]?

/-- The current phase. -/
def currentPhase (s : State) : Option Phase :=
  match s.tsq.phase with
  | none => none
  | some k => phaseAt s k

/-! ## Notices (chapter 9) -/

/-- The level in force at a source: NLEVELS, or the defaults while it is BLANK (R175). -/
def noticeLevel (s : State) (src : Source) : Level :=
  match s.ntu.nlevels with
  | none => defaultLevel src
  | some levels => levels[sourceNumber src]

/-! ## Results (section 6.8) -/

/-- The result summary as it stands (R127, R128, R129). -/
def resultSummary (s : State) : ResultSummary :=
  if s.evu.hasTest then
    { fields := s.evu.result, duration := testTime s, fm := s.evu.fm, slipCount := s.exh.slipCount
      milestones := s.evu.list.length, overflow := s.evu.overflow }
  else
    { fields := ResultFields.empty, duration := 0, fm := none, slipCount := 0, milestones := 0
      overflow := false }

/-- The values current at an event: test time, force, stress, reported strain and position, as the
milestones handed by the sequencer carry them (R94, R102). -/
def currentSample (s : State) : EvalSample :=
  { time := testTime s, force := s.lch.last.net, stress := currentStress s
    strain := s.exh.reported, pos := s.xhu.pos }

end Sys2Proof.Machine
end

