-- ==== Sys2Proof/Machine/Ops.lean ====
section
/-!
DEFINITION. The shared operations every block's meaning is built from: replacing a block's state, the
run clock, open choices, frames on the lanes, raising an occurrence, starting the next outbound frame,
and answering an order.
-/

namespace Sys2Proof.Machine

/-! ## Replacing one block's state -/

/-- `s` with another Lif. -/
def State.setLif (s : State) (x : Lif) : State :=
  { s with lif := x }

/-- `s` with another Rtb. -/
def State.setRtb (s : State) (x : Rtb) : State :=
  { s with rtb := x }

/-- `s` with another Lch. -/
def State.setLch (s : State) (x : Lch) : State :=
  { s with lch := x }

/-- `s` with another Xhu. -/
def State.setXhu (s : State) (x : Xhu) : State :=
  { s with xhu := x }

/-- `s` with another Exh. -/
def State.setExh (s : State) (x : Exh) : State :=
  { s with exh := x }

/-- `s` with another Tsq. -/
def State.setTsq (s : State) (x : Tsq) : State :=
  { s with tsq := x }

/-- `s` with another Evu. -/
def State.setEvu (s : State) (x : Evu) : State :=
  { s with evu := x }

/-- `s` with another Pru. -/
def State.setPru (s : State) (x : Pru) : State :=
  { s with pru := x }

/-- `s` with another Oln. -/
def State.setOln (s : State) (x : Oln) : State :=
  { s with oln := x }

/-- `s` with another Cpt. -/
def State.setCpt (s : State) (x : Cpt) : State :=
  { s with cpt := x }

/-- `s` with another Ntu. -/
def State.setNtu (s : State) (x : Ntu) : State :=
  { s with ntu := x }

/-- `s` with another Tst. -/
def State.setTst (s : State) (x : Tst) : State :=
  { s with tst := x }


/-! ## The run clock (section 4.2) -/

/-- The start of a command that is taken `dt` microseconds after the one before it. -/
def elapse (dt : Nat) (s : State) : State :=
  { s with now := s.now + dt, sent := [] }

/-- The start of a timer's expiry: the run clock stands at the moment the timer runs out, or where it
is when that moment has passed (assumption 2). -/
def reach (deadline : Nat) (s : State) : State :=
  { s with now := max s.now deadline, sent := [] }

/-- The start of a command that finds nothing to do at its time. -/
def begin0 (s : State) : State :=
  { s with sent := [] }

/-! ## Acts in an open order -/

/-- Several blocks' acts on one event, taken one after another in an order that is left open. A single
act needs no choice. -/
def inOpenOrder (acts : List (State → State)) (s : State) : State :=
  match acts with
  | [] => s
  | [act] => act s
  | _ =>
    (arrange acts.length (Config.choice s.choices) acts).foldl (fun t act => act t)
      { s with choices := s.choices + 1 }

/-- One of `n` outcomes, left open: its number and the state after the choice. -/
def openChoice (n : Nat) (s : State) : Nat × State :=
  (Config.choice s.choices % n, { s with choices := s.choices + 1 })

/-! ## Frames on the lanes (R7) -/

/-- A frame goes out on a lane, whatever the lane's state. -/
def sendOnLane (lane : Lane) (f : LaneOut) (s : State) : State :=
  { s with sent := s.sent ++ [(lane, f)] }

/-! ## The outbound link (R159, R160) -/

/-- The fresh raw holdings, ordered by lane and then sub-channel, at most four (R13). -/
def freshHoldings (s : State) : List (Fin 10 × Int) :=
  ((List.finRange 10).filterMap fun k =>
    match s.rtb.holdings[k] with
    | some h => if h.fresh then some (k, h.value) else none
    | none => none).take 4

/-- The raw holdings with the fresh marks of the ones taken cleared (R13). -/
def clearTaken (taken : List (Fin 10)) (holdings : Vector (Option RawHolding) 10) :
    Vector (Option RawHolding) 10 :=
  taken.foldl (fun hs (k : Fin 10) => hs.set k (hs[k].map fun h => { h with fresh := false })) holdings

/-- The frame sequence of the next measurement frame (R165). -/
def nextSequence (last : Option (BitVec 16)) : BitVec 16 :=
  match last with
  | none => 0
  | some n => n + 1

/-- The stress field of a measurement frame: present throughout a test, and in ARMED from the first
force update after the ARM (R164, assumption 30). -/
def stressField (s : State) : Option Int :=
  if inTest s then some (currentStress s)
  else if s.tsq.specimen.isSome then s.lch.stress
  else none

/-- A measurement frame assembled from the values held now (R164, R165). -/
def assembleMeasurement (s : State) : MeasurementFrame :=
  { sequence := nextSequence s.cpt.sequence
    testFlag := inTest s
    time := if inTest s then BitVec.ofNat 32 (testTime s) else BitVec.ofNat 32 s.now
    force := s.lch.last.net
    quality := s.lch.last.quality
    peak := s.cpt.peak.getD s.lch.last.net
    stress := stressField s
    strain := s.exh.reported
    pos := s.xhu.pos
    good := s.xhu.good
    demand := s.xhu.demand
    state := s.tsq.state
    phase := s.tsq.phase
    latched := !latchEmpty s
    handler := s.exh.handler
    raw := freshHoldings s }

/-- The transmission of the due measurement frame starts: the due flag clears, the peak is reset, the
sequence advances and the fresh marks taken are cleared (R160, R13). -/
def startMeasurement (s : State) : State :=
  (s.setCpt { s.cpt with
      link := some (.measurement (assembleMeasurement s))
      due := false
      peak := none
      sequence := some (nextSequence s.cpt.sequence) }).setRtb
    { s.rtb with holdings := clearTaken ((freshHoldings s).map Prod.fst) s.rtb.holdings }

/-- The lowest-numbered source with a pending notice at a level (R159, R171). -/
def pendingAt (level : Level) (s : State) : Option Source :=
  allSources.find? fun src => s.ntu.records[sourceNumber src].isSome && noticeLevel s src = level

/-- The transmission of a source's notice starts: the frame is assembled from its record, which is
released (R160, R171). -/
def startNotice (src : Source) (s : State) : State :=
  match s.ntu.records[sourceNumber src] with
  | none => s
  | some r =>
    (s.setCpt { s.cpt with
        link := some (.notice
          { source := src, level := noticeLevel s src, detail := r.detail, count := r.count
            time := r.time.setWidth 32 }) }).setNtu
      { s.ntu with records := s.ntu.records.set (sourceNumber src) none }

/-- The transmission of the oldest reply starts; it leaves the reply queue (R158, R160). -/
def startReply (r : Reply) (rest : List Reply) (s : State) : State :=
  s.setCpt { s.cpt with link := some (.reply r), replies := rest }

/-- The arbiter: when the link is FREE and a frame is waiting, the first of the five precedence classes
of R159 that is waiting starts. -/
def arbitrate (s : State) : State :=
  match s.cpt.link with
  | some _ => s
  | none =>
    if s.cpt.due then startMeasurement s
    else
      match pendingAt .three s with
      | some src => startNotice src s
      | none =>
        match s.cpt.replies with
        | r :: rest => startReply r rest s
        | [] =>
          match pendingAt .two s with
          | some src => startNotice src s
          | none =>
            match pendingAt .one s with
            | some src => startNotice src s
            | none => s

/-! ## Occurrences (R170) -/

/-- The record of a source after one more occurrence (R170). -/
def countOccurrence (detail : NoticeDetail) (time : BitVec 48) :
    Option NoticeRecord → NoticeRecord
  | none => { detail := detail, count := 1, time := time }
  | some r => if r.count < 255 then { r with count := r.count + 1 } else r

/-- An occurrence reaches the NTU: dropped at an OFF source, else counted into the source's pending
record, which the arbiter is offered (R170, R171). -/
def raise (src : Source) (detail : NoticeDetail) (s : State) : State :=
  if noticeLevel s src = .off then s
  else
    arbitrate (s.setNtu { s.ntu with
      records := s.ntu.records.set (sourceNumber src)
        (some (countOccurrence detail (runClock s) s.ntu.records[sourceNumber src])) })

/-! ## Replies (R157, R158) -/

/-- A reply joins the end of the reply queue, and the arbiter is offered it (R158, R159). -/
def joinReply (r : Reply) (s : State) : State :=
  arbitrate (s.setCpt { s.cpt with replies := s.cpt.replies ++ [r] })

/-- The outstanding set with its newest order answered. -/
def answerLast : List Outstanding → List Outstanding
  | [] => []
  | [o] => [{ o with answered := true }]
  | o :: os => o :: answerLast os

/-- The outstanding set with its first unanswered order of a tag and kind answered. -/
def answerFirst (tag kind : Byte) : List Outstanding → List Outstanding
  | [] => []
  | o :: os =>
    if !o.answered && o.tag = tag && o.kind = kind then { o with answered := true } :: os
    else o :: answerFirst tag kind os

/-- The outstanding set without its first answered order of a tag and kind. -/
def dropAnswered (tag kind : Byte) : List Outstanding → List Outstanding
  | [] => []
  | o :: os =>
    if o.answered && o.tag = tag && o.kind = kind then os else o :: dropAnswered tag kind os

/-- The order being dispatched, the newest in the outstanding set, is answered (R156, R158). -/
def answer (kind tag : Byte) (code : ReplyCode) (detail : Option Detail)
    (payload : Option Payload) (s : State) : State :=
  joinReply { tag := tag, kind := kind, code := code, detail := detail, payload := payload }
    (s.setCpt { s.cpt with outstanding := answerLast s.cpt.outstanding })

/-- The TARE order of a tare in progress is answered at its completion or failure (R29, R30). -/
def answerTare (tag : Byte) (code : ReplyCode) (detail : Option Detail)
    (payload : Option Payload) (s : State) : State :=
  joinReply
    { tag := tag, kind := orderCode .tare, code := code, detail := detail, payload := payload }
    (s.setCpt { s.cpt with
      outstanding := answerFirst tag (orderCode .tare) s.cpt.outstanding })

end Sys2Proof.Machine
end

