-- ==== Sys2Proof/Machine/Crosshead.lean ====
section
/-!
DEFINITION. The Crosshead Unit's own operations (chapter 3): entering HOLD, mode requests, the step of
each mode, the clamp, initialising the demand, drive enable and the DEMAND frame. The end of a jog is
an event LOAD-LOST is judged on (R139), so the quiet half of that judgement stands here.
-/

namespace Sys2Proof.Machine

/-! ## Condition states, and LOAD-LOST when it can only become false (R134, R139) -/

/-- The condition state of a class. -/
def condition (s : State) (c : TripClass) : Condition :=
  s.pru.conditions[tripNumber c]

/-- `s` with another condition state of a class. -/
def setCondition (c : TripClass) (x : Condition) (s : State) : State :=
  s.setPru { s.pru with conditions := s.pru.conditions.set (tripNumber c) x }

/-- LOAD-LOST's condition, `up` being the state of the LOAD channel: it is not UP while the sequencer is
ARMED, RUNNING or HELD or a jog is active (R139). -/
def loadLostHolds (up : Bool) (s : State) : Bool :=
  !up && (s.tsq.state = .armed || s.tsq.state = .running || s.tsq.state = .held || jogActive s)

/-- LOAD-LOST's condition has become false: the timer stops and the state returns to CLEAR (R139). -/
def clearLoadLost (s : State) : State :=
  s.setPru { s.pru with
    conditions := s.pru.conditions.set (tripNumber .loadLost) .clear
    loadLossAt := none }

/-- LOAD-LOST judged at an event that only ends what needs LOAD: the end of a jog, and a change of state
by a trip or an end of test, which find the crosshead in HOLD (R139, assumption 36). -/
def settleLoadLost (s : State) : State :=
  if loadLostHolds (channelUp s .load) s then s else clearLoadLost s

/-! ## Modes (R51, R52, R57) -/

/-- The XHU enters HOLD: the accumulators are cleared, the target and the parameters dropped, and a jog
in progress ends (R52, R60). -/
def enterHold (s : State) : State :=
  settleLoadLost (s.setXhu { s.xhu with mode := .hold, a := 0, b := 0, target := none })

/-- A mode request from the sequencer. While the trip latch is not empty a request for any mode but
HOLD is refused inside the part; a closed-loop request re-bases its target (R51, R57). -/
def requestMode (m : XhuMode) (s : State) : State :=
  match m with
  | .hold => enterHold s
  | .positionRate _ _ =>
    if latchEmpty s then s.setXhu { s.xhu with mode := m, a := 0, target := none } else s
  | .strainRate _ _ _ _ =>
    if latchEmpty s then
      s.setXhu { s.xhu with mode := m, a := 0, b := 0, target := some s.xhu.strain } else s
  | .stressRate _ _ _ _ =>
    if latchEmpty s then
      s.setXhu { s.xhu with mode := m, a := 0, b := 0, target := some (currentStress s) } else s
  | .jog _ _ => s

/-! ## The demand (R48, R49, R53 to R56) -/

/-- D is clamped into the soft travel limits; a clamp that changes it raises a LIMIT occurrence (R49).
Limits narrowed past a D that a trip has frozen clamp it too (assumption 42). -/
def clampDemand (s : State) : State :=
  match s.xhu.demand, s.xhu.xset with
  | some d, some x =>
    let clamped := clamp x.softLower x.softUpper d
    if clamped = d then s
    else
      raise .limit (.limit (x.softUpper < d) (modeName s.xhu.mode))
        (s.setXhu { s.xhu with demand := some clamped })
  | _, _ => s

/-- D is initialised: set to P, clamped at once, and the step accumulator cleared (R48). -/
def initialiseDemand (s : State) : State :=
  clampDemand (s.setXhu { s.xhu with demand := some s.xhu.pos, a := 0 })

/-- A velocity turned into whole-nanometre steps through the step accumulator (R53). -/
def stepDemand (v direction : Int) (x : Xhu) : Xhu :=
  let step := (x.a + v) / 4000
  { x with a := x.a + v - step * 4000, demand := x.demand.map (· + direction * step) }

/-- The closed loop: the target advances unless the valve is saturated, the velocity is the feedforward
and the correction, capped at vmax with the advance undone and floored at 0 (R54, R55, R56). -/
def closedLoop (rate : Int) (gain : Nat) (vmax feedforward measured : Int) (x : Xhu) : Xhu :=
  let target := x.target.getD measured
  let advance := if x.drive.saturated then 0 else (x.b + rate) / 4000
  let b := if x.drive.saturated then x.b else x.b + rate - advance * 4000
  let v := feedforward + ((target + advance - measured) * gain) / 256
  if vmax < v then stepDemand vmax 1 { x with target := some target }
  else stepDemand (max v 0) 1 { x with target := some (target + advance), b := b }

/-- Stage 1 of a demand expiry: the step of the present mode (R45, R52 to R56, R59). -/
def stepMode (s : State) : State :=
  match s.xhu.demand with
  | none => s
  | some _ =>
    match s.xhu.mode with
    | .hold => s
    | .positionRate v direction => s.setXhu (stepDemand v direction s.xhu)
    | .strainRate rate gain vmax lc =>
      s.setXhu (closedLoop rate gain vmax (rate * lc / 10000) s.xhu.strain s.xhu)
    | .stressRate rate gain vmax feedforward =>
      s.setXhu (closedLoop rate gain vmax feedforward (currentStress s) s.xhu)
    | .jog v _ => s.setXhu (stepDemand v.natAbs (if v < 0 then -1 else 1) s.xhu)

/-- Drive enable (R47). -/
def driveEnable (s : State) : Bool :=
  s.xhu.demand.isSome && s.xhu.good && s.xhu.drive.ready && !dumpFunction s

/-- The demand a DEMAND frame carries (R46). -/
def demandSent (s : State) : Int :=
  match s.xhu.demand, s.xhu.xset with
  | some d, _ => d
  | none, some x => clamp x.softLower x.softUpper 0
  | none, none => 0

/-- Stage 4 of a demand expiry: the DEMAND frame goes out on L4 and its enable is kept (R46). -/
def sendDemand (s : State) : State :=
  sendOnLane 4 (.demand (driveEnable s) (decide (s.xhu.mode ≠ .hold)) (demandSent s))
    (s.setXhu { s.xhu with lastEnable := driveEnable s })

end Sys2Proof.Machine
end

