-- ==== Sys2Proof/Machine/Milestones.lean ====
section
/-!
DEFINITION. The milestone list and the parts of the Evaluation Unit that other blocks reach: recording
a milestone, the end of the plateau and of the test (sections 6.3, 6.7, 6.8).
-/

namespace Sys2Proof.Machine

/-! ## Recording a milestone (R124, R126) -/

/-- The kinds with a place reserved (R124). -/
def reservedKind : MilestoneKind → Bool
  | .fmax | .breakFound => true
  | _ => false

/-- Whether the limit of R124 is already reached: once for most kinds, once for each phase index for
PHASE-END, never for TRIP, HOLD and RESUME. -/
def alreadyRecorded (list : List Milestone) (m : Milestone) : Bool :=
  match m.kind with
  | .trip | .hold | .resume => false
  | .phaseEnd => list.any fun r => r.kind = .phaseEnd && r.index = m.index
  | k => list.any fun r => r.kind = k

/-- How many records of non-reserved kinds a list holds. -/
def nonReservedCount (list : List Milestone) : Nat :=
  (list.filter fun r => !reservedKind r.kind).length

/-- Whether a milestone finds its list full (R124 stage 2). -/
def listFull (list : List Milestone) (m : Milestone) : Bool :=
  !reservedKind m.kind && 22 ≤ nonReservedCount list

/-- Whether a milestone will be appended (R124, R125). -/
def willRecord (m : Milestone) (s : State) : Bool :=
  s.evu.listOpen && !alreadyRecorded s.evu.list m && !listFull s.evu.list m

/-- The EVU records a milestone: appended with a MILESTONE occurrence, dropped without one where its
limit is reached or the list is closed, dropped with OVERFLOW where the list is full (R124 to R126). -/
def recordMilestone (m : Milestone) (s : State) : State :=
  if !s.evu.listOpen || alreadyRecorded s.evu.list m then s
  else if listFull s.evu.list m then
    raise .milestone (.milestone m.kind m.index none) (s.setEvu { s.evu with overflow := true })
  else
    raise .milestone (.milestone m.kind m.index (some s.evu.list.length))
      (s.setEvu { s.evu with list := s.evu.list ++ [m] })

/-- The Fm record after a sample whose force is greater replaces it (R110, R111). -/
def higherForce (fm : Option EvalSample) (x : EvalSample) : Option EvalSample :=
  match fm with
  | none => some x
  | some r => if r.force < x.force then some x else some r

/-- The EVU takes a milestone handed by another block: it is compared with the Fm record when it is
recorded (R111). -/
def handMilestone (m : Milestone) (s : State) : State :=
  recordMilestone m
    (if willRecord m s then s.setEvu { s.evu with fm := higherForce s.evu.fm m.sample } else s)

/-- A milestone without index or value. -/
def plainMilestone (kind : MilestoneKind) (x : EvalSample) : Milestone :=
  { kind := kind, index := none, sample := x, value := none }

/-- A TRIP milestone is handed; the first class handed in a test is the first trip class of its result,
whether or not the record fits (R102, R124). -/
def handTrip (c : TripClass) (s : State) : State :=
  handMilestone
    { kind := .trip, index := some (tripNumber c).val, sample := currentSample s, value := none }
    (if s.evu.listOpen && s.evu.result.firstTrip.isNone then
      s.setEvu { s.evu with result := { s.evu.result with firstTrip := some c } }
    else s)

/-! ## The yield search closes (R114 to R116) -/

/-- The strain of a recorded sample; the records of the search are formed from samples that carry one. -/
def strainOf (x : Option EvalSample) : Int :=
  match x with
  | some ⟨_, _, _, some st, _⟩ => st.value
  | _ => 0

/-- A force and stress for the result. -/
def forceStress (x : EvalSample) : ForceStress :=
  { force := x.force, stress := x.stress }

/-- The plateau ends: LOWER-YIELD with the candidate where there is one, YIELD-END with the present
values, Ae, and the search goes to CLOSED (R114). -/
def endPlateau (x : EvalSample) (s : State) : State :=
  let s1 :=
    match s.evu.candidate with
    | none => s
    | some c =>
      let t := recordMilestone (plainMilestone .lowerYield c) s
      t.setEvu { t.evu with result := { t.evu.result with rel := some (forceStress c) } }
  let s2 := recordMilestone (plainMilestone .yieldEnd x) s1
  s2.setEvu { s2.evu with
    result := { s2.evu.result with
      ae := some (clampSigned32 (strainOf (some x) - strainOf s2.evu.reh)) }
    search := .closed }

/-- The yield search strain limit is reached: RISING closes without a milestone, PLATEAU is forced to
its end with the values given (R115). -/
def closeAtLimit (x : EvalSample) (s : State) : State :=
  match s.evu.search with
  | .closed => s
  | .rising => s.setEvu { s.evu with search := .closed }
  | .plateau => endPlateau x s

/-- Whether a strain reaches the search limit while it is judged: in RUNNING, while the search is open
(R115). -/
def limitReached (strain : Int) (s : State) : Bool :=
  match s.tsq.specimen with
  | none => false
  | some r => s.tsq.state = .running && s.evu.search ≠ .closed && r.searchLimit ≤ strain

/-! ## The end of a test at the EVU (R116, R125, R127) -/

/-- The EVU takes the end of a test: the search closes, FMAX is recorded with the Fm record, the list
closes and the summary is completed. `silent` is set for an end by RESTART, whose FMAX raises no
occurrence (R126). -/
def evuEndOfTest (state : SeqState) (cause : EndCause) (silent : Bool) (s : State) : State :=
  let s1 := s.setEvu { s.evu with search := .closed }
  let s2 :=
    match s1.evu.fm with
    | none => s1
    | some fm =>
      let m := plainMilestone .fmax fm
      if silent then
        if willRecord m s1 then s1.setEvu { s1.evu with list := s1.evu.list ++ [m] } else s1
      else recordMilestone m s1
  s2.setEvu { s2.evu with
    listOpen := false
    result := { s2.evu.result with endState := some state, endCause := some cause } }

end Sys2Proof.Machine
end

