-- ==== Sys2Proof/Machine/Protection.lean ====
section
/-!
DEFINITION. The sequencer's changes of state and ends of a test (R98, R102, R105), and the Protection
Unit: taking a trip (R142, R143), and the judgement of each condition (R134 to R141).
-/

namespace Sys2Proof.Machine

/-! ## The sequencer's state (R93, R98, R105) -/

/-- The sequencer's state becomes `new`. Phase time stands where it is on leaving RUNNING and goes on
from there on entering it (R93). -/
def enterState (new : SeqState) (s : State) : State :=
  s.setTsq { s.tsq with state := new, phaseBase := phaseTime s, phaseSince := s.now }

/-- A change of sequencer state that a trip makes, with its TEST occurrence (R105, R139). The crosshead
has entered HOLD and the new state is no test state that needs LOAD, so LOAD-LOST's condition is
false. -/
def changeState (new : SeqState) (cause : TestCause) (s : State) : State :=
  settleLoadLost (raise .test (.test new s.tsq.state cause) (enterState new s))

/-- The specimen record is released, and stress with it: stress is present only while the record is
held (R27, R98). -/
def releaseSpecimen (s : State) : State :=
  (s.setTsq { s.tsq with specimen := none }).setLch { s.lch with stress := none }

/-- The cause a TEST occurrence gives for an end of a test (R105). -/
def endTestCause : EndCause → TestCause
  | .breakFound => .breakFound
  | .programEnd => .programEnd
  | .timeLimit => .timeLimit
  | .abortOrder => .abortOrder
  | .trip => .trip
  | .restart => .abortOrder

/-- The EXH at the end of a test: the reported strain becomes absent unless the handler is ATTACHED
(R74). -/
def exhEndOfTest (s : State) : State :=
  if s.exh.handler = .attached then s else s.setExh { s.exh with reported := none }

/-- A test ends in ENDED or ABORTED, in the stages of R98; then the EVU and the EXH take the end (R125,
R74). An end by RESTART raises no TEST occurrence (R107). -/
def endTest (new : SeqState) (cause : EndCause) (s : State) : State :=
  let previous := s.tsq.state
  let silent := decide (cause = .restart)
  let s1 := s.setTsq { s.tsq with
    state := new
    phaseBase := phaseTime s
    phaseSince := s.now
    phaseTimer := none
    testTime := testTime s
    limitAt := none
    endCause := some cause }
  let s2 := releaseSpecimen (enterHold s1)
  let s3 := if silent then s2 else raise .test (.test new previous (endTestCause cause)) s2
  settleLoadLost (exhEndOfTest (evuEndOfTest new cause silent s3))

/-- The sequencer takes a trip (R102). -/
def sequencerTrip (c : TripClass) (s : State) : State :=
  match s.tsq.state with
  | .armed => changeState .idle .trip (releaseSpecimen (s.setTsq { s.tsq with slot := none }))
  | .running | .held => handTrip c (changeState .tripped (.tripClass c) s)
  | .tripped => handTrip c s
  | .idle | .ended | .aborted => s

/-! ## Taking a trip (R142, R143, R148) -/

/-- A history record after one more trip of its class (R148). -/
def countTrip (x : LastTrip) (r : TripRecord) : TripRecord :=
  { count := countUp r.count, first := some (r.first.getD x.time), last := some x }

/-- A class's history record is updated with the values at the trip; the sequencer state is the one the
trip finds (R148). -/
def updateHistory (c : TripClass) (x : LastTrip) (s : State) : State :=
  s.setPru { s.pru with
    history := s.pru.history.set (tripNumber c) (countTrip x s.pru.history[tripNumber c]) }

/-- The values a trip leaves in its history record (R148). -/
def tripValues (s : State) : LastTrip :=
  { time := runClock s, force := s.lch.last.net, pos := s.xhu.pos, state := s.tsq.state }

/-- A trip of a class. One already in the latch updates its history record only (R143); another is
latched, forces HOLD, raises its occurrence, reaches the sequencer and updates its record (R142). -/
def trip (c : TripClass) (s : State) : State :=
  if latched s c then updateHistory c (tripValues s) s
  else
    updateHistory c (tripValues s)
      (sequencerTrip c
        (raise .trip (.tripped c)
          (enterHold (s.setPru { s.pru with latch := s.pru.latch.set (tripNumber c) true }))))

/-! ## Judging conditions (R134) -/

/-- A class moves into SPENT and trips (R134). -/
def spend (c : TripClass) (s : State) : State :=
  trip c (setCondition c .spent s)

/-- The judgement of a class with a delay in microseconds, measured by the run clock from the judgement
that first found it true (R134, R135, R137). -/
def judgeDelayed (c : TripClass) (holds : Bool) (delay : Nat) (s : State) : State :=
  if holds then
    match condition s c with
    | .clear => if delay = 0 then spend c s else setCondition c (.timing s.now) s
    | .timing t => if t + delay ≤ s.now then spend c s else s
    | .spent => s
  else setCondition c .clear s

/-- The judgement of a class with no delay (R134, R138). -/
def judgeAtOnce (c : TripClass) (holds : Bool) (s : State) : State :=
  if holds then
    match condition s c with
    | .spent => s
    | _ => spend c s
  else setCondition c .clear s

/-- The judgement of TENSION-2: consecutive true updates are counted up to n2 (R136). -/
def judgeTension2 (holds : Bool) (n2 : Nat) (s : State) : State :=
  if holds then
    match condition s .tension2 with
    | .clear =>
      if n2 ≤ 1 then spend .tension2 s else setCondition .tension2 (.timing 1) s
    | .timing n =>
      if n2 ≤ n + 1 then spend .tension2 s else setCondition .tension2 (.timing (n + 1)) s
    | .spent => s
  else setCondition .tension2 .clear s

/-! ## The force conditions (R135, R136, R144) -/

/-- Whether the last force is an OVERRANGE one on the coarsest VALID range (R37, R135). -/
def saturatedCoarsest (s : State) : Bool :=
  s.lch.last.quality = .overrange && s.lch.last.range.isSome
    && s.lch.last.range = coarsestValid s

/-- TENSION-1's condition: F at or above T1, or positive full scale on the coarsest range (R135). -/
def tension1Holds (p : ProtSet) (s : State) : Bool :=
  if saturatedCoarsest s then 0 < s.lch.last.gross else p.tension1 ≤ s.lch.last.net

/-- TENSION-2's condition (R136). -/
def tension2Holds (p : ProtSet) (s : State) : Bool :=
  (saturatedCoarsest s && 0 < s.lch.last.gross) || p.tension2 ≤ s.lch.last.net

/-- COMPRESSION's condition: F at or below −C, or negative full scale on the coarsest range (R135). -/
def compressionHolds (p : ProtSet) (s : State) : Bool :=
  if saturatedCoarsest s then s.lch.last.gross < 0 else s.lch.last.net ≤ -p.compression

/-- The PRU takes a force update: three classes are judged, in either order (R135, R136, R144). Nothing
is judged while PROTSET is BLANK (R133). -/
def protectForce (s : State) : State :=
  match s.pru.protset with
  | none => s
  | some p =>
    inOpenOrder
      [ fun t => judgeDelayed .tension1 (tension1Holds p t) (millis p.delay1Ms) t,
        fun t => judgeTension2 (tension2Holds p t) p.count2.toNat t,
        fun t => judgeDelayed .compression (compressionHolds p t) (millis p.delayCMs) t ] s

/-- The PRU on a loss of the LOAD channel: the force conditions return to CLEAR (R135, R136). -/
def clearForceConditions (s : State) : State :=
  setCondition .compression .clear (setCondition .tension2 .clear (setCondition .tension1 .clear s))

/-! ## The other conditions (R137 to R141) -/

/-- The PRU takes the offer of a demand expiry and judges FOLLOWING (R137). -/
def protectDemand (sent : Int) (enable : Bool) (s : State) : State :=
  match s.pru.protset with
  | none => s
  | some p =>
    judgeDelayed .following (enable && p.followLimit < (sent - s.xhu.pos).natAbs)
      (millis p.followDelayMs) s

/-- The PRU takes a position update and judges TRAVEL (R138). -/
def protectPosition (s : State) : State :=
  match s.xhu.xset with
  | none => s
  | some x =>
    judgeAtOnce .travel
      (s.xhu.pos < x.softLower - x.hardMargin || x.softUpper + x.hardMargin < s.xhu.pos) s

/-- LOAD-LOST judged, `up` being the state of the LOAD channel at the event (R139). It stays CLEAR
while PROTSET is BLANK (R133). -/
def judgeLoadLost (up : Bool) (s : State) : State :=
  match s.pru.protset with
  | none => s
  | some p =>
    if loadLostHolds up s then
      match condition s .loadLost with
      | .clear =>
        if p.loadLossMs ≤ 0 then spend .loadLost s
        else
          let t := setCondition .loadLost (.timing s.now) s
          t.setPru { t.pru with loadLossAt := some (s.now + millis p.loadLossMs) }
      | _ => s
    else clearLoadLost s

/-- A change of sequencer state with its TEST occurrence, LOAD-LOST being judged on it in full (R105,
R139). -/
def changeStateArming (new : SeqState) (cause : TestCause) (s : State) : State :=
  let t := raise .test (.test new s.tsq.state cause) (enterState new s)
  judgeLoadLost (channelUp t .load) t

/-- Position quality goes to STALE (R43, R41). A change from GOOD is judged by POSITION-LOST: it trips
when the last DEMAND frame carried drive enable 1; TRAVEL returns to CLEAR (R138, R140). -/
def losePosition (s : State) : State :=
  if s.xhu.good then
    let t := setCondition .travel .clear (s.setXhu { s.xhu with good := false })
    if t.xhu.lastEnable then spend .positionLost t else t
  else s

/-- The PRU takes a DRIVE-STATUS frame and judges DRIVE-FAULT on its fault flag (R141). -/
def protectDriveStatus (s : State) : State :=
  judgeAtOnce .driveFault s.xhu.drive.fault s

/-- L4 goes from UP to STALE: the held status is replaced, and DRIVE-FAULT trips at once when the drive
is enabled; the replaced status, with no fault, returns its state to CLEAR (R15, R44, R141). -/
def loseDriveLane (s : State) : State :=
  let t := s.setXhu { s.xhu with drive := noDriveStatus }
  setCondition .driveFault .clear (if t.xhu.lastEnable then spend .driveFault t else t)

/-- Every condition state returns to CLEAR and the load-loss timer stops (R133, R147, R153). -/
def clearConditions (s : State) : State :=
  s.setPru { s.pru with conditions := Vector.replicate 8 .clear, loadLossAt := none }

end Sys2Proof.Machine
end

