-- ==== Sys2Proof/Machine/Phases.lean ====
section
/-!
DEFINITION. Removal and splice of the extensometer, the phases of a program, and what a strain update
does at each block (R72 to R80, R91 to R94, R109, R115). The three meet: a phase end may remove the
extensometer, a removal publishes a strain update, and a strain update may end a phase. A phase end is
one event of the sequencer (R94), so the strain update of its own removal is not judged by it.
-/

namespace Sys2Proof.Machine

/-! ## Publishing a strain update (R72, R109) -/

/-- A strain update is published: it is the reported strain, the XHU keeps it, and during a test it is
the EVU's latest strain (R71, R72, R109). -/
def keepStrain (st : Strain) (s : State) : State :=
  let t := (s.setExh { s.exh with reported := some st }).setXhu { s.xhu with strain := st.value }
  if inTest t then t.setEvu { t.evu with strain := some st } else t

/-- An EXTENSOMETER occurrence (R82). -/
def raiseExt (d : ExtDetail) (s : State) : State :=
  raise .extensometer (.ext d) s

/-- Crosshead-derived strain from the position held (R73). -/
def crossheadStrain (s : State) : Strain :=
  { value := clampSigned32 (rawCrossheadStrain s s.xhu.pos + s.exh.ox), source := .crosshead }

/-- The splice from extensometer to crosshead: O_x is the last reported strain less the raw crosshead
strain of the P held, and a strain update of source CROSSHEAD is published (R78). -/
def spliceToCrosshead (s : State) : State :=
  let t := s.setExh { s.exh with ox := s.xhu.strain - rawCrossheadStrain s s.xhu.pos }
  keepStrain (crossheadStrain t) t

/-- The values of an EXT-REMOVED or EXT-LOST milestone: the last extensometer strain with source EXT and
the rest as current (R77, R79). -/
def lastExtSample (s : State) : EvalSample :=
  { currentSample s with strain := some { value := s.xhu.strain, source := .ext } }

/-- The removal strain of the result, from the first removal from ATTACHED in the test (R77, R127). -/
def noteRemovalStrain (v : Int) (s : State) : State :=
  if s.evu.listOpen && s.evu.result.removalStrain.isNone then
    s.setEvu { s.evu with result := { s.evu.result with removalStrain := some v } }
  else s

/-- Removal from ATTACHED (R77). `react` is what the other blocks do on the splice update; it is taken
before or after the stages that follow the splice (assumptions 4 and 44). -/
def removeArms (react : Strain → State → State) (cause : RemovalCause) (s : State) : State :=
  let x := lastExtSample s
  let t := s.setExh { s.exh with handler := .opened }
  if inTest s then
    let u := spliceToCrosshead t
    inOpenOrder
      [ react (crossheadStrain u),
        fun v => raiseExt (.removed cause)
          (noteRemovalStrain s.xhu.strain (handMilestone (plainMilestone .extRemoved x) v)) ] u
  else raiseExt (.removed cause) (t.setExh { t.exh with reported := none })

/-- The attach in progress ends with a cause: the settle timer stops, the averaging is discarded, the
handler goes to `next` and ATTACH-FAILED is raised (R70). -/
def failAttach (cause : AttachFailure) (next : HandlerState) (s : State) : State :=
  raiseExt (.attachFailed cause)
    (s.setExh { s.exh with handler := next, settleAt := none, averaging := none })

/-- A removal request, by the handler's state (R76). -/
def requestRemoval (react : Strain → State → State) (cause : RemovalCause) (s : State) : State :=
  match s.exh.handler with
  | .detached => raiseExt (.removed cause) (s.setExh { s.exh with handler := .opened })
  | .settling => failAttach .removed .opened s
  | .attached => removeArms react cause s
  | .lost =>
    if cause = .order then raiseExt (.removed cause) (s.setExh { s.exh with handler := .opened })
    else s
  | .opened => s

/-- The EVU on a strain update, as far as the search limit goes (R115). -/
def evuStrainLimit (st : Strain) (s : State) : State :=
  if limitReached st.value s then closeAtLimit { currentSample s with strain := some st } s else s

/-! ## Phases (R91, R94) -/

/-- The direction of a phase: +1 or −1 in one byte (R198). -/
def phaseDirection (p : Phase) : Int :=
  if p.direction = 1 then 1 else -1

/-- The mode request of a phase (R91). -/
def phaseRequest (p : Phase) (lc : Int) : XhuMode :=
  match p.mode with
  | .positionRate => .positionRate p.rate (phaseDirection p)
  | .strainRate => .strainRate p.rate p.gain p.vmax lc
  | .stressRate => .stressRate p.rate p.gain p.vmax p.feedforward
  | .hold => .hold

/-- The phase time in microseconds at which a phase's timer runs out: the least PHASE-TIME threshold
among its end conditions; none where it has none (R91, R93). -/
def phaseLimit (p : Phase) : Option Nat :=
  match p.end1, p.end2 with
  | .phaseTime, some .phaseTime => some (min (millis p.threshold1) (millis p.threshold2))
  | .phaseTime, _ => some (millis p.threshold1)
  | _, some .phaseTime => some (millis p.threshold2)
  | _, _ => none

/-- The mode request of the current phase is sent to the Crosshead Unit (R91, R96). -/
def requestPhaseMode (s : State) : State :=
  match currentPhase s, s.tsq.specimen with
  | some p, some r => requestMode (phaseRequest p r.lc) s
  | _, _ => s

/-- Phase `k` begins: phase time 0, the phase timer set, the mode request sent (R91). -/
def beginPhase (k : Nat) (s : State) : State :=
  requestPhaseMode (s.setTsq { s.tsq with
    phase := some k
    phaseBase := 0
    phaseSince := s.now
    phaseTimer := (phaseAt s k).bind phaseLimit })

/-- Phase `k` ends in the stages of R94: PHASE-END, the end action, and the program's end or the next
phase. -/
def endPhase (k : Nat) (p : Phase) (s : State) : State :=
  let s1 := handMilestone
    { kind := .phaseEnd, index := some k, sample := currentSample s, value := none }
    (s.setTsq { s.tsq with phaseTimer := none })
  let s2 := if p.removeExt then requestRemoval evuStrainLimit .phaseAction s1 else s1
  if (phaseAt s (k + 1)).isSome then beginPhase (k + 1) s2
  else endTest .ended .programEnd s2

/-- The end conditions of the current phase are judged in RUNNING; `met` says which hold on the event
(R92, R94). -/
def judgeEnd (met : EndKind → Int → Bool) (s : State) : State :=
  match s.tsq.phase, currentPhase s with
  | some k, some p =>
    if s.tsq.state = .running
        && (met p.end1 p.threshold1 || (p.end2.map fun e => met e p.threshold2).getD false) then
      endPhase k p s
    else s
  | _, _ => s

/-- The end conditions judged on a strain update (R92). -/
def metByStrain (strain : Int) (e : EndKind) (threshold : Int) : Bool :=
  match e with
  | .strainAtLeast => threshold ≤ strain
  | _ => false

/-- The end conditions judged on a force update (R92). -/
def metByForce (force stress : Int) (searchClosed : Bool) (e : EndKind) (threshold : Int) : Bool :=
  match e with
  | .stressAtLeast => threshold ≤ stress
  | .forceAtLeast => threshold ≤ force
  | .forceAtMost => force ≤ threshold
  | .yieldClosed => searchClosed
  | _ => false

/-- The end conditions judged on a position update (R92). -/
def metByPosition (pos : Int) (e : EndKind) (threshold : Int) : Bool :=
  match e with
  | .positionAtLeast => threshold ≤ pos
  | .positionAtMost => pos ≤ threshold
  | _ => false

/-- The end condition met by an expiry of the phase timer (R93). -/
def metByTimer (e : EndKind) (_threshold : Int) : Bool :=
  match e with
  | .phaseTime => true
  | _ => false

/-- The end condition met by the closing of the yield search (R92, R116). -/
def metByClosing (e : EndKind) (_threshold : Int) : Bool :=
  match e with
  | .yieldClosed => true
  | _ => false

/-! ## What a strain update does (R72) -/

/-- The EVU on a strain update: the search limit, and a closing is published to the sequencer (R115,
R116). -/
def evuStrain (st : Strain) (s : State) : State :=
  if limitReached st.value s then
    judgeEnd metByClosing (closeAtLimit { currentSample s with strain := some st } s)
  else s

/-- The sequencer on a strain update (R92). -/
def tsqStrain (st : Strain) (s : State) : State :=
  judgeEnd (metByStrain st.value) s

/-- The blocks that respond to a strain update of source CROSSHEAD: the sequencer and the EVU, in an
order left open (R72). -/
def offerStrain (st : Strain) (s : State) : State :=
  inOpenOrder [tsqStrain st, evuStrain st] s

/-- The record of R80 is replaced by a strain and the current force. -/
def keepLastExt (v : Int) (s : State) : State :=
  s.setExh { s.exh with lastExt := some { strain := v, force := s.lch.last.net } }

/-- The slip condition on an extensometer strain update, and the record replaced after it (R80). -/
def judgeSlip (x : ExtSet) (v : Int) (s : State) : State :=
  match s.exh.lastExt with
  | some r =>
    if s.tsq.state = .running && x.slipStep ≠ 0 && x.slipStep < r.strain - v
        && r.force ≤ s.lch.last.net then
      keepLastExt v (raiseExt (.slip (r.strain - v))
        (s.setExh { s.exh with
          slipCount := if s.exh.slipCount < 255 then s.exh.slipCount + 1 else s.exh.slipCount }))
    else keepLastExt v s
  | none => keepLastExt v s

/-- Whether an extensometer strain meets STRAIN-LEVEL (R75). -/
def strainLevelMet (v : Int) (s : State) : Bool :=
  s.tsq.state = .running &&
    match s.tsq.specimen.bind Specimen.removalStrain with
    | some threshold => threshold ≤ v
    | none => false

/-- STRAIN-LEVEL and RANGE-END on an extensometer strain, in this order, while ATTACHED: the first met
takes the handler through R77 and the other is not judged (R75). `rangeEnd` says that the arm sample
meets RANGE-END. -/
def judgeRemoval (react : Strain → State → State) (rangeEnd : Bool) (st : Strain) (s : State) : State :=
  if s.exh.handler ≠ .attached then s
  else if strainLevelMet st.value s then removeArms react .strainLevel s
  else if rangeEnd then removeArms react .rangeEnd s
  else s

/-- The EXH on an extensometer strain update: slip, then the removal conditions, while ATTACHED. An update
on which another block has removed the arms first is not compared (R75, R80, assumption 10). -/
def exhStrain (react : Strain → State → State) (rangeEnd : Bool) (st : Strain) (s : State) : State :=
  match s.exh.extset with
  | none => s
  | some x =>
    if s.exh.handler ≠ .attached then s
    else judgeRemoval react rangeEnd st (judgeSlip x st.value s)

/-- An extensometer strain update is published and taken by the sequencer, the EVU and the EXH, in an
order left open (R72, R75, R80). -/
def publishExt (rangeEnd : Bool) (st : Strain) (s : State) : State :=
  inOpenOrder [tsqStrain st, evuStrain st, exhStrain offerStrain rangeEnd st] (keepStrain st s)

/-- A crosshead-derived strain update is published and taken (R72, R73). -/
def publishCrosshead (s : State) : State :=
  offerStrain (crossheadStrain s) (keepStrain (crossheadStrain s) s)

end Sys2Proof.Machine
end

