-- ==== Sys2Proof/Machine/Evaluation.lean ====
section
/-!
DEFINITION. The evaluations the Evaluation Unit runs on a force update (sections 6.1 to 6.6), and what
it does at START.
-/

namespace Sys2Proof.Machine

/-! ## The evaluation sample (R108) -/

/-- The evaluation sample of the present force update (R108). -/
def evaluationSample (s : State) : EvalSample :=
  { time := s.now - s.tsq.startedAt, force := s.lch.last.net, stress := currentStress s
    strain := s.evu.strain, pos := s.xhu.pos }

/-! ## Evaluations 1 and 2: Fm and the force window (R110, R120) -/

/-- Whether a force record carries the break arm force of the specimen record (R110). -/
def carriesArmForce (fm : Option EvalSample) (s : State) : Bool :=
  match fm, s.tsq.specimen with
  | some r, some spec => spec.breakArm ≤ r.force
  | _, _ => false

/-- Fm tracking and break arming on a sample (R110). -/
def trackMaximum (x : EvalSample) (s : State) : State :=
  let fm := higherForce s.evu.fm x
  s.setEvu { s.evu with fm := fm, breakArmed := s.evu.breakArmed || carriesArmForce fm s }

/-- The force window after one more force, the oldest of four removed first (R120). -/
def pushForce (window : List Int) (force : Int) : List Int :=
  if 4 ≤ window.length then window.drop (window.length - 3) ++ [force] else window ++ [force]

/-- The force window takes a sample (R120). -/
def takeForce (x : EvalSample) (s : State) : State :=
  s.setEvu { s.evu with window := pushForce s.evu.window x.force }

/-! ## Evaluation 3: the yield search (R112 to R115) -/

/-- The ReL candidate after a sample is classed: a non-transient sample lower than the candidate, or
with none held, becomes it (R113). -/
def nextCandidate (transient : Bool) (x : EvalSample) (candidate : Option EvalSample) :
    Option EvalSample :=
  if transient then candidate
  else
    match candidate with
    | none => some x
    | some c => if x.force < c.force then some x else some c

/-- Whether a sample ends the plateau (R114). -/
def plateauEnds (x reh : EvalSample) (candidate : Option EvalSample) (riseMargin : Int) : Bool :=
  (match candidate with
    | none => false
    | some c => c.force * 10000 + reh.force * riseMargin ≤ x.force * 10000)
  || reh.force ≤ x.force

/-- A sample is classed and judged in PLATEAU (R113, R114). -/
def judgePlateau (r : Specimen) (strain : Int) (x : EvalSample) (s : State) : State :=
  match s.evu.reh with
  | none => s
  | some reh =>
    let candidate :=
      nextCandidate (strain ≤ strainOf (some reh) + r.transient) x s.evu.candidate
    let t := s.setEvu { s.evu with candidate := candidate }
    if plateauEnds x reh candidate r.riseMargin then endPlateau x t else t

/-- The upper yield point is found: UPPER-YIELD with the values of the Fy record, ReH, and the search
goes to PLATEAU (R112). -/
def foundUpperYield (fy : EvalSample) (s : State) : State :=
  let t := recordMilestone (plainMilestone .upperYield fy) s
  t.setEvu { t.evu with
    reh := some fy
    candidate := none
    search := .plateau
    result := { t.evu.result with reh := some (forceStress fy) } }

/-- Whether a force is an upper yield drop from the Fy record (R112 stage 2). -/
def yieldDropped (r : Specimen) (fy : EvalSample) (force : Int) : Bool :=
  r.yieldMinForce ≤ fy.force && force * 10000 < fy.force * (10000 - r.yieldDrop)

/-- The Fy record after a sample (R112 stage 1). -/
def nextFy (x : EvalSample) (fy : Option EvalSample) : EvalSample :=
  match fy with
  | none => x
  | some r => if r.force < x.force then x else r

/-- The yield search on a sample that carries a strain, in RUNNING (R112 to R115). -/
def searchYield (r : Specimen) (strain : Int) (x : EvalSample) (s : State) : State :=
  match s.evu.search with
  | .closed => s
  | .rising =>
    if r.searchLimit ≤ strain then closeAtLimit x s
    else
      let fy := nextFy x s.evu.fy
      let t := s.setEvu { s.evu with fy := some fy }
      if yieldDropped r fy x.force then judgePlateau r strain x (foundUpperYield fy t) else t
  | .plateau =>
    if r.searchLimit ≤ strain then closeAtLimit x s else judgePlateau r strain x s

/-- An evaluation that runs in RUNNING on a sample with a strain only (R108, R109). -/
def whileRunning (f : Specimen → Int → State → State) (x : EvalSample) (s : State) : State :=
  match s.tsq.specimen, x.strain with
  | some r, some st => if s.tsq.state = .running then f r st.value s else s
  | _, _ => s

/-! ## Evaluations 4 and 5: chord modulus and offset proof (R117 to R119) -/

/-- The modulus of two chord points, where the slope is valid (R118). -/
def chordModulus (p1 p2 : ChordPoint) : Option Int :=
  if p1.strain < p2.strain ∧ p1.stress < p2.stress then
    some (min 2147483647 (roundDiv ((p2.stress - p1.stress) * 100000) (p2.strain - p1.strain)))
  else none

/-- The chord on a sample that carries a strain, in RUNNING (R117, R118, and R119's entry to
WATCHING). -/
def judgeChord (x : EvalSample) (r : Specimen) (strain : Int) (s : State) : State :=
  match s.evu.chord with
  | .waitingLow =>
    if r.sigmaLow ≤ x.stress then
      let t := recordMilestone (plainMilestone .chordLow x) s
      t.setEvu { t.evu with
        point1 := some { stress := x.stress, strain := strain }, chord := .waitingHigh }
    else s
  | .waitingHigh =>
    match s.evu.point1 with
    | none => s
    | some p1 =>
      if r.sigmaHigh ≤ x.stress then
        let p2 : ChordPoint := { stress := x.stress, strain := strain }
        let e := chordModulus p1 p2
        let t := recordMilestone
          { kind := .chordHigh, index := none, sample := x, value := e } s
        t.setEvu { t.evu with
          point2 := some p2
          chord := .complete
          proof := if e.isSome ∧ r.proofOffset ≠ 0 then .watching else t.evu.proof
          result := { t.evu.result with
            modulusStatus := if e.isSome then .valid else .invalid, modulus := e } }
      else s
  | .complete => s

/-- The proof test of a sample (R119). -/
def proofMet (p1 p2 : ChordPoint) (offset stress strain : Int) : Bool :=
  offset * (p2.stress - p1.stress) ≤
    (strain - p1.strain) * (p2.stress - p1.stress) - (stress - p1.stress) * (p2.strain - p1.strain)

/-- The proof on a sample that carries a strain, in RUNNING (R119). -/
def judgeProof (x : EvalSample) (r : Specimen) (strain : Int) (s : State) : State :=
  match s.evu.proof, s.evu.point1, s.evu.point2 with
  | .watching, some p1, some p2 =>
    if proofMet p1 p2 r.proofOffset x.stress strain then
      let t := recordMilestone (plainMilestone .proof x) s
      t.setEvu { t.evu with
        proof := .found, result := { t.evu.result with rp := some x.stress } }
    else s
  | _, _, _ => s

/-! ## Evaluation 6: the break (R121, R122) -/

/-- Whether a force with the window and Fm as they stand is a break (R121). -/
def breakFound (r : Specimen) (fm : Option EvalSample) (window : List Int) (force : Int) : Bool :=
  (match fm with
    | none => false
    | some m => force * 10000 ≤ m.force * r.breakFraction)
  || (window.length = 4 && r.breakDrop < window.head?.getD 0 - window.getLast?.getD 0)

/-- A break: BREAK and the result, HOLD of the Crosshead Unit, the removal request, then the sequencer
(R122, R99). -/
def takeBreak (x : EvalSample) (s : State) : State :=
  let s1 := recordMilestone (plainMilestone .breakFound x) (s.setEvu { s.evu with breakSeen := true })
  let s2 := s1.setEvu { s1.evu with
    result := { s1.evu.result with
      breakForce := some x.force, breakStrain := x.strain.map Strain.value } }
  let s3 := requestRemoval offerStrain .breakFound (enterHold s2)
  match s3.tsq.state with
  | .running | .held => endTest .ended .breakFound s3
  | _ => s3

/-- Break detection on a sample, in RUNNING and HELD while armed (R121). -/
def detectBreak (x : EvalSample) (s : State) : State :=
  match s.tsq.specimen with
  | none => s
  | some r =>
    if (s.tsq.state = .running || s.tsq.state = .held) && s.evu.breakArmed && !s.evu.breakSeen
        && breakFound r s.evu.fm s.evu.window x.force then
      takeBreak x s
    else s

/-! ## A force update (R108, R116) -/

/-- Evaluations 4 to 6. The sample that records CHORD-HIGH is not tested for the proof (R119). -/
def evaluateRest (x : EvalSample) (s : State) : State :=
  let watching := decide (s.evu.proof = .watching)
  let t := whileRunning (judgeChord x) x s
  detectBreak x (if watching then whileRunning (judgeProof x) x t else t)

/-- The EVU takes a force update: the sample goes through its evaluations in order. A closing of the
yield search is published; the sequencer judges it there or after the sample (R108, R116,
assumption 4). -/
def evuForce (s : State) : State :=
  if inTest s then
    let x := evaluationSample s
    let s1 := takeForce x (trackMaximum x s)
    let s2 := whileRunning (fun r strain => searchYield r strain x) x s1
    if s1.evu.search ≠ .closed ∧ s2.evu.search = .closed then
      inOpenOrder [judgeEnd metByClosing, evaluateRest x] s2
    else evaluateRest x s2
  else s

/-! ## START (R109, R110, R112, R117, R119, R120, R125, R127) -/

/-- The seed of the Fm record at START (R110). -/
def maximumSeed (r : Specimen) (s : State) : EvalSample :=
  { time := 0, force := s.lch.last.net, stress := stressOf s.lch.last.net r.s0, strain := none
    pos := s.xhu.pos }

/-- The EVU at START. -/
def evuStart (r : Specimen) (s : State) : State :=
  s.setEvu
    { strain := none, fm := some (maximumSeed r s)
      breakArmed := decide (r.breakArm ≤ s.lch.last.net)
      window := [], search := .rising, fy := none, reh := none, candidate := none
      chord := .waitingLow, point1 := none, point2 := none, proof := .inactive, breakSeen := false
      list := [], listOpen := true, overflow := false, hasTest := true
      result := ResultFields.empty }

/-- The EVU discards the result and the list at an accepted ARM (R88, R128). -/
def evuDiscard (s : State) : State :=
  s.setEvu { s.evu with
    list := [], listOpen := false, overflow := false, hasTest := false
    result := ResultFields.empty }

end Sys2Proof.Machine
end

