-- ==== Sys2Proof/Machine/Load.lean ====
section
/-!
DEFINITION. What the owner of each channel does with a sample, and with the loss or restoration of its
channel: the Load Channel (chapter 2), the Crosshead Unit's position (section 3.2), the extensometer
arms (chapter 4), and the blocks a force or position update is offered to.
-/

namespace Sys2Proof.Machine

/-! ## Conversion (R20 to R24, R27) -/

/-- The segment of a count: the largest index with `c_i` at or below it, at most `n - 2`; 0 below the
first point (R21). -/
def segmentOf (t : CalTable) (count : Int) : Nat :=
  min ((t.takeWhile fun p => p.count ≤ count).length - 1) (t.length - 2)

/-- The gross force a table gives a count (R21). -/
def interpolate (t : CalTable) (count : Int) : Int :=
  match t[segmentOf t count]?, t[segmentOf t count + 1]? with
  | some p, some q =>
    clampForce (p.force + roundDiv ((q.force - p.force) * (count - p.count)) (q.count - p.count))
  | _, _ => 0

/-- Whether a count lies within the span of a table (R20). -/
def withinSpan (t : CalTable) (count : Int) : Bool :=
  (t.head?.map CalPoint.count).getD 0 ≤ count && count ≤ (t.getLast?.map CalPoint.count).getD 0

/-- The quality of a sample (R20). -/
def qualityOf (cal : Option CalTable) (f : SampleFrame) : ForceQuality :=
  match cal with
  | none => .noCal
  | some t =>
    if f.overrange then .overrange else if withinSpan t f.value then .good else .beyondCal

/-- The gross force of a sample on a VALID table (R21, R22). -/
def grossOf (t : CalTable) (f : SampleFrame) : Int :=
  if f.overrange then (if 0 ≤ f.value then fullScale t else -fullScale t)
  else interpolate t f.value

/-- The last force after a sample (R20 to R24). -/
def convertForce (s : State) (f : SampleFrame) : LastForce :=
  match s.lch.cal[f.range] with
  | none => { s.lch.last with quality := .noCal, range := some f.range }
  | some t =>
    { net := clampForce (grossOf t f - s.lch.tare), gross := grossOf t f
      quality := qualityOf (some t) f, range := some f.range }

/-- The LCH converts a sample: the last force, and the stress while a specimen record is held (R24,
R27). -/
def convertSample (f : SampleFrame) (s : State) : State :=
  let last := convertForce s f
  s.setLch { s.lch with
    last := last
    stress :=
      match s.tsq.specimen with
      | some r => some (stressOf last.net r.s0)
      | none => s.lch.stress }

/-! ## Requests to the conditioner (R33) -/

/-- The RANGE-REQUEST for the requested range goes out on the lane of the LOAD entry; none while LOAD
is unmapped or the requested range unset (R7, R33). -/
def sendRequest (s : State) : State :=
  match s.lch.requested, entryOf s.rtb.route .load with
  | some h, some k => sendOnLane (keyLane k) (.rangeRequest h (keySub k)) s
  | _, _ => s

/-- The LCH makes a request for a range (R33); any request stops the dwell timer (R36). -/
def makeRequest (h : Fin 4) (s : State) : State :=
  sendRequest (s.setLch { s.lch with
    requested := some h, awaiting := true, repeatAt := some (s.now + 10000), dwell := none })

/-- The request for the requested range is sent again and the repeat timer started (R33). -/
def repeatRequest (s : State) : State :=
  sendRequest (s.setLch { s.lch with repeatAt := some (s.now + 10000) })

/-- The initial request (R39): in FIXED g for g, otherwise for the coarsest VALID range; none while no
calibration table is VALID. -/
def initialRequest (s : State) : State :=
  match coarsestValid s with
  | none => s
  | some coarsest =>
    match (loadSettings s).mode with
    | .fixed g => makeRequest g s
    | .auto => makeRequest coarsest s

/-- The received range is set from a sample, with a RANGE occurrence when it changes (R20, R34). -/
def receiveRange (g : Fin 4) (s : State) : State :=
  let t := s.setLch { s.lch with received := some g, awaiting := false }
  match s.lch.received with
  | none => t
  | some previous => if previous = g then t else raise .range (.range previous g) t

/-- A sample ends the request it shows, or finds the repeat timer stopped on another range and has the
request sent again (R33). -/
def matchRequest (g : Fin 4) (s : State) : State :=
  match s.lch.requested with
  | none => s
  | some h =>
    if h = g then s.setLch { s.lch with repeatAt := none }
    else if s.lch.repeatAt.isNone then repeatRequest s
    else s

/-! ## Tare (R29, R30) -/

/-- A tare in progress fails with a cause; T is unchanged (R30). -/
def failTare (cause : TareFailure) (s : State) : State :=
  match s.lch.tareJob with
  | none => s
  | some job =>
    answerTare job.tag .failed (some (.tare cause)) none
      (s.setLch { s.lch with tareJob := none })

/-- A usable sample is taken into the tare; the sixteenth completes it (R29). -/
def addToTare (job : TareJob) (s : State) : State :=
  let sum := job.sum + s.lch.last.gross
  if job.count + 1 < 16 then
    s.setLch { s.lch with
      tareJob := some
        { job with count := job.count + 1, sum := sum, deadline := s.now + 10000 } }
  else
    answerTare job.tag .done none (some (.tare (roundDiv sum 16)))
      (s.setLch { s.lch with tareJob := none, tare := roundDiv sum 16 })

/-- The tare in progress, if any, on a converted sample (R29, R30). -/
def tareSample (s : State) : State :=
  match s.lch.tareJob with
  | none => s
  | some job =>
    match s.lch.last.quality with
    | .good | .beyondCal => addToTare job s
    | .overrange => failTare .overrange s
    | .noCal => failTare .noCal s
    | .stale => s

/-! ## Automatic ranging (R35 to R38) -/

/-- The finest VALID range coarser than a range (R35). -/
def finestCoarser (s : State) (g : Fin 4) : Option (Fin 4) :=
  ((List.finRange 4).filter fun h => h.val < g.val && calValid s h).getLast?

/-- Whether a gross force reaches the up threshold of its range (R35). -/
def upSwitch (settings : LoadSet) (t : CalTable) (gross : Int) : Bool :=
  settings.up * fullScale t ≤ gross.natAbs * 10000

/-- The full scale of the next finer range, where its table is VALID (R36). -/
def finerScale (s : State) (g : Fin 4) : Option Int :=
  if h : g.val + 1 < 4 then s.lch.cal[g.val + 1].map fullScale else none

/-- Whether a sample qualifies for the down-switch, `outstanding` saying whether it finds a request
outstanding (R36). -/
def qualifies (settings : LoadSet) (outstanding : Bool) (g : Fin 4) (s : State) : Bool :=
  match finerScale s g with
  | none => false
  | some fs =>
    !outstanding && s.lch.last.gross.natAbs * 10000 ≤ settings.down * fs

/-- The dwell timer on a sample of usable quality (R36). -/
def dwellSample (settings : LoadSet) (outstanding : Bool) (g : Fin 4) (s : State) : State :=
  if qualifies settings outstanding g s then
    match s.lch.dwell with
    | none =>
      s.setLch { s.lch with
        dwell := some { deadline := s.now + millis settings.dwellMs, range := g } }
    | some d => if d.range = g then s else s.setLch { s.lch with dwell := none }
  else s.setLch { s.lch with dwell := none }

/-- The request of R37 for the coarsest VALID range: none where it is the requested one already, where the
sample is an OVERRANGE one on that range itself, whatever is requested (R37's note), or where there is no
VALID range. The dwell timer stops in every case (R36). -/
def requestCoarsest (s : State) : State :=
  match coarsestValid s with
  | some h =>
    if s.lch.requested = some h || saturatedCoarsest s then s.setLch { s.lch with dwell := none }
    else makeRequest h s
  | none => s.setLch { s.lch with dwell := none }

/-- The ranging work of a sample on range `g` (R35 to R38); none of it is done in FIXED or while the
requested range is unset (R38, R39), but for the dwell timer. -/
def rangeSample (outstanding : Bool) (g : Fin 4) (s : State) : State :=
  let settings := loadSettings s
  match settings.mode with
  | .fixed _ => s.setLch { s.lch with dwell := none }
  | .auto =>
    match s.lch.last.quality with
    | .overrange | .noCal =>
      if s.lch.requested.isSome then requestCoarsest s else s.setLch { s.lch with dwell := none }
    | .stale => s
    | .good | .beyondCal =>
      let t := dwellSample settings outstanding g s
      match s.lch.cal[g], finestCoarser s g with
      | some table, some h =>
        if s.lch.requested.isSome && !outstanding && upSwitch settings table s.lch.last.gross then
          makeRequest h t
        else t
      | _, _ => t

/-- The LCH's own work on a sample it has converted (R25): the request it shows, the tare, and ranging.
`before` says whether a request was outstanding before the sample; a sample that ends one may find it
outstanding or not (assumption 4). -/
def loadWork (before : Bool) (g : Fin 4) (s : State) : State :=
  let after := requestOutstanding s
  let t := tareSample (matchRequest g s)
  if before && !after then
    let choice := openChoice 2 t
    rangeSample (choice.1 = 0) g choice.2
  else rangeSample after g t

/-! ## The blocks a force update is offered to (R25) -/

/-- A measurement frame falls due; a second due event is counted as coalesced (R161, R163). -/
def makeDue (s : State) : State :=
  if s.cpt.due then s.setCpt { s.cpt with coalesced := countUp s.cpt.coalesced }
  else arbitrate (s.setCpt { s.cpt with due := true })

/-- The greater of the peak force held and a force (R165). -/
def raisePeak (peak : Option Int) (force : Int) : Int :=
  match peak with
  | none => force
  | some p => max p force

/-- The CPT takes a force update: the peak force, and the count toward the next frame while the stream
is on and LOAD is UP (R161, R165). -/
def streamForce (s : State) : State :=
  let t := s.setCpt { s.cpt with peak := some (raisePeak s.cpt.peak s.lch.last.net) }
  if t.cpt.streamOn && channelUp t .load then
    if t.cpt.decimation ≤ t.cpt.count + 1 then makeDue (t.setCpt { t.cpt with count := 0 })
    else t.setCpt { t.cpt with count := t.cpt.count + 1 }
  else t

/-- The sequencer takes a force update (R92). -/
def sequencerForce (s : State) : State :=
  judgeEnd
    (metByForce s.lch.last.net (currentStress s) (decide (s.evu.search = .closed))) s

/-- Whether a force update meets FORCE-DROP (R75). -/
def forceDropMet (s : State) : Bool :=
  s.exh.handler = .attached && s.tsq.state = .running && s.evu.search = .closed &&
    match s.tsq.specimen.bind Specimen.removalDrop, s.evu.fm with
    | some drop, some fm =>
      0 < fm.force && s.lch.last.net * 10000 ≤ fm.force * (10000 - drop)
    | _, _ => false

/-- The EXH takes a force update (R75). -/
def exhForce (s : State) : State :=
  if forceDropMet s then removeArms offerStrain .forceDrop s else s

/-- A LOAD sample: received range, conversion, and the force update taken by each block and by the
LCH's own work in an order left open (R20, R25). -/
def loadSample (f : SampleFrame) (s : State) : State :=
  let before := requestOutstanding s
  inOpenOrder
    [protectForce, evuForce, sequencerForce, exhForce, streamForce, loadWork before f.range]
    (convertSample f (receiveRange f.range s))

/-! ## Loss and restoration of LOAD (R11, R26, R161, R162) -/

/-- The LCH on a loss of its channel (R26). -/
def loadStale (s : State) : State :=
  failTare .channelLost (s.setLch { s.lch with
    last := { s.lch.last with quality := .stale }, dwell := none })

/-- The stream fallback timer starts for a full period while the stream is on (R162). -/
def startFallback (s : State) : State :=
  if s.cpt.streamOn then
    s.setCpt { s.cpt with fallbackAt := some (s.now + s.cpt.decimation * 250) }
  else s

/-- The PRU on a loss of LOAD: its force conditions clear and LOAD-LOST is judged (R135, R136,
R139). -/
def protectLoadLost (s : State) : State :=
  judgeLoadLost false (clearForceConditions s)

/-- A channel lost event for LOAD. -/
def loseLoad (s : State) : State :=
  inOpenOrder [loadStale, protectLoadLost, startFallback] s

/-- A channel restored event for LOAD: LOAD-LOST is judged, the fallback timer stops and force updates
are counted from 0 (R139, R161, R162). -/
def restoreLoad (s : State) : State :=
  judgeLoadLost true (s.setCpt { s.cpt with fallbackAt := none, count := 0 })

/-! ## XHEAD samples (R42, R48) -/

/-- The position of a count (R42). -/
def positionOf (x : XSet) (count : Int) : Int :=
  clampForce (count * x.resolution + x.offset)

/-- A position regained event: D is initialised where its conditions allow (R48); POSITION-LOST
returns to CLEAR (R140). -/
def regainPosition (s : State) : State :=
  let t := setCondition .positionLost .clear s
  if t.xhu.demand.isNone || (t.xhu.drive.ready && latchEmpty t) then initialiseDemand t else t

/-- The EXH takes a position update: a crosshead-derived strain update during a test, but in ATTACHED
(R72). -/
def exhPosition (s : State) : State :=
  if inTest s && s.exh.handler ≠ .attached then publishCrosshead s else s

/-- The sequencer takes a position update (R92). -/
def sequencerPosition (s : State) : State :=
  judgeEnd (metByPosition s.xhu.pos) s

/-- An XHEAD sample (R42); it is not converted while XSET is BLANK. -/
def positionSample (f : SampleFrame) (s : State) : State :=
  match s.xhu.xset with
  | none => s
  | some x =>
    let t := s.setXhu { s.xhu with pos := positionOf x f.value, good := true }
    inOpenOrder [protectPosition, exhPosition, sequencerPosition]
      (if s.xhu.good then t else regainPosition t)

/-! ## Arm samples (R64, R65, R68, R69) -/

/-- ΔL of an arm (R65 stage 1). -/
def armDelta (count zero scale : Int) : Int :=
  roundDiv ((count - zero) * scale) 1024

/-- ΔL of arm A from the values held. -/
def deltaA (x : ExtSet) (e : Exh) : Int :=
  armDelta (e.latestA.getD 0) (e.zeroA.getD 0) x.scaleA

/-- ΔL of arm B from the values held. -/
def deltaB (x : ExtSet) (e : Exh) : Int :=
  armDelta (e.latestB.getD 0) (e.zeroB.getD 0) x.scaleB

/-- ε_e from the latest values of the arms in use (R65). -/
def extensometerStrain (x : ExtSet) (s : State) : Int :=
  let length := if x.twoArm then roundDiv (deltaA x s.exh + deltaB x s.exh) 2 else deltaA x s.exh
  clampSigned32 (roundDiv (length * 10000) (gaugeLength s x))

/-- The ΔL values of the arms in use are held (R65). -/
def holdDeltas (x : ExtSet) (s : State) : State :=
  s.setExh { s.exh with
    deltaA := some (deltaA x s.exh)
    deltaB := if x.twoArm then some (deltaB x s.exh) else s.exh.deltaB }

/-- The reported extensometer strain (R65). -/
def reportedExtensometer (x : ExtSet) (s : State) : Strain :=
  { value := clampSigned32 (extensometerStrain x s + s.exh.oe), source := .ext }

/-- The latest value of an arm is replaced (R64). -/
def holdArm (armB : Bool) (count : Int) (s : State) : State :=
  if armB then s.setExh { s.exh with latestB := some count }
  else s.setExh { s.exh with latestA := some count }

/-- One arm's averaging after a sample: counts up to 16 (R68). -/
def addToArm (count : Int) (a : ArmSum) : ArmSum :=
  if a.count < 16 then { count := a.count + 1, sum := a.sum + count } else a

/-- The averaging after a sample of an arm (R68). -/
def addToAveraging (armB : Bool) (count : Int) (v : Averaging) : Averaging :=
  if armB then { v with armB := addToArm count v.armB }
  else { v with armA := addToArm count v.armA }

/-- Whether every arm in use has reached 16 (R68). -/
def averagingComplete (x : ExtSet) (v : Averaging) : Bool :=
  16 ≤ v.armA.count && (!x.twoArm || 16 ≤ v.armB.count)

/-- The zeros of a completed averaging are set and the handler goes to ATTACHED (R68, R69). -/
def setZeros (x : ExtSet) (v : Averaging) (s : State) : State :=
  s.setExh { s.exh with
    handler := .attached
    averaging := none
    zeroA := some (roundDiv v.armA.sum 16)
    zeroB := if x.twoArm then some (roundDiv v.armB.sum 16) else none }

/-- The re-attach offset: 0 outside a test; during one, the last reported strain less ε_e (R69). -/
def setReattachOffset (x : ExtSet) (s : State) : State :=
  s.setExh { s.exh with oe := if inTest s then s.xhu.strain - extensometerStrain x s else 0 }

/-- The attach completes (R69): zeros, re-attach offset, the first extensometer strain update and the
record of R80 started afresh from it, without a comparison; then what the blocks do on that update and the
ATTACHED occurrence, in an order left open (assumption 44). -/
def completeAttach (x : ExtSet) (v : Averaging) (s : State) : State :=
  let t := holdDeltas x (setReattachOffset x (setZeros x v s))
  let st := reportedExtensometer x t
  inOpenOrder
    [tsqStrain st, evuStrain st, judgeRemoval offerStrain false st, raiseExt (.attached t.exh.oe)]
    (keepLastExt st.value (keepStrain st t))

/-- An arm sample during open zero averaging (R68). -/
def averageArm (x : ExtSet) (armB : Bool) (count : Int) (v : Averaging) (s : State) : State :=
  let next := addToAveraging armB count v
  if averagingComplete x next then completeAttach x next s
  else s.setExh { s.exh with averaging := some next }

/-- Whether the arm sample meets RANGE-END, judged on the ΔL of its own arm (R75). -/
def rangeEndMet (x : ExtSet) (armB : Bool) (s : State) : Bool :=
  x.rangeEnd ≤ (if armB then deltaB x s.exh else deltaA x s.exh).natAbs

/-- An arm sample in ATTACHED: a new extensometer strain is computed and published (R64, R65, R72). -/
def measureArm (x : ExtSet) (armB : Bool) (s : State) : State :=
  let t := holdDeltas x s
  publishExt (rangeEndMet x armB t) (reportedExtensometer x t) t

/-- A sample of an extensometer arm (R64). -/
def armSample (armB : Bool) (f : SampleFrame) (s : State) : State :=
  let t := holdArm armB f.value s
  match s.exh.extset with
  | none => t
  | some x =>
    if armInUse x armB then
      match s.exh.handler, s.exh.averaging with
      | .settling, some v => averageArm x armB f.value v t
      | .attached, _ => measureArm x armB t
      | _, _ => t
    else t

/-! ## Loss of an arm (R70, R79) -/

/-- An arm in use is lost while ATTACHED (R79): LOST, the splice and the milestone during a test, and
the occurrence, which with the milestone comes before or after what the blocks do on the splice update
(assumption 44). -/
def loseArm (armB : Bool) (s : State) : State :=
  let x := lastExtSample s
  let t := s.setExh { s.exh with handler := .lost }
  if inTest s then
    let u := spliceToCrosshead t
    inOpenOrder
      [ offerStrain (crossheadStrain u),
        fun v => raiseExt (.lost armB) (handMilestone (plainMilestone .extLost x) v) ] u
  else raiseExt (.lost armB) (t.setExh { t.exh with reported := none })

/-- A channel lost event for an arm (R70, R79). -/
def armLost (armB : Bool) (s : State) : State :=
  match s.exh.extset with
  | none => s
  | some x =>
    if armInUse x armB then
      match s.exh.handler with
      | .settling => failAttach .channelLost .detached s
      | .attached => loseArm armB s
      | _ => s
    else s

end Sys2Proof.Machine
end

