-- ==== Sys2Proof/Machine/Lanes.lean ====
section
/-!
DEFINITION. The Lane Interface and the Route Table (chapter 1): receiving a frame, the lane states, the
channel events, steering a sample, and the replacement of ROUTE.
-/

namespace Sys2Proof.Machine

/-! ## Channel events (R9 to R11) -/

/-- The four logical channels an owner watches, in the order of section 1.6. -/
def ownedChannels : List Channel :=
  [.load, .xhead, .extA, .extB]

/-- A channel lost event reaches its owner, and the blocks that judge the channel (R11). -/
def channelLost (c : Channel) (s : State) : State :=
  match c with
  | .load => loseLoad s
  | .xhead => losePosition s
  | .extA => armLost false s
  | .extB => armLost true s
  | .unused => s

/-- A channel restored event (R11). The position, and an arm, wait for the channel's next sample. -/
def channelRestored (c : Channel) (s : State) : State :=
  match c with
  | .load => restoreLoad s
  | .xhead | .extA | .extB | .unused => s

/-- The channels a lane carries under the working copy of ROUTE (R10). -/
def channelsOn (s : State) (lane : Lane) : List Channel :=
  ownedChannels.filter fun c => (entryOf s.rtb.route c).map keyLane = some lane

/-! ## Lane counts (R1, R2, R6) -/

/-- `s` with another record of a lane. -/
def setLane (lane : Lane) (x : LaneState) (s : State) : State :=
  s.setLif { s.lif with lanes := s.lif.lanes.set lane x }

/-- A bad frame is counted (R1). -/
def countBadFrame (lane : Lane) (s : State) : State :=
  setLane lane { s.lif.lanes[lane] with
    checkFailures := countUp s.lif.lanes[lane].checkFailures } s

/-- A module-fault sample is counted (R2). -/
def countModuleFault (lane : Lane) (s : State) : State :=
  setLane lane { s.lif.lanes[lane] with
    moduleFaults := countUp s.lif.lanes[lane].moduleFaults } s

/-- A sample without an owner is counted (R12). -/
def countUnmapped (lane : Lane) (s : State) : State :=
  setLane lane { s.lif.lanes[lane] with
    unmapped := countUp s.lif.lanes[lane].unmapped } s

/-! ## Lane state (R3 to R5) -/

/-- L4 first becomes UP after power-on: the demand timer starts (R15, R45). -/
def startDemandTimer (lane : Lane) (s : State) : State :=
  if lane = 4 ∧ s.xhu.demandAt.isNone then
    s.setXhu { s.xhu with demandAt := some (s.now + 250) }
  else s

/-- A lane comes UP: its silence timer starts, a LANE occurrence is raised and the channels it carries
are restored (R4, R5, R10). -/
def bringUp (lane : Lane) (s : State) : State :=
  let t := setLane lane
    { s.lif.lanes[lane] with status := .up, silence := some (s.now + 1000) } s
  let u := startDemandTimer lane (raise .lane (.lane lane true) t)
  inOpenOrder ((channelsOn u lane).map channelRestored) u

/-- An accepted frame updates its lane (R3, R4). -/
def acceptFrame (lane : Lane) (s : State) : State :=
  match s.lif.lanes[lane].status with
  | .up => setLane lane { s.lif.lanes[lane] with silence := some (s.now + 1000) } s
  | .down | .stale => bringUp lane s

/-- A lane goes STALE: a LANE occurrence, on L4 the loss of the drive status, and the loss of the
channels it carries (R4, R5, R10, R15). -/
def goStale (lane : Lane) (s : State) : State :=
  let t := raise .lane (.lane lane false)
    (setLane lane { s.lif.lanes[lane] with status := .stale, silence := none } s)
  inOpenOrder
    ((if lane = 4 then [loseDriveLane] else []) ++ (channelsOn t lane).map channelLost) t

/-! ## Steering (R12, R13) -/

/-- The raw value of a tapped entry is held with its fresh mark set (R13). -/
def holdRaw (k : Fin 10) (value : Int) (s : State) : State :=
  s.setRtb { s.rtb with
    holdings := s.rtb.holdings.set k (some { value := value, fresh := true }) }

/-- A sample goes to the owner of a channel, or is counted as unmapped (R12). -/
def deliver (lane : Lane) (c : Channel) (f : SampleFrame) (s : State) : State :=
  match c with
  | .load => loadSample f s
  | .xhead => positionSample f s
  | .extA => armSample false f s
  | .extB => armSample true f s
  | .unused => countUnmapped lane s

/-- The RTB steers an accepted SAMPLE (R12). -/
def steer (lane : Lane) (f : SampleFrame) (s : State) : State :=
  match s.rtb.route with
  | none => countUnmapped lane s
  | some route =>
    let k := routeKey lane f.sub
    deliver lane route[k].channel f (if route[k].tap then holdRaw k f.value s else s)

/-! ## Drive status (R44, R48, R141) -/

/-- A drive ready event: D is initialised where the position is GOOD, D set and the trip latch empty
(R48). -/
def driveReady (s : State) : State :=
  if s.xhu.good && s.xhu.demand.isSome && latchEmpty s then initialiseDemand s else s

/-- An accepted DRIVE-STATUS replaces the held flags; from not ready to ready it is a drive ready
event, and the PRU judges its fault flag, in an order left open (R44, R141). -/
def takeDriveStatus (d : DriveStatus) (s : State) : State :=
  let t := s.setXhu { s.xhu with drive := d }
  if !s.xhu.drive.ready && d.ready then inOpenOrder [driveReady, protectDriveStatus] t
  else protectDriveStatus t

/-! ## A frame arrives (R1 to R3) -/

/-- A frame the LIF has read acts on its lane and its owner. -/
def receive (lane : Lane) (frame : LaneFrame) (s : State) : State :=
  match frame with
  | .bad => countBadFrame lane s
  | .sample f =>
    if f.moduleFault then countModuleFault lane s else steer lane f (acceptFrame lane s)
  | .driveStatus d => takeDriveStatus d (acceptFrame lane s)

/-! ## Replacement of ROUTE (R9, R14, R162) -/

/-- Whether an entry of a route table is tapped. -/
def tapped (route : Option RouteTable) (k : Fin 10) : Bool :=
  match route with
  | none => false
  | some r => r[k].tap

/-- The raw holdings after a replacement: kept where the entry is tapped in both tables (R14). -/
def keepHoldings (old new : Option RouteTable) (holdings : Vector (Option RawHolding) 10) :
    Vector (Option RawHolding) 10 :=
  Vector.ofFn fun k : Fin 10 => if tapped old k && tapped new k then holdings[k] else none

/-- The events of one channel at a replacement: none where its entry is unchanged; otherwise lost, if
it was UP under the old table, and restored, if it is UP under the new one (R9). -/
def routeEvents (old : Option RouteTable) (c : Channel) (s : State) : State :=
  if entryOf old c = entryOf s.rtb.route c then s
  else
    let t := if channelUpUnder s old c then channelLost c s else s
    if channelUp t c then channelRestored c t else t

/-- The fallback timer starts when a replacement of ROUTE leaves LOAD unmapped (R162). -/
def fallbackUnmapped (s : State) : State :=
  if (entryOf s.rtb.route .load).isNone then startFallback s else s

/-- The working copy of ROUTE is replaced: the taps, then the events of the four channels, in an order
of channels left open (R9, R14). -/
def replaceRoute (new : Option RouteTable) (s : State) : State :=
  let old := s.rtb.route
  let t := s.setRtb { route := new, holdings := keepHoldings old new s.rtb.holdings }
  fallbackUnmapped (inOpenOrder (ownedChannels.map (routeEvents old)) t)

end Sys2Proof.Machine
end

