-- ==== Sys2Proof/Machine/Tables.lean ====
section
/-!
DEFINITION. The contents of tables as entries (section 11.3.4, R199), the validation of each table
(R8, R18, R32, R41, R63, R85, R133, R173, R187), and the installation of a working copy with its
owner's replacement effects.
-/

namespace Sys2Proof.Machine

/-! ## Bytes of entries (section 11.3.4) -/

/-- A 28-byte entry from its fields, the rest fill sent as 0. -/
def padEntry (fields : List Byte) : Entry :=
  (fields ++ List.replicate 28 0#8).take 28

/-- A one-byte code. -/
def codeByte (n : Nat) : Byte :=
  BitVec.ofNat 8 n

/-- The code of a byte. -/
def codeAt (e : Entry) (i : Nat) : Nat :=
  (byteAt e i).toNat

/-- The entry at a place of a content. -/
def entryAt (es : List Entry) (i : Nat) : Entry :=
  es.getD i []

/-- The value of a settings field: its entry's first four bytes. -/
def fieldAt (es : List Entry) (i : Nat) : Int :=
  quantityAt (entryAt es i) 0

/-- The entry of a settings field. -/
def fieldEntry (v : Int) : Entry :=
  padEntry (quantityBytes v)

/-! ## Codes of enumerations, in the lists of their chapters (R199) -/

/-- The code of a channel (section 1.6). -/
def channelCode : Channel → Nat
  | .load => 0
  | .xhead => 1
  | .extA => 2
  | .extB => 3
  | .unused => 4

/-- The channel of a code; codes beyond the list are refused before this is read (R8). -/
def channelOfCode : Nat → Channel
  | 0 => .load
  | 1 => .xhead
  | 2 => .extA
  | 3 => .extB
  | _ => .unused

/-- The code of a line function (chapter 7). -/
def functionCode : LineFunction → Nat
  | .manual => 0
  | .extOpen => 1
  | .dump => 2
  | .tripLamp => 3
  | .testActive => 4

/-- The line function of a code (R187). -/
def functionOfCode : Nat → LineFunction
  | 0 => .manual
  | 1 => .extOpen
  | 2 => .dump
  | 3 => .tripLamp
  | _ => .testActive

/-- The code of a level: 0 for OFF, otherwise 1 to 3. -/
def levelCode : Level → Nat
  | .off => 0
  | .one => 1
  | .two => 2
  | .three => 3

/-- The level of a code (R173). -/
def levelOfCode : Nat → Level
  | 0 => .off
  | 1 => .one
  | 2 => .two
  | _ => .three

/-- The code of a phase mode (section 5.1). -/
def phaseModeCode : PhaseMode → Nat
  | .positionRate => 0
  | .strainRate => 1
  | .stressRate => 2
  | .hold => 3

/-- The phase mode of a code (R85). -/
def phaseModeOfCode : Nat → PhaseMode
  | 0 => .positionRate
  | 1 => .strainRate
  | 2 => .stressRate
  | _ => .hold

/-- The code of an end condition kind (section 5.1). -/
def endKindCode : EndKind → Nat
  | .strainAtLeast => 0
  | .stressAtLeast => 1
  | .forceAtLeast => 2
  | .forceAtMost => 3
  | .positionAtLeast => 4
  | .positionAtMost => 5
  | .phaseTime => 6
  | .yieldClosed => 7
  | .never => 8

/-- The end condition kind of a code (R85). -/
def endKindOfCode : Nat → EndKind
  | 0 => .strainAtLeast
  | 1 => .stressAtLeast
  | 2 => .forceAtLeast
  | 3 => .forceAtMost
  | 4 => .positionAtLeast
  | 5 => .positionAtMost
  | 6 => .phaseTime
  | 7 => .yieldClosed
  | _ => .never

/-! ## Contents from entries -/

/-- A route table from its ten entries. -/
def readRoute (es : List Entry) : RouteTable :=
  Vector.ofFn fun k : Fin 10 =>
    { channel := channelOfCode (codeAt (entryAt es k) 0), tap := codeAt (entryAt es k) 1 = 1 }

/-- A calibration point from its entry. -/
def readPoint (e : Entry) : CalPoint :=
  { count := quantityAt e 0, force := quantityAt e 4 }

/-- A calibration table from its header and points. -/
def readCal (es : List Entry) : CalTable :=
  es.tail.map readPoint

/-- LOADSET from its four entries; AUTO's range byte is fill. -/
def readLoadSet (es : List Entry) : LoadSet :=
  { mode :=
      if codeAt (entryAt es 0) 0 = 0 then .auto
      else .fixed (Fin.ofNat 4 (codeAt (entryAt es 0) 1))
    up := fieldAt es 1, down := fieldAt es 2, dwellMs := fieldAt es 3 }

/-- EXTSET from its seven entries. -/
def readExtSet (es : List Entry) : ExtSet :=
  { twoArm := codeAt (entryAt es 0) 0 = 1
    scaleA := fieldAt es 1, scaleB := fieldAt es 2, settleMs := fieldAt es 3
    rangeEnd := fieldAt es 4, slipStep := fieldAt es 5, setupLength := fieldAt es 6 }

/-- XSET from its six entries. -/
def readXSet (es : List Entry) : XSet :=
  { resolution := fieldAt es 0, offset := fieldAt es 1, softLower := fieldAt es 2
    softUpper := fieldAt es 3, hardMargin := fieldAt es 4, jogMaximum := fieldAt es 5 }

/-- PROTSET from its ten entries. -/
def readProtSet (es : List Entry) : ProtSet :=
  { tension1 := fieldAt es 0, delay1Ms := fieldAt es 1, tension2 := fieldAt es 2
    count2 := fieldAt es 3, compression := fieldAt es 4, delayCMs := fieldAt es 5
    followLimit := fieldAt es 6, followDelayMs := fieldAt es 7, loadLossMs := fieldAt es 8
    recovery := fieldAt es 9 }

/-- LINESET from its four entries. -/
def readLineSet (es : List Entry) : LineSet :=
  Vector.ofFn fun i : Fin 4 => functionOfCode (codeAt (entryAt es i) 0)

/-- NLEVELS from its ten entries. -/
def readLevels (es : List Entry) : NoticeLevels :=
  Vector.ofFn fun i : Fin 10 => levelOfCode (codeAt (entryAt es i) 0)

/-- A phase from its entry; the kind 255 of end condition 2 is its absence, and its threshold is then
not read (R199). -/
def readPhase (e : Entry) : Phase :=
  { mode := phaseModeOfCode (codeAt e 0)
    rate := quantityAt e 1
    direction := byteAt e 5
    gain := unsignedAt e 6 2
    vmax := quantityAt e 8
    feedforward := quantityAt e 12
    end1 := endKindOfCode (codeAt e 16)
    threshold1 := quantityAt e 17
    end2 := if codeAt e 21 = 255 then none else some (endKindOfCode (codeAt e 21))
    threshold2 := if codeAt e 21 = 255 then 0 else quantityAt e 22
    removeExt := codeAt e 26 = 1 }

/-- A program from its header and phases. -/
def readProgram (es : List Entry) : Program :=
  { timeLimit := unsignedAt (entryAt es 0) 1 2, phases := es.tail.map readPhase }

/-- The content of one table from its entries, in its place among the tables. -/
def readTable (id : TableId) (es : List Entry) : Tables :=
  match id with
  | .route => { Tables.blank with route := some (readRoute es) }
  | .cal g => { Tables.blank with cal := Tables.blank.cal.set g (some (readCal es)) }
  | .loadset => { Tables.blank with loadset := some (readLoadSet es) }
  | .extset => { Tables.blank with extset := some (readExtSet es) }
  | .xset => { Tables.blank with xset := some (readXSet es) }
  | .protset => { Tables.blank with protset := some (readProtSet es) }
  | .lineset => { Tables.blank with lineset := some (readLineSet es) }
  | .nlevels => { Tables.blank with nlevels := some (readLevels es) }
  | .prog k => { Tables.blank with prog := Tables.blank.prog.set k (some (readProgram es)) }

/-! ## Entries from contents (R188) -/

/-- The entry of a route entry. -/
def routeBytes (r : RouteEntry) : Entry :=
  padEntry [codeByte (channelCode r.channel), if r.tap then 1 else 0]

/-- The entry of a calibration point. -/
def pointBytes (p : CalPoint) : Entry :=
  padEntry (quantityBytes p.count ++ quantityBytes p.force)

/-- The mode entry of LOADSET. -/
def rangeModeBytes : RangeMode → Entry
  | .auto => padEntry [0]
  | .fixed g => padEntry [1, codeByte g.val]

/-- The entry of a phase. -/
def phaseBytes (p : Phase) : Entry :=
  padEntry
    ([codeByte (phaseModeCode p.mode)] ++ quantityBytes p.rate ++ [p.direction]
      ++ bytesOf 2 p.gain ++ quantityBytes p.vmax ++ quantityBytes p.feedforward
      ++ [codeByte (endKindCode p.end1)] ++ quantityBytes p.threshold1
      ++ (match p.end2 with
          | none => [255#8] ++ quantityBytes 0
          | some k => [codeByte (endKindCode k)] ++ quantityBytes p.threshold2)
      ++ [if p.removeExt then 1 else 0])

/-- The entries of a program. -/
def programEntries (p : Program) : List Entry :=
  padEntry ([codeByte p.phases.length] ++ bytesOf 2 p.timeLimit) :: p.phases.map phaseBytes

/-- The entries of a calibration table. -/
def calEntries (t : CalTable) : List Entry :=
  padEntry [codeByte t.length] :: t.map pointBytes

/-- The entries of LOADSET. -/
def loadSetEntries (x : LoadSet) : List Entry :=
  rangeModeBytes x.mode :: [x.up, x.down, x.dwellMs].map fieldEntry

/-- The entries of EXTSET. -/
def extSetEntries (x : ExtSet) : List Entry :=
  padEntry [if x.twoArm then 1 else 0]
    :: [x.scaleA, x.scaleB, x.settleMs, x.rangeEnd, x.slipStep, x.setupLength].map fieldEntry

/-- The entries of XSET. -/
def xSetEntries (x : XSet) : List Entry :=
  [x.resolution, x.offset, x.softLower, x.softUpper, x.hardMargin, x.jogMaximum].map fieldEntry

/-- The entries of PROTSET. -/
def protSetEntries (p : ProtSet) : List Entry :=
  [p.tension1, p.delay1Ms, p.tension2, p.count2, p.compression, p.delayCMs, p.followLimit,
   p.followDelayMs, p.loadLossMs, p.recovery].map fieldEntry

/-- The entries of a table's content; none where the table holds none. -/
def tableEntries (id : TableId) (t : Tables) : Option (List Entry) :=
  match id with
  | .route => t.route.map fun r => r.toList.map routeBytes
  | .cal g => t.cal[g].map calEntries
  | .loadset => t.loadset.map loadSetEntries
  | .extset => t.extset.map extSetEntries
  | .xset => t.xset.map xSetEntries
  | .protset => t.protset.map protSetEntries
  | .lineset => t.lineset.map fun l => l.toList.map fun f => padEntry [codeByte (functionCode f)]
  | .nlevels => t.nlevels.map fun l => l.toList.map fun v => padEntry [codeByte (levelCode v)]
  | .prog k => t.prog[k].map programEntries

/-! ## The form of a staging copy (R181, R182, section 10.1) -/

/-- The most entries a table can hold. -/
def maxEntries : TableId → Nat
  | .route => 10
  | .cal _ => 17
  | .loadset => 4
  | .extset => 7
  | .xset => 6
  | .protset => 10
  | .lineset => 4
  | .nlevels => 10
  | .prog _ => 9

/-- The form check of a commit: the fixed count of the table, or the header and as many further entries
as it declares (R182). -/
def hasForm (id : TableId) (es : List Entry) : Bool :=
  match id with
  | .cal _ | .prog _ => es.length = 1 + codeAt (entryAt es 0) 0
  | _ => es.length = maxEntries id

/-! ## Validation (section 10.1) -/

/-- Whether `v` lies from `lo` to `hi`. -/
def inRange (lo hi v : Int) : Bool :=
  lo ≤ v && v ≤ hi

/-- Whether a list is strictly rising. -/
def rising : List Int → Bool
  | [] => true
  | [_] => true
  | a :: b :: rest => a < b && rising (b :: rest)

/-- The conditions of R8 on the ten entries, in order; the last is that each tap byte is 0 or 1. -/
def routeConditions (es : List Entry) : List Bool :=
  let codes := es.map fun e => codeAt e 0
  [ [0, 1, 2, 3].all fun c => codes.count c ≤ 1,
    (es.filter fun e => codeAt e 1 = 1).length ≤ 4,
    (codes.drop 8).all fun c => c = 1 || c = 4,
    codes.all fun c => c ≤ 4,
    es.all fun e => codeAt e 1 ≤ 1 ]

/-- The conditions of R18, in order. -/
def calConditions (es : List Entry) : List Bool :=
  let points := readCal es
  [ 2 ≤ points.length && points.length ≤ 16,
    points.all fun p =>
      inRange (-8388608) 8388607 p.count && inRange (-2147483647) 2147483647 p.force,
    rising (points.map CalPoint.count),
    rising (points.map CalPoint.force) ]

/-- The conditions of R32: each field of section 2.6, then down below up. -/
def loadSetConditions (es : List Entry) : List Bool :=
  [ codeAt (entryAt es 0) 0 = 0
      || (codeAt (entryAt es 0) 0 = 1 && codeAt (entryAt es 0) 1 ≤ 3),
    inRange 1 10000 (fieldAt es 1),
    inRange 0 9999 (fieldAt es 2),
    inRange 10 1000 (fieldAt es 3),
    fieldAt es 2 < fieldAt es 1 ]

/-- The conditions of R63: each field of section 4.1. -/
def extSetConditions (es : List Entry) : List Bool :=
  [ codeAt (entryAt es 0) 0 ≤ 1,
    inRange 1 65535 (fieldAt es 1),
    inRange 1 65535 (fieldAt es 2),
    inRange 50 2000 (fieldAt es 3),
    inRange 1 50000000 (fieldAt es 4),
    inRange 0 1000000 (fieldAt es 5),
    inRange 10000 500000 (fieldAt es 6) ]

/-- The conditions of R41: each field of section 3.1, then lower below upper. -/
def xSetConditions (es : List Entry) : List Bool :=
  [ inRange 1 255 (fieldAt es 0),
    inRange (-2147483647) 2147483647 (fieldAt es 1),
    inRange (-2147483647) 2147483647 (fieldAt es 2),
    inRange (-2147483647) 2147483647 (fieldAt es 3),
    inRange 0 100000000 (fieldAt es 4),
    inRange 0 5000000 (fieldAt es 5),
    fieldAt es 2 < fieldAt es 3 ]

/-- The conditions of R133: each field of section 7.2, T2's being that it is greater than T1. -/
def protSetConditions (es : List Entry) : List Bool :=
  [ inRange 1 2147483646 (fieldAt es 0),
    inRange 1 64 (fieldAt es 1),
    fieldAt es 0 < fieldAt es 2,
    inRange 1 16 (fieldAt es 3),
    inRange 1 2147483647 (fieldAt es 4),
    inRange 1 64 (fieldAt es 5),
    inRange 1 100000000 (fieldAt es 6),
    inRange 1 500 (fieldAt es 7),
    inRange 0 500 (fieldAt es 8),
    inRange 0 10000 (fieldAt es 9) ]

/-- The conditions of R187, in order. -/
def lineSetConditions (es : List Entry) : List Bool :=
  let codes := es.map fun e => codeAt e 0
  [ codes.all fun c => c ≤ 4, [1, 2, 3, 4].all fun c => codes.count c ≤ 1 ]

/-- The condition of R173 on the ten levels. -/
def levelConditions (es : List Entry) : List Bool :=
  [ es.all fun e => codeAt e 0 ≤ 3 ]

/-- End condition 2 is absent or of a kind other than NONE (section 5.1, R85 condition 6). -/
def secondEndInRange (e : Entry) : Bool :=
  codeAt e 21 = 255 || codeAt e 21 ≤ 7

/-- The fields of a phase lie within the ranges of the phase table of section 5.1 for its mode (R85
condition 3): the end conditions and the end action are fields of every mode. The table itself gives a
closed-loop mode the direction +1 and end condition 2 a kind other than NONE, so a copy that breaks
condition 4 or 6 breaks this one too, and its refusal names either (assumption 18). -/
def phaseFieldsInRange (e : Entry) : Bool :=
  codeAt e 16 ≤ 8 && secondEndInRange e && codeAt e 26 ≤ 1 &&
    match codeAt e 0 with
    | 0 => inRange 0 25000000 (quantityAt e 1) && (codeAt e 5 = 1 || codeAt e 5 = 255)
    | 1 =>
      inRange 0 10000000 (quantityAt e 1) && codeAt e 5 = 1 && inRange 0 25000000 (quantityAt e 8)
    | 2 =>
      inRange 0 10000000 (quantityAt e 1) && codeAt e 5 = 1 && inRange 0 25000000 (quantityAt e 8)
        && inRange 0 25000000 (quantityAt e 12)
    | 3 => true
    | _ => false

/-- Whether a threshold lies within the range of its kind (R85 condition 5). -/
def thresholdInRange (kind : EndKind) (v : Int) : Bool :=
  match kind with
  | .forceAtLeast | .forceAtMost | .positionAtLeast | .positionAtMost =>
    inRange (-2147483647) 2147483647 v
  | .phaseTime => inRange 1 3600000 v
  | .strainAtLeast | .stressAtLeast | .yieldClosed | .never => true

/-- The thresholds of a phase lie within their ranges; a kind outside the list has none. -/
def thresholdsInRange (e : Entry) : Bool :=
  (8 < codeAt e 16 || thresholdInRange (endKindOfCode (codeAt e 16)) (quantityAt e 17))
    && (8 < codeAt e 21 || thresholdInRange (endKindOfCode (codeAt e 21)) (quantityAt e 22))

/-- The conditions of R85, in order. -/
def programConditions (es : List Entry) : List Bool :=
  let phases := es.tail
  [ 1 ≤ codeAt (entryAt es 0) 0 && codeAt (entryAt es 0) 0 ≤ 8
      && phases.length = codeAt (entryAt es 0) 0,
    1 ≤ unsignedAt (entryAt es 0) 1 2 && unsignedAt (entryAt es 0) 1 2 ≤ 3600,
    phases.all phaseFieldsInRange,
    phases.all fun e => (codeAt e 0 ≠ 1 && codeAt e 0 ≠ 2) || codeAt e 5 = 1,
    phases.all thresholdsInRange,
    phases.all secondEndInRange,
    phases.all fun e => codeAt e 16 ≠ 8 || codeAt e 21 = 255 ]

/-- The validation conditions of a table on a staging copy that has its form. -/
def conditions (id : TableId) (es : List Entry) : List Bool :=
  match id with
  | .route => routeConditions es
  | .cal _ => calConditions es
  | .loadset => loadSetConditions es
  | .extset => extSetConditions es
  | .xset => xSetConditions es
  | .protset => protSetConditions es
  | .lineset => lineSetConditions es
  | .nlevels => levelConditions es
  | .prog _ => programConditions es

/-- The places of the conditions a staging copy fails. -/
def failing (id : TableId) (es : List Entry) : List Nat :=
  (List.range (conditions id es).length).filter fun i => !(conditions id es).getD i true

/-- A staging copy passes the validation of its table. -/
def validates (id : TableId) (es : List Entry) : Bool :=
  (conditions id es).all fun b => b

/-! ## Replacement effects (R19, R32, R41, R63, R133, R173 to R175, R187) -/

/-- A calibration table is replaced (R19). During the start-up recall no request is made. A requested
range that becomes unset ends the request (assumption 40). -/
def replaceCal (startUp : Bool) (g : Fin 4) (new : Option CalTable) (s : State) : State :=
  let t := s.setLch { s.lch with cal := s.lch.cal.set g new, dwell := none }
  if new.isSome then
    if t.lch.requested.isNone && !startUp then initialRequest t else t
  else
    match (loadSettings t).mode with
    | .fixed _ => t
    | .auto =>
      if t.lch.requested = some g then
        match coarsestValid t with
        | some h => makeRequest h t
        | none =>
          t.setLch { t.lch with requested := none, awaiting := false, repeatAt := none }
      else t

/-- LOADSET is replaced (R32). FIXED g makes its request with no calibration table VALID too
(assumption 41). -/
def replaceLoadSet (startUp : Bool) (new : Option LoadSet) (s : State) : State :=
  let t := s.setLch { s.lch with loadset := new, dwell := none }
  match (loadSettings t).mode with
  | .fixed g => if t.lch.requested = some g || startUp then t else makeRequest g t
  | .auto => t

/-- The handler drops its zeros and goes to DETACHED with a DETACHED occurrence (R63); the reported
strain leaves with ATTACHED (R71). -/
def detach (s : State) : State :=
  raiseExt .detached (s.setExh { s.exh with
    handler := .detached, zeroA := none, zeroB := none, reported := none })

/-- EXTSET is replaced (R63). -/
def replaceExtSet (new : Option ExtSet) (s : State) : State :=
  let t := s.setExh { s.exh with extset := new }
  match s.exh.handler with
  | .settling => failAttach .settingsChanged .detached t
  | .attached | .lost => detach t
  | .detached | .opened => t

/-- XSET is replaced (R41): on becoming BLANK the position goes STALE and TRAVEL returns to CLEAR
(R138). -/
def replaceXSet (new : Option XSet) (s : State) : State :=
  let t := s.setXhu { s.xhu with xset := new }
  if new.isNone then losePosition (setCondition .travel .clear t) else t

/-- PROTSET is replaced: every condition state returns to CLEAR (R133). -/
def replaceProtSet (new : Option ProtSet) (s : State) : State :=
  clearConditions (s.setPru { s.pru with protset := new })

/-- LINESET is replaced; the lines follow it at once (R187, `lineLevel`). -/
def replaceLineSet (new : Option LineSet) (s : State) : State :=
  s.setOln { s.oln with lineset := new }

/-- New levels with TRIP kept at the level in force where they would switch it off (R174). -/
def keepTripLevel (s : State) (new : NoticeLevels) : NoticeLevels :=
  if new[sourceNumber .trip] = .off then new.set (sourceNumber .trip) (noticeLevel s .trip) else new

/-- NLEVELS is replaced: a source that becomes OFF discards its pending record (R173 to R175). -/
def replaceLevels (new : Option NoticeLevels) (s : State) : State :=
  let t := s.setNtu { s.ntu with nlevels := new.map (keepTripLevel s) }
  t.setNtu { t.ntu with
    records := allSources.foldl
      (fun (rs : Vector (Option NoticeRecord) 10) src =>
        if noticeLevel t src = .off then rs.set (sourceNumber src) none else rs)
      t.ntu.records }

/-- A program is replaced (R86). -/
def replaceProgram (k : Fin 4) (new : Option Program) (s : State) : State :=
  s.setTsq { s.tsq with prog := s.tsq.prog.set k new }

/-- The edition of a table advances (R179). -/
def advanceEdition (id : TableId) (s : State) : State :=
  s.setTst { s.tst with
    editions := s.tst.editions.set (tableNumber id) (s.tst.editions[tableNumber id] + 1) }

/-- The working copy of a table is replaced by its content in `t`, or becomes BLANK where `t` holds
none: the edition advances and the owner applies its effects (R179, R183, R190, R191). -/
def install (startUp : Bool) (id : TableId) (t : Tables) (s : State) : State :=
  let u := advanceEdition id s
  match id with
  | .route => replaceRoute t.route u
  | .cal g => replaceCal startUp g t.cal[g] u
  | .loadset => replaceLoadSet startUp t.loadset u
  | .extset => replaceExtSet t.extset u
  | .xset => replaceXSet t.xset u
  | .protset => replaceProtSet t.protset u
  | .lineset => replaceLineSet t.lineset u
  | .nlevels => replaceLevels t.nlevels u
  | .prog k => replaceProgram k t.prog[k] u

/-- One table's content copied from `src` into `dst`. -/
def copyTable (id : TableId) (src dst : Tables) : Tables :=
  match id with
  | .route => { dst with route := src.route }
  | .cal g => { dst with cal := dst.cal.set g src.cal[g] }
  | .loadset => { dst with loadset := src.loadset }
  | .extset => { dst with extset := src.extset }
  | .xset => { dst with xset := src.xset }
  | .protset => { dst with protset := src.protset }
  | .lineset => { dst with lineset := src.lineset }
  | .nlevels => { dst with nlevels := src.nlevels }
  | .prog k => { dst with prog := dst.prog.set k src.prog[k] }

end Sys2Proof.Machine
end

