-- ==== Sys2Proof/Machine/Link.lean ====
section
/-!
DEFINITION. The Controller Port's inbound side (R155 to R157), the load session (section 10.2), the
Table Store (section 10.5), the link orders (section 8.7) and RESTART.
-/

namespace Sys2Proof.Machine

/-! ## Taking an order (R156, R157) -/

/-- An order is answered by its owner. -/
def reply (o : OrderName) (tag : Byte) (code : ReplyCode) (detail : Option Detail)
    (payload : Option Payload) (s : State) : State :=
  answer (orderCode o) tag code detail payload s

/-- A fifth order is discarded (R157). -/
def overrun (kind tag : Byte) (s : State) : State :=
  raise .link (.overrun tag kind) (s.setCpt { s.cpt with overruns := countUp s.cpt.overruns })

/-- An order joins the outstanding set (R157). -/
def joinOutstanding (kind tag : Byte) (s : State) : State :=
  s.setCpt { s.cpt with
    outstanding := s.cpt.outstanding ++ [{ tag := tag, kind := kind, answered := false }] }

/-- Stages 2 to 4 of R156 for an order of the catalogue: form, start-up, owner. -/
def dispatch (o : OrderName) (owner : Byte → List Byte → State → State) (tag : Byte)
    (args : List Byte) (s : State) : State :=
  if !wellFormedArguments o args then reply o tag .badArgument (some .format) none s
  else if storeStarting s && o ≠ .statusRead then reply o tag .busyStore none none s
  else owner tag args s

/-- An order frame of the catalogue: taken and dispatched, or discarded for overrun (R156, R157). -/
def takeOrder (o : OrderName) (owner : Byte → List Byte → State → State) (tag : Byte)
    (args : List Byte) (s : State) : State :=
  if 4 ≤ s.cpt.outstanding.length then overrun (orderCode o) tag s
  else dispatch o owner tag args (joinOutstanding (orderCode o) tag s)

/-- An order frame whose kind is outside the catalogue (R156 stage 1, R157). -/
def takeUnknown (kind tag : Byte) (s : State) : State :=
  if 4 ≤ s.cpt.outstanding.length then overrun kind tag s
  else answer kind tag .unknownOrder none none (joinOutstanding kind tag s)

/-! ## Table identities in arguments (section 10.1) -/

/-- The table of an identity byte; none outside 0 to 14. -/
def tableOfByte (b : Byte) : Option TableId :=
  allTables[b.toNat]?

/-- What a store order names: an identity, or ALL, coded 15 (assumption 17). -/
def targetOfByte (b : Byte) : Option StoreTarget :=
  if b.toNat = 15 then some .all else (tableOfByte b).map .one

/-- The tables a store order concerns, in identity order. -/
def targetTables : StoreTarget → List TableId
  | .one t => [t]
  | .all => allTables

/-! ## The load session (R180 to R185) -/

/-- The session returns to CLOSED. -/
def closeSession (s : State) : State :=
  s.setCpt { s.cpt with session := none }

/-- The session timer restarts at 2,000 ms (R185). -/
def restartSession (x : Session) (s : State) : State :=
  s.setCpt { s.cpt with session := some { x with deadline := s.now + 2000000 } }

/-- TABLE-OPEN at its owner (R180). -/
def ownTableOpen (tag : Byte) (args : List Byte) (s : State) : State :=
  match tableOfByte (byteAt args 0) with
  | none => reply .tableOpen tag .badArgument none none s
  | some t =>
    if s.cpt.session.isSome then reply .tableOpen tag .busy none none s
    else if storeConcerns s t then reply .tableOpen tag .busyStore none none s
    else
      reply .tableOpen tag .done none none
        (restartSession { table := t, staging := [], next := 0, deadline := 0 } s)

/-- The entries of a TABLE-DATA order (R199, section 11.3.4). -/
def dataEntries (args : List Byte) : List Entry :=
  (List.range (byteAt args 1).toNat).map fun i => (args.drop (2 + 28 * i)).take 28

/-- TABLE-DATA at its owner (R181). -/
def ownTableData (tag : Byte) (args : List Byte) (s : State) : State :=
  match s.cpt.session with
  | none => reply .tableData tag .notOpen none none s
  | some x =>
    if (byteAt args 0).toNat ≠ x.next then
      reply .tableData tag .sequence none none (closeSession s)
    else if maxEntries x.table < x.staging.length + (dataEntries args).length then
      reply .tableData tag .badArgument (some .entries) none (closeSession s)
    else
      reply .tableData tag .done none none
        (restartSession { x with staging := x.staging ++ dataEntries args, next := x.next + 1 } s)

/-- The first of the failing conditions a refusal names: which one is left open where several fail
(assumption 18). -/
def namedCondition (failed : List Nat) (s : State) : Nat × State :=
  match failed with
  | [n] => (n, s)
  | _ => ((failed[(openChoice failed.length s).1]?).getD 0, (openChoice failed.length s).2)

/-- An accepted commit (R183): the replacement, the end of the session, the TABLE occurrence. -/
def commitTable (t : TableId) (es : List Entry) (s : State) : State :=
  raise .table (.table t false) (closeSession (install false t (readTable t es) s))

/-- TABLE-COMMIT at its owner (R182, R183). -/
def ownTableCommit (tag : Byte) (_args : List Byte) (s : State) : State :=
  match s.cpt.session with
  | none => reply .tableCommit tag .notOpen none none s
  | some x =>
    if !hasForm x.table x.staging then
      reply .tableCommit tag .badArgument (some .entries) none (closeSession s)
    else if !validates x.table x.staging then
      let named := namedCondition (failing x.table x.staging) s
      reply .tableCommit tag .badArgument (some (.condition named.1)) none (closeSession named.2)
    else if tableInUse s x.table then
      reply .tableCommit tag .inUse none none (restartSession x s)
    else if storeConcerns s x.table then
      reply .tableCommit tag .busyStore none none (restartSession x s)
    else reply .tableCommit tag .done none none (commitTable x.table x.staging s)

/-- TABLE-DISCARD at its owner (R184). -/
def ownTableDiscard (tag : Byte) (_args : List Byte) (s : State) : State :=
  if s.cpt.session.isSome then reply .tableDiscard tag .done none none (closeSession s)
  else reply .tableDiscard tag .notOpen none none s

/-- TABLE-READ at its owner (R188). The edition of a BLANK-TABLE reply, and the number of entries and the
edition of one whose segment lies past the end, are the reply's detail (assumption 57). -/
def ownTableRead (tag : Byte) (args : List Byte) (s : State) : State :=
  match tableOfByte (byteAt args 0) with
  | none => reply .tableRead tag .badArgument none none s
  | some t =>
    let edition := s.tst.editions[tableNumber t]
    let segment := (byteAt args 1).toNat
    match tableEntries t (workingCopies s) with
    | none => reply .tableRead tag .blankTable (some (.edition edition)) none s
    | some es =>
      if es.length ≤ segment * 16 then
        reply .tableRead tag .badArgument (some (.entriesEdition es.length edition)) none s
      else
        reply .tableRead tag .done none
          (some (.entries es.length edition ((es.drop (segment * 16)).take 16))) s

/-! ## The Table Store (R189 to R191) -/

/-- STORE-SAVE at its owner (R189). -/
def ownStoreSave (tag : Byte) (args : List Byte) (s : State) : State :=
  match targetOfByte (byteAt args 0) with
  | none => reply .storeSave tag .badArgument none none s
  | some target =>
    if !storeIdle s then reply .storeSave tag .busyStore none none s
    else
      reply .storeSave tag .accepted none none
        (s.setTst { s.tst with op := .saving target (workingCopies s) (targetTables target) [] })

/-- STORE-RECALL at its owner (R190). -/
def ownStoreRecall (tag : Byte) (args : List Byte) (s : State) : State :=
  match targetOfByte (byteAt args 0) with
  | none => reply .storeRecall tag .badArgument none none s
  | some target =>
    if !storeIdle s then reply .storeRecall tag .busyStore none none s
    else
      match (targetTables target).find? (tableInUse s) with
      | some t => reply .storeRecall tag .inUse (some (.table t)) none s
      | none =>
        reply .storeRecall tag .accepted none none
          (s.setTst { s.tst with op := .recalling target (targetTables target) [] [] })

/-- The store operation in flight becomes `op`. -/
def setStoreOp (op : StoreOp) (s : State) : State :=
  s.setTst { s.tst with op := op }

/-- A STORE occurrence (R189 to R191). -/
def raiseStore (operation : StoreOperation) (target : StoreTarget) (failed : Bool)
    (tables kept : List TableId) (s : State) : State :=
  raise .store (.store operation target failed tables kept) s

/-- A table's write completes (R189): the stored copy is the snapshot's where the check passed, and
after the last table the store is IDLE and raises its occurrence. -/
def completeWrite (good : Bool) (target : StoreTarget) (snapshot : Tables) (t : TableId)
    (todo failed : List TableId) (s : State) : State :=
  let u :=
    if good then s.setTst { s.tst with stored := copyTable t snapshot s.tst.stored } else s
  let failed' := if good then failed else failed ++ [t]
  match todo with
  | [] => raiseStore .save target (!failed'.isEmpty) failed' [] (setStoreOp .idle u)
  | _ :: _ => setStoreOp (.saving target snapshot todo failed') u

/-- What a recall finds for a table: its stored copy where that is not empty and passes its check, else
nothing (R190). -/
def recalledCopy (intact : Bool) (s : State) : Tables :=
  if intact then s.tst.stored else Tables.blank

/-- A recall reaches a table (R190): kept where it is in use, else installed or made BLANK; after the
last the store is IDLE and raises its occurrence. -/
def completeRead (intact : Bool) (target : StoreTarget) (t : TableId)
    (todo blank kept : List TableId) (s : State) : State :=
  let inUse := tableInUse s t
  let copy := recalledCopy intact s
  let kept' := if inUse then kept ++ [t] else kept
  let blank' := if !inUse && !hasContent copy t then blank ++ [t] else blank
  let u := if inUse then s else install false t copy s
  match todo with
  | [] =>
    raiseStore .recall target (!blank'.isEmpty || !kept'.isEmpty) blank' kept' (setStoreOp .idle u)
  | _ :: _ => setStoreOp (.recalling target todo blank' kept') u

/-- The start-up recall reaches a table (R191): installed or left BLANK; after the last the store is
IDLE, raises its occurrence, and the LCH makes its initial request (R39). -/
def completeStartUp (intact : Bool) (t : TableId) (todo blank : List TableId) (s : State) : State :=
  let copy := recalledCopy intact s
  let blank' := if hasContent copy t then blank else blank ++ [t]
  let u := install true t copy s
  match todo with
  | [] =>
    initialRequest (raiseStore .startUp .all (!blank'.isEmpty) blank' [] (setStoreOp .idle u))
  | _ :: _ => setStoreOp (.starting todo blank') u

/-! ## STREAM-SET and STATUS-READ (R166, R167) -/

/-- STREAM-SET at its owner (R166); the flag's list is on, off. A flag byte beyond it is refused
(assumption 19). -/
def ownStreamSet (tag : Byte) (args : List Byte) (s : State) : State :=
  let n := unsignedAt args 1 4
  if n < 1 || 64 < n || 1 < (byteAt args 0).toNat then
    reply .streamSet tag .badArgument none none s
  else
    let on := decide (byteAt args 0 = 0)
    let period := if on && !channelUp s .load then some (s.now + n * 250) else none
    reply .streamSet tag .done none none
      (s.setCpt { s.cpt with
        streamOn := on, decimation := n, count := 0, due := false, fallbackAt := period })

/-- The name of the store state, with what it concerns (section 10.5). -/
def storeView : StoreOp → StoreState × Option StoreTarget
  | .idle => (.idle, none)
  | .saving target _ _ _ => (.saving, some target)
  | .recalling target _ _ _ => (.recalling, some target)
  | .starting _ _ => (.starting, some .all)

/-- A section of STATUS-READ by its place in the list of R167. A settle time and zero averaging in
progress are two items (assumption 48). The sequence of the last measurement frame is absent until one
has been sent (assumption 53). -/
def statusSection (s : State) : Nat → Option Status
  | 0 => some (.link s.cpt.checkFailures s.cpt.overruns s.cpt.coalesced s.cpt.outstanding.length
      s.cpt.streamOn s.cpt.decimation s.cpt.sequence)
  | 1 => some (.lanes (s.lif.lanes.toList.map fun l =>
      (l.status, l.checkFailures, l.moduleFaults, l.unmapped)))
  | 2 => some (.load s.lch.last s.lch.tare s.lch.received s.lch.requested (requestOutstanding s)
      s.lch.tareJob.isSome)
  | 3 => some (.crosshead s.xhu.pos s.xhu.good s.xhu.demand (modeName s.xhu.mode)
      (jogVelocity s.xhu.mode) s.xhu.drive s.xhu.lastEnable)
  | 4 => some (.extensometer s.exh.handler (extOpenFunction s) s.exh.zeroA s.exh.zeroB
      (deltaInUse s false) (deltaInUse s true) s.exh.pRef s.exh.ox s.exh.oe s.exh.reported
      s.exh.slipCount s.exh.settleAt.isSome s.exh.averaging.isSome)
  | 5 => some (.test s.tsq.state s.tsq.slot s.tsq.phase (phaseTime s) (testTime s) s.tsq.endCause
      (allTables.filter (tableInUse s)))
  | 6 => some (.protection (latchedClasses s) s.pru.conditions.toList (dumpFunction s)
      (tripLampFunction s))
  | 7 => some (.lines
      ((List.finRange 4).map fun i => (lineFunction s i, s.oln.manual[i], lineLevel s i))
      (extOpenFunction s) (dumpFunction s) (tripLampFunction s) (testActiveFunction s))
  | 8 => some (.notices (allSources.map fun src =>
      (noticeLevel s src, s.ntu.records[sourceNumber src].map fun r => (r.count, r.detail))))
  | 9 => some (.tables (allTables.map fun t => (valid s t, s.tst.editions[tableNumber t]))
      (storeView s.tst.op).1 (storeView s.tst.op).2 (s.cpt.session.map Session.table))
  | _ => none

/-- STATUS-READ at its owner (R167). -/
def ownStatusRead (tag : Byte) (args : List Byte) (s : State) : State :=
  match statusSection s (byteAt args 0).toNat with
  | none => reply .statusRead tag .badArgument none none s
  | some x => reply .statusRead tag .done none (some (.status x)) s

/-! ## RESTART (R168) -/

/-- RESTART at the sequencer, and at the EVU through the end of the test (R107, R132). Its quiet judgement
of LOAD-LOST in ARMED is no loss: every condition is CLEAR when the RESTART has been taken (R153). -/
def restartSequencer (s : State) : State :=
  match s.tsq.state with
  | .running | .held | .tripped => endTest .aborted .restart s
  | .armed =>
    settleLoadLost (enterState .idle (releaseSpecimen (s.setTsq { s.tsq with slot := none })))
  | .idle | .ended | .aborted => s

/-- RESTART at the LCH: the dwell timer stops (R40). -/
def restartLoad (s : State) : State :=
  s.setLch { s.lch with dwell := none }

/-- RESTART at the EXH (R84). -/
def restartHandler (s : State) : State :=
  match s.exh.handler with
  | .settling | .attached | .lost =>
    s.setExh { s.exh with
      handler := .detached, settleAt := none, averaging := none, zeroA := none, zeroB := none
      reported := none }
  | .opened | .detached => s.setExh { s.exh with reported := none }

/-- RESTART at the NTU: every pending record is discarded, and a latch that is not empty raises its
lowest-numbered class again (R178). -/
def restartNotices (s : State) : State :=
  let t := s.setNtu { s.ntu with records := Vector.replicate 10 none }
  match latchedClasses t with
  | [] => t
  | c :: _ => raise .trip (.tripped c) t

/-- RESTART at every block (R17, R40, R62, R84, R107, R132, R153, R154, R168, R178, R192). -/
def restartBlocks (s : State) : State :=
  closeSession (restartNotices (clearConditions (restartHandler (restartLoad (enterHold
    (restartSequencer s))))))

/-- RESTART at its owner (R168): the reply is formed when every block has taken its effects. -/
def ownRestart (tag : Byte) (_args : List Byte) (s : State) : State :=
  reply .restart tag .done none none (restartBlocks s)

end Sys2Proof.Machine
end

