-- ==== Sys2Proof/Machine/Orders.lean ====
section
/-!
DEFINITION. The orders of the Test Sequencer, the Evaluation Unit, the Load Channel, the Extensometer
Handler, the Crosshead Unit, the Protection Unit and the Output Lines, each at its owner.
-/

namespace Sys2Proof.Machine

/-! ## ARM (R87, R88, R198) -/

/-- The specimen record of ARM's seventy argument bytes: the fields of section 5.2 in order, the two
optional ones each behind a presence byte (R199). -/
def readSpecimen (a : List Byte) : Specimen :=
  { slot := quantityAt a 0
    s0 := quantityAt a 4
    l0 := quantityAt a 8
    lc := quantityAt a 12
    yieldDrop := quantityAt a 16
    searchLimit := quantityAt a 20
    transient := quantityAt a 24
    riseMargin := quantityAt a 28
    yieldMinForce := quantityAt a 32
    sigmaLow := quantityAt a 36
    sigmaHigh := quantityAt a 40
    proofOffset := quantityAt a 44
    removalStrain := if byteAt a 48 = 1 then some (quantityAt a 49) else none
    removalDrop := if byteAt a 53 = 1 then some (quantityAt a 54) else none
    breakFraction := quantityAt a 58
    breakDrop := quantityAt a 62
    breakArm := quantityAt a 66 }

/-- Whether an optional quantity, where present, lies in a range. -/
def optionInRange (lo hi : Int) : Option Int → Bool
  | none => true
  | some v => inRange lo hi v

/-- Every field of a specimen record lies within its range of section 5.2 (R87). -/
def specimenInRange (r : Specimen) : Bool :=
  inRange 0 3 r.slot && inRange 1000 50000000 r.s0 && inRange 10000 500000 r.l0
    && inRange 10000 500000 r.lc && r.l0 ≤ r.lc
    && inRange 10 500 r.yieldDrop && inRange 1 10000000 r.searchLimit
    && inRange 0 1000000 r.transient && inRange 1 2000 r.riseMargin
    && inRange 0 2147483647 r.yieldMinForce
    && inRange 0 2147483646 r.sigmaLow && r.sigmaLow < r.sigmaHigh && r.sigmaHigh ≤ 2147483647
    && inRange 0 1000000 r.proofOffset
    && optionInRange 1 10000000 r.removalStrain && optionInRange 1 9999 r.removalDrop
    && inRange 1 9999 r.breakFraction && inRange 1 2147483647 r.breakDrop
    && inRange 1 2147483647 r.breakArm

/-- The program slot of a specimen record. -/
def slotOf (r : Specimen) : Fin 4 :=
  Fin.ofNat 4 r.slot.toNat

/-- Whether the Load Channel has a received range whose calibration table is VALID (R87). -/
def receivedRangeValid (s : State) : Bool :=
  match s.lch.received with
  | none => false
  | some g => calValid s g

/-- The first check of R87 that fails, with its refusal. -/
def armRefusal (r : Specimen) (s : State) : Option (ReplyCode × ArmCheck) :=
  if s.tsq.state ≠ .idle ∧ s.tsq.state ≠ .ended ∧ s.tsq.state ≠ .aborted then
    some (.wrongState, .state)
  else if !latchEmpty s then some (.conditionPresent, .tripLatched)
  else if !specimenInRange r then some (.badArgument, .field)
  else if !valid s .route then some (.blankTable, .route)
  else if !valid s (.prog (slotOf r)) then some (.blankTable, .program)
  else if !valid s .xset then some (.blankTable, .xset)
  else if !valid s .protset then some (.blankTable, .protset)
  else if !channelUp s .load then some (.wrongState, .loadChannel)
  else if !channelUp s .xhead then some (.wrongState, .xheadChannel)
  else if !receivedRangeValid s then some (.blankTable, .cal)
  else none

/-- The sequencer holds the record and the slot, and clears the test before (R88), the phase time with it
(assumption 45); stress is first computed on the next force update (R27). -/
def holdSpecimen (r : Specimen) (s : State) : State :=
  (s.setTsq { s.tsq with
    specimen := some r, slot := some (slotOf r), testTime := 0, phase := none, phaseBase := 0
    phaseTimer := none, limitAt := none, endCause := none }).setLch { s.lch with stress := none }

/-- An accepted ARM (R88). -/
def armTest (r : Specimen) (s : State) : State :=
  changeStateArming .armed .arm (evuDiscard (holdSpecimen r s))

/-- ARM at its owner (R87, R88). -/
def ownArm (tag : Byte) (args : List Byte) (s : State) : State :=
  match armRefusal (readSpecimen args) s with
  | some (code, check) => reply .arm tag code (some (.arm check)) none s
  | none => reply .arm tag .done none none (armTest (readSpecimen args) s)

/-! ## DISARM, RELEASE and ABORT (R89, R100, R101) -/

/-- An armed test is left: the record and the slot are released and the sequencer goes to IDLE (R89). A
jog may go on, so LOAD-LOST is judged in full (R139). -/
def disarmTest (s : State) : State :=
  changeStateArming .idle .disarm (releaseSpecimen (s.setTsq { s.tsq with slot := none }))

/-- DISARM at its owner (R89). -/
def ownDisarm (tag : Byte) (_args : List Byte) (s : State) : State :=
  if s.tsq.state = .armed then reply .disarm tag .done none none (disarmTest s)
  else reply .disarm tag .wrongState none none s

/-- A finished test is released to IDLE: phase index and slot become absent, and phase time stays at its
value (R101, assumption 45). A jog may go on without LOAD, so LOAD-LOST is judged in full (R139). -/
def releaseTest (s : State) : State :=
  changeStateArming .idle .release (s.setTsq { s.tsq with slot := none, phase := none })

/-- RELEASE at its owner (R101). -/
def ownRelease (tag : Byte) (_args : List Byte) (s : State) : State :=
  match s.tsq.state with
  | .ended | .aborted => reply .release tag .done none none (releaseTest s)
  | _ => reply .release tag .wrongState none none s

/-- ABORT at its owner (R100). -/
def ownAbort (tag : Byte) (_args : List Byte) (s : State) : State :=
  if inTest s then reply .abort tag .done none none (endTest .aborted .abortOrder s)
  else reply .abort tag .wrongState none none s

/-! ## START (R90, R74, R97) -/

/-- The first check of R90 that fails. Where neither LOAD nor XHEAD is UP, one check fails for both and
LOAD-CHANNEL is named (assumption 56). -/
def startRefusal (s : State) : Option StartCheck :=
  if s.tsq.state ≠ .armed then some .state
  else if !channelUp s .load then some .loadChannel
  else if !channelUp s .xhead then some .xheadChannel
  else if !s.xhu.lastEnable then some .drive
  else none

/-- The time limit of the armed program in microseconds (R97). -/
def timeLimitOf (s : State) : Nat :=
  match armedProgram s with
  | none => 0
  | some p => p.timeLimit * 1000000

/-- Stages 1 and 2 of R90: test time 0, the time-limit timer, phase index 0 and phase time 0. -/
def startTimes (s : State) : State :=
  s.setTsq { s.tsq with
    startedAt := s.now, limitAt := some (s.now + timeLimitOf s), testTime := 0, phase := some 0
    phaseBase := 0, phaseSince := s.now, phaseTimer := none }

/-- The crosshead reference is set and the offsets, the slip count and the record of R80 cleared
(R74). -/
def clearOffsets (s : State) : State :=
  s.setExh { s.exh with pRef := s.xhu.pos, ox := 0, oe := 0, slipCount := 0, lastExt := none }

/-- The EXH at START publishes the first strain update of the test (R74). The first phase has not begun,
so the sequencer does not judge it (R92). -/
def exhStart (s : State) : State :=
  let t := clearOffsets s
  match s.exh.handler, s.exh.extset with
  | .attached, some x =>
    let u := holdDeltas x t
    let st := reportedExtensometer x u
    inOpenOrder [evuStrainLimit st, exhStrain evuStrainLimit false st] (keepStrain st u)
  | _, _ =>
    evuStrainLimit (crossheadStrain t) (keepStrain (crossheadStrain t) t)

/-- An active jog ends (R60). -/
def endJog (s : State) : State :=
  if jogActive s then enterHold s else s

/-- An accepted START (R90, R91). -/
def startTest (r : Specimen) (s : State) : State :=
  beginPhase 0 (endJog (exhStart (evuStart r
    (changeStateArming .running .start (startTimes s)))))

/-- START at its owner (R90). -/
def ownStart (tag : Byte) (_args : List Byte) (s : State) : State :=
  match startRefusal s, s.tsq.specimen with
  | some check, _ => reply .start tag .wrongState (some (.start check)) none s
  | none, some r => reply .start tag .done none none (startTest r s)
  | none, none => reply .start tag .wrongState (some (.start .state)) none s

/-! ## HOLD and RESUME (R95, R96) -/

/-- A milestone with the present phase index (R95, R96). -/
def phaseMilestone (kind : MilestoneKind) (s : State) : Milestone :=
  { kind := kind, index := s.tsq.phase, sample := currentSample s, value := none }

/-- The test is held (R95). -/
def holdTest (s : State) : State :=
  let t := enterHold (changeStateArming .held .hold s)
  handMilestone (phaseMilestone .hold t) t

/-- HOLD at its owner (R95). -/
def ownHold (tag : Byte) (_args : List Byte) (s : State) : State :=
  match s.tsq.state with
  | .running => reply .hold tag .done none none (holdTest s)
  | .held => reply .hold tag .done none none s
  | _ => reply .hold tag .wrongState none none s

/-- The test is resumed in its phase (R96). -/
def resumeTest (s : State) : State :=
  let t := changeStateArming .running .resume s
  requestPhaseMode (handMilestone (phaseMilestone .resume t) t)

/-- RESUME at its owner (R96). -/
def ownResume (tag : Byte) (_args : List Byte) (s : State) : State :=
  if s.tsq.state = .held then reply .resume tag .done none none (resumeTest s)
  else reply .resume tag .wrongState none none s

/-! ## RESULT-READ and MILESTONE-READ (R129, R130) -/

/-- RESULT-READ at its owner (R129). -/
def ownResultRead (tag : Byte) (_args : List Byte) (s : State) : State :=
  reply .resultRead tag .done none (some (.result (resultSummary s))) s

/-- MILESTONE-READ at its owner (R130). -/
def ownMilestoneRead (tag : Byte) (args : List Byte) (s : State) : State :=
  match s.evu.list[unsignedAt args 0 4]? with
  | some m => reply .milestoneRead tag .done none (some (.milestone m s.evu.list.length)) s
  | none => reply .milestoneRead tag .badArgument (some (.count s.evu.list.length)) none s

/-! ## TARE (R28) -/

/-- TARE at its owner (R28). An accepted one is not answered yet. -/
def ownTare (tag : Byte) (_args : List Byte) (s : State) : State :=
  if s.lch.tareJob.isSome then reply .tare tag .busy none none s
  else if s.tsq.state ≠ .idle ∧ s.tsq.state ≠ .armed then reply .tare tag .wrongState none none s
  else if !channelUp s .load then
    reply .tare tag .failed (some (.tare .channelLost)) none s
  else
    s.setLch { s.lch with
      tareJob := some { tag := tag, count := 0, sum := 0, deadline := s.now + 10000 } }

/-! ## EXT-ATTACH and EXT-REMOVE (R67, R76) -/

/-- Whether the sequencer and handler states allow an attach (R67). -/
def attachAllowed (s : State) : Bool :=
  match s.tsq.state with
  | .idle | .armed => true
  | .held => s.exh.handler ≠ .attached
  | _ => false

/-- The handler goes to SETTLING with the settle timer started and no zeros held (R67); the reported
strain leaves with ATTACHED (R71). -/
def beginAttach (x : ExtSet) (s : State) : State :=
  s.setExh { s.exh with
    handler := .settling
    settleAt := some (s.now + millis x.settleMs)
    averaging := none
    zeroA := none
    zeroB := none
    reported := if inTest s then s.exh.reported else none }

/-- Whether every arm in use has its channel UP. -/
def armsUp (x : ExtSet) (s : State) : Bool :=
  channelUp s .extA && (!x.twoArm || channelUp s .extB)

/-- EXT-ATTACH at its owner (R67, R70). -/
def ownExtAttach (tag : Byte) (_args : List Byte) (s : State) : State :=
  if !attachAllowed s then reply .extAttach tag .wrongState none none s
  else
    match s.exh.extset with
    | none => reply .extAttach tag .blankTable none none s
    | some x =>
      let t := beginAttach x s
      reply .extAttach tag .accepted none none
        (if armsUp x t then t else failAttach .channelLost .detached t)

/-- EXT-REMOVE at its owner (R76). -/
def ownExtRemove (tag : Byte) (_args : List Byte) (s : State) : State :=
  reply .extRemove tag .done none none (requestRemoval offerStrain .order s)

/-! ## JOG and JOG-STOP (R58 to R60) -/

/-- The jog maximum a JOG is judged against (R58, assumption 16). -/
def jogMaximumOf (s : State) : Int :=
  match s.xhu.xset with
  | some x => x.jogMaximum
  | none => Config.jogMaximumWhileBlank

/-- The step accumulator when a JOG arrives: kept by a jog that goes on in the same sign, a velocity of
0 counting as the same as any (R59). -/
def jogAccumulator (v : Int) (x : Xhu) : Int :=
  match jogVelocity x.mode with
  | none => 0
  | some old => if (old < 0 ∧ 0 < v) ∨ (0 < old ∧ v < 0) then 0 else x.a

/-- A jog starts or continues (R59); its start is an event of LOAD-LOST (R139). -/
def jogCrosshead (v : Int) (s : State) : State :=
  let t := s.setXhu { s.xhu with
    mode := .jog v (s.now + 250000), a := jogAccumulator v s.xhu, b := 0, target := none }
  if jogActive s then t else judgeLoadLost (channelUp t .load) t

/-- Whether the sequencer state allows a jog (R58). -/
def jogAllowed (s : State) : Bool :=
  !inTest s

/-- JOG at its owner (R58, R59). -/
def ownJog (tag : Byte) (args : List Byte) (s : State) : State :=
  if !latchEmpty s then reply .jog tag .conditionPresent none none s
  else if !jogAllowed s then reply .jog tag .wrongState none none s
  else if !s.xhu.lastEnable then reply .jog tag .wrongState none none s
  else if jogMaximumOf s < (quantityAt args 0).natAbs then
    reply .jog tag .badArgument none none s
  else reply .jog tag .done none none (jogCrosshead (quantityAt args 0) s)

/-- JOG-STOP at its owner (R60). -/
def ownJogStop (tag : Byte) (_args : List Byte) (s : State) : State :=
  reply .jogStop tag .done none none (endJog s)

/-! ## CLEAR-TRIP (R104, R146, R147) -/

/-- Whether a class whose threshold is in PROTSET has recovered, by a test on it; the latch keeps
PROTSET in use, so that it is VALID while a class is latched (R133). -/
def recoveredBy (test : ProtSet → Bool) (s : State) : Bool :=
  match s.pru.protset with
  | none => false
  | some p => test p

/-- The recovery condition of a class (R146). -/
def recovered (s : State) : TripClass → Bool
  | .tension1 | .tension2 =>
    channelUp s .load
      && recoveredBy (fun p => s.lch.last.net * 10000 ≤ p.tension1 * p.recovery) s
  | .compression =>
    channelUp s .load
      && recoveredBy (fun p => -(p.compression * p.recovery) ≤ s.lch.last.net * 10000) s
  | .following =>
    s.xhu.good
      && recoveredBy (fun p =>
        ((s.xhu.demand.getD s.xhu.pos - s.xhu.pos).natAbs : Int) * 10000
          ≤ p.followLimit * p.recovery) s
  | .travel =>
    s.xhu.good &&
      match s.xhu.xset with
      | none => false
      | some x => x.softLower ≤ s.xhu.pos && s.xhu.pos ≤ x.softUpper
  | .loadLost => channelUp s .load
  | .positionLost => channelUp s .xhead && s.xhu.good
  | .driveFault => laneUp s 4 && !s.xhu.drive.fault && s.xhu.drive.ready

/-- The trip latch empties and every condition state returns to CLEAR (R147 stage 1). -/
def emptyLatch (s : State) : State :=
  clearConditions (s.setPru { s.pru with latch := Vector.replicate 8 false })

/-- The sequencer takes an accepted clear; `dump` says that a DUMP-class class was cleared (R104). -/
def sequencerClear (dump : Bool) (s : State) : State :=
  if s.tsq.state = .tripped then
    if dump then endTest .aborted .trip s else changeStateArming .held .clearTrip s
  else s

/-- An accepted CLEAR-TRIP (R147). -/
def clearTrips (s : State) : State :=
  let dump := dumpFunction s
  let t := emptyLatch s
  raise .trip .cleared (sequencerClear dump (if dump then initialiseDemand t else t))

/-- CLEAR-TRIP at its owner (R146, R147). -/
def ownClearTrip (tag : Byte) (_args : List Byte) (s : State) : State :=
  if latchEmpty s then reply .clearTrip tag .done none none s
  else
    match (latchedClasses s).find? fun c => !recovered s c with
    | some c => reply .clearTrip tag .conditionPresent (some (.tripClass c)) none s
    | none => reply .clearTrip tag .done none none (clearTrips s)

/-! ## Trip history and LINE-SET (R149, R151) -/

/-- TRIP-HISTORY-READ at its owner (R149). -/
def ownTripHistoryRead (tag : Byte) (_args : List Byte) (s : State) : State :=
  reply .tripHistoryRead tag .done none (some (.history s.pru.history)) s

/-- TRIP-HISTORY-RESET at its owner (R149). -/
def ownTripHistoryReset (tag : Byte) (_args : List Byte) (s : State) : State :=
  match latchedClasses s with
  | c :: _ => reply .tripHistoryReset tag .conditionPresent (some (.tripClass c)) none s
  | [] =>
    reply .tripHistoryReset tag .done none none
      (s.setPru { s.pru with history := Vector.replicate 8 TripRecord.empty })

/-- A manual level is set (R151). -/
def setManual (i : Fin 4) (level : LineLevel) (s : State) : State :=
  s.setOln { s.oln with manual := s.oln.manual.set i level }

/-- LINE-SET at its owner (R151): the line number, then the level, whose list is ASSERTED, RELEASED; a
level byte beyond it is refused with the line number's check (assumption 19). -/
def ownLineSet (tag : Byte) (args : List Byte) (s : State) : State :=
  if h : unsignedAt args 0 4 < 4 ∧ (byteAt args 4).toNat ≤ 1 then
    let i : Fin 4 := ⟨unsignedAt args 0 4, h.1⟩
    if lineFunction s i = .manual then
      reply .lineSet tag .done none none
        (setManual i (if byteAt args 4 = 0 then .asserted else .released) s)
    else reply .lineSet tag .lineOwned none none s
  else reply .lineSet tag .badArgument none none s

/-! ## The owner of each order (section 8.3) -/

/-- The owner's part of an order, by its name. -/
def owner : OrderName → Byte → List Byte → State → State
  | .tableOpen => ownTableOpen
  | .tableData => ownTableData
  | .tableCommit => ownTableCommit
  | .tableDiscard => ownTableDiscard
  | .tableRead => ownTableRead
  | .storeSave => ownStoreSave
  | .storeRecall => ownStoreRecall
  | .arm => ownArm
  | .disarm => ownDisarm
  | .start => ownStart
  | .hold => ownHold
  | .resume => ownResume
  | .abort => ownAbort
  | .release => ownRelease
  | .resultRead => ownResultRead
  | .milestoneRead => ownMilestoneRead
  | .tare => ownTare
  | .extAttach => ownExtAttach
  | .extRemove => ownExtRemove
  | .jog => ownJog
  | .jogStop => ownJogStop
  | .clearTrip => ownClearTrip
  | .tripHistoryRead => ownTripHistoryRead
  | .tripHistoryReset => ownTripHistoryReset
  | .lineSet => ownLineSet
  | .streamSet => ownStreamSet
  | .statusRead => ownStatusRead
  | .restart => ownRestart

/-- An accepted order frame, whatever its kind (R156, R157). -/
def takeFrame (kind tag : Byte) (args : List Byte) (s : State) : State :=
  match orderOfCode kind with
  | some o => takeOrder o (owner o) tag args s
  | none => takeUnknown kind tag s

end Sys2Proof.Machine
end

