-- ==== Sys2Proof/Machine/Events.lean ====
section
/-!
DEFINITION. The meanings of the commands that are not orders: power-on, the frames on the lanes, the
expiries of the timers, the Table Store's completions and the end of a transmission. An event that the
state of the part says does not occur leaves it as it is (assumption 3).
-/

namespace Sys2Proof.Machine

/-- POWER_ON: every block takes its power-on state; the stored copies are kept (R16, R39, R61, R83,
R107, R131, R153, R154, R169, R177, R191). -/
def execPowerOn (s : State) : Host.Outcome State Fault Refusal :=
  .next (State.powerOn s.pending s.choices s.tst.stored)

/-- SAMPLE: a frame arrives on a lane, and the LIF acts on what its bytes say (R1 to R4, R12, R195). -/
def execSample (dt : Nat) (lane : Lane) (rx : Reception) (s : State) :
    Host.Outcome State Fault Refusal :=
  .next (receive lane (readLaneFrame lane rx) (elapse dt s))

/-- DRIVE_STATUS: a frame arrives on a lane, and the LIF acts on what its bytes say (R1 to R4, R44,
R195). -/
def execDriveStatus (dt : Nat) (lane : Lane) (rx : Reception) (s : State) :
    Host.Outcome State Fault Refusal :=
  .next (receive lane (readLaneFrame lane rx) (elapse dt s))

/-- SILENCE_TIMER_EXPIRY: an UP lane goes STALE (R4). -/
def execSilenceTimerExpiry (lane : Lane) (s : State) : Host.Outcome State Fault Refusal :=
  match s.lif.lanes[lane].silence with
  | none => .next (begin0 s)
  | some deadline => .next (goStale lane (reach deadline s))

/-- Stages 1 to 4 of a demand expiry (R45). -/
def demandExpiry (deadline : Nat) (s : State) : State :=
  let t := reach deadline s
  sendDemand (clampDemand (stepMode (t.setXhu { t.xhu with demandAt := some (deadline + 250) })))

/-- An active jog ends at a frame that carried drive enable 0 (R60). -/
def endDisabledJog (s : State) : State :=
  if s.xhu.lastEnable then s else endJog s

/-- DEMAND_TIMER_EXPIRY: step, clamp, enable, send and offer (R45, R50). -/
def execDemandTimerExpiry (s : State) : Host.Outcome State Fault Refusal :=
  match s.xhu.demandAt with
  | none => .next (begin0 s)
  | some deadline =>
    let t := demandExpiry deadline s
    .next (endDisabledJog (protectDemand (demandSent t) t.xhu.lastEnable t))

/-- REPEAT_TIMER_EXPIRY: the RANGE-REQUEST is sent again and the timer restarts (R33). -/
def execRepeatTimerExpiry (s : State) : Host.Outcome State Fault Refusal :=
  match s.lch.repeatAt with
  | none => .next (begin0 s)
  | some deadline => .next (repeatRequest (reach deadline s))

/-- DWELL_TIMER_EXPIRY: the request for the next finer range is made and the timer stops (R36). -/
def execDwellTimerExpiry (s : State) : Host.Outcome State Fault Refusal :=
  match s.lch.dwell with
  | none => .next (begin0 s)
  | some d =>
    let t := reach d.deadline s
    let u := t.setLch { t.lch with dwell := none }
    if h : d.range.val + 1 < 4 then
      .next (if u.lch.requested.isSome then makeRequest ⟨d.range.val + 1, h⟩ u else u)
    else .next u

/-- TARE_SAMPLE_TIMER_EXPIRY: the tare fails with NO-SAMPLE (R30). -/
def execTareSampleTimerExpiry (s : State) : Host.Outcome State Fault Refusal :=
  match s.lch.tareJob with
  | none => .next (begin0 s)
  | some job => .next (failTare .noSample (reach job.deadline s))

/-- Zero averaging opens with counts and sums of 0 (R68). -/
def openAveraging (s : State) : State :=
  s.setExh { s.exh with
    settleAt := none
    averaging := some
      { armA := { count := 0, sum := 0 }, armB := { count := 0, sum := 0 }, openedAt := s.now } }

/-- SETTLE_TIMER_EXPIRY: zero averaging opens (R68). -/
def execSettleTimerExpiry (s : State) : Host.Outcome State Fault Refusal :=
  match s.exh.settleAt with
  | none => .next (begin0 s)
  | some deadline => .next (openAveraging (reach deadline s))

/-- ZERO_AVERAGING_TIMEOUT: the averaging is still open 100 ms after it opened, and the attach fails
(R70). -/
def execZeroAveragingTimeout (s : State) : Host.Outcome State Fault Refusal :=
  match s.exh.averaging with
  | none => .next (begin0 s)
  | some v => .next (failAttach .noSample .detached (reach (v.openedAt + 100000) s))

/-- JOG_DEADLINE_EXPIRY: the jog ends (R59, R60). -/
def execJogDeadlineExpiry (s : State) : Host.Outcome State Fault Refusal :=
  match s.xhu.mode with
  | .jog _ deadline => .next (enterHold (reach deadline s))
  | _ => .next (begin0 s)

/-- PHASE_TIMER_EXPIRY: in RUNNING, the PHASE-TIME condition of the current phase is met (R93, R94). -/
def execPhaseTimerExpiry (s : State) : Host.Outcome State Fault Refusal :=
  match s.tsq.state, s.tsq.phaseTimer with
  | .running, some limit =>
    .next (judgeEnd metByTimer (reach (s.tsq.phaseSince + (limit - s.tsq.phaseBase)) s))
  | _, _ => .next (begin0 s)

/-- TIME_LIMIT_EXPIRY: the test ends in ENDED with cause TIME-LIMIT (R97). -/
def execTimeLimitExpiry (s : State) : Host.Outcome State Fault Refusal :=
  match s.tsq.limitAt with
  | none => .next (begin0 s)
  | some deadline =>
    .next (if inTest s then endTest .ended .timeLimit (reach deadline s) else begin0 s)

/-- LOAD_LOSS_TIMER_EXPIRY: LOAD-LOST trips (R139). -/
def execLoadLossTimerExpiry (s : State) : Host.Outcome State Fault Refusal :=
  match s.pru.loadLossAt with
  | none => .next (begin0 s)
  | some deadline =>
    let t := reach deadline s
    .next (spend .loadLost (t.setPru { t.pru with loadLossAt := none }))

/-- STREAM_FALLBACK_EXPIRY: a measurement frame falls due and the timer restarts (R162). -/
def execStreamFallbackExpiry (s : State) : Host.Outcome State Fault Refusal :=
  match s.cpt.fallbackAt with
  | none => .next (begin0 s)
  | some deadline => .next (makeDue (startFallback (reach deadline s)))

/-- SESSION_TIMER_EXPIRY: the session returns to CLOSED with a TIMEOUT occurrence (R185). -/
def execSessionTimerExpiry (s : State) : Host.Outcome State Fault Refusal :=
  match s.cpt.session with
  | none => .next (begin0 s)
  | some x => .next (raise .table (.table x.table true) (closeSession (reach x.deadline s)))

/-- STORE_SAVE_WRITE_COMPLETE: the write of the next table of a save completes (R189). -/
def execStoreSaveWriteComplete (dt : Nat) (good : Bool) (s : State) :
    Host.Outcome State Fault Refusal :=
  match s.tst.op with
  | .saving target snapshot (t :: todo) failed =>
    .next (completeWrite good target snapshot t todo failed (elapse dt s))
  | _ => .next (elapse dt s)

/-- STORE_RECALL_READ_COMPLETE: a recall reaches its next table (R190). -/
def execStoreRecallReadComplete (dt : Nat) (intact : Bool) (s : State) :
    Host.Outcome State Fault Refusal :=
  match s.tst.op with
  | .recalling target (t :: todo) blank kept =>
    .next (completeRead intact target t todo blank kept (elapse dt s))
  | _ => .next (elapse dt s)

/-- START_UP_TABLE_READ: the start-up recall reaches its next table (R191). -/
def execStartUpTableRead (dt : Nat) (intact : Bool) (s : State) :
    Host.Outcome State Fault Refusal :=
  match s.tst.op with
  | .starting (t :: todo) blank => .next (completeStartUp intact t todo blank (elapse dt s))
  | _ => .next (elapse dt s)

/-- The frame in transmission completes: a reply's order leaves the outstanding set (R157, R160). -/
def completeTransmission (f : OutFrame) (s : State) : State :=
  let t := s.setCpt { s.cpt with link := none }
  match f with
  | .reply r =>
    t.setCpt { t.cpt with outstanding := dropAnswered r.tag r.kind t.cpt.outstanding }
  | .measurement _ | .notice _ => t

/-- TRANSMISSION_COMPLETE: the frame in transmission completes and the arbiter makes its next choice
(R159, R160). -/
def execTransmissionComplete (dt : Nat) (s : State) : Host.Outcome State Fault Refusal :=
  match s.cpt.link with
  | none => .next (elapse dt s)
  | some f => .next (arbitrate (completeTransmission f (elapse dt s)))

/-- CPORT_BAD_FRAME: the checks of R197; a frame that fails is counted, one that passes is an order
(R155). -/
def execCportBadFrame (dt : Nat) (rx : Reception) (s : State) : Host.Outcome State Fault Refusal :=
  let t := elapse dt s
  match readCportFrame rx with
  | none => .next (t.setCpt { t.cpt with checkFailures := countUp t.cpt.checkFailures })
  | some f => .next (takeFrame f.kind f.tag f.args t)

end Sys2Proof.Machine
end

