-- ==== Sys2Proof/Machine/OrderCommands.lean ====
section
/-!
DEFINITION. The meanings of the order commands: an accepted order frame of each kind arrives at the
Controller Port, is taken or discarded for overrun (R157), and is dispatched to its owner (R156).
-/

namespace Sys2Proof.Machine

/-- UNKNOWN_ORDER: an accepted order frame; one whose kind is in the catalogue is dispatched as that
order (R156, R157). -/
def execUnknownOrder (dt : Nat) (kind tag : Byte) (args : List Byte) (s : State) :
    Host.Outcome State Fault Refusal :=
  .next (takeFrame kind tag args (elapse dt s))

/-- TABLE-OPEN (R180). -/
def execTableOpen (dt : Nat) (tag : Byte) (args : List Byte) (s : State) :
    Host.Outcome State Fault Refusal :=
  .next (takeOrder .tableOpen ownTableOpen tag args (elapse dt s))

/-- TABLE-DATA (R181). -/
def execTableData (dt : Nat) (tag : Byte) (args : List Byte) (s : State) :
    Host.Outcome State Fault Refusal :=
  .next (takeOrder .tableData ownTableData tag args (elapse dt s))

/-- TABLE-COMMIT (R182, R183). -/
def execTableCommit (dt : Nat) (tag : Byte) (args : List Byte) (s : State) :
    Host.Outcome State Fault Refusal :=
  .next (takeOrder .tableCommit ownTableCommit tag args (elapse dt s))

/-- TABLE-DISCARD (R184). -/
def execTableDiscard (dt : Nat) (tag : Byte) (args : List Byte) (s : State) :
    Host.Outcome State Fault Refusal :=
  .next (takeOrder .tableDiscard ownTableDiscard tag args (elapse dt s))

/-- TABLE-READ (R188). -/
def execTableRead (dt : Nat) (tag : Byte) (args : List Byte) (s : State) :
    Host.Outcome State Fault Refusal :=
  .next (takeOrder .tableRead ownTableRead tag args (elapse dt s))

/-- STORE-SAVE (R189). -/
def execStoreSave (dt : Nat) (tag : Byte) (args : List Byte) (s : State) :
    Host.Outcome State Fault Refusal :=
  .next (takeOrder .storeSave ownStoreSave tag args (elapse dt s))

/-- STORE-RECALL (R190). -/
def execStoreRecall (dt : Nat) (tag : Byte) (args : List Byte) (s : State) :
    Host.Outcome State Fault Refusal :=
  .next (takeOrder .storeRecall ownStoreRecall tag args (elapse dt s))

/-- ARM (R87, R88). -/
def execArm (dt : Nat) (tag : Byte) (args : List Byte) (s : State) :
    Host.Outcome State Fault Refusal :=
  .next (takeOrder .arm ownArm tag args (elapse dt s))

/-- DISARM (R89). -/
def execDisarm (dt : Nat) (tag : Byte) (args : List Byte) (s : State) :
    Host.Outcome State Fault Refusal :=
  .next (takeOrder .disarm ownDisarm tag args (elapse dt s))

/-- START (R90). -/
def execStart (dt : Nat) (tag : Byte) (args : List Byte) (s : State) :
    Host.Outcome State Fault Refusal :=
  .next (takeOrder .start ownStart tag args (elapse dt s))

/-- HOLD (R95). -/
def execHold (dt : Nat) (tag : Byte) (args : List Byte) (s : State) :
    Host.Outcome State Fault Refusal :=
  .next (takeOrder .hold ownHold tag args (elapse dt s))

/-- RESUME (R96). -/
def execResume (dt : Nat) (tag : Byte) (args : List Byte) (s : State) :
    Host.Outcome State Fault Refusal :=
  .next (takeOrder .resume ownResume tag args (elapse dt s))

/-- ABORT (R100). -/
def execAbort (dt : Nat) (tag : Byte) (args : List Byte) (s : State) :
    Host.Outcome State Fault Refusal :=
  .next (takeOrder .abort ownAbort tag args (elapse dt s))

/-- RELEASE (R101). -/
def execRelease (dt : Nat) (tag : Byte) (args : List Byte) (s : State) :
    Host.Outcome State Fault Refusal :=
  .next (takeOrder .release ownRelease tag args (elapse dt s))

/-- RESULT-READ (R129). -/
def execResultRead (dt : Nat) (tag : Byte) (args : List Byte) (s : State) :
    Host.Outcome State Fault Refusal :=
  .next (takeOrder .resultRead ownResultRead tag args (elapse dt s))

/-- MILESTONE-READ (R130). -/
def execMilestoneRead (dt : Nat) (tag : Byte) (args : List Byte) (s : State) :
    Host.Outcome State Fault Refusal :=
  .next (takeOrder .milestoneRead ownMilestoneRead tag args (elapse dt s))

/-- TARE (R28). -/
def execTare (dt : Nat) (tag : Byte) (args : List Byte) (s : State) :
    Host.Outcome State Fault Refusal :=
  .next (takeOrder .tare ownTare tag args (elapse dt s))

/-- EXT-ATTACH (R67). -/
def execExtAttach (dt : Nat) (tag : Byte) (args : List Byte) (s : State) :
    Host.Outcome State Fault Refusal :=
  .next (takeOrder .extAttach ownExtAttach tag args (elapse dt s))

/-- EXT-REMOVE (R76). -/
def execExtRemove (dt : Nat) (tag : Byte) (args : List Byte) (s : State) :
    Host.Outcome State Fault Refusal :=
  .next (takeOrder .extRemove ownExtRemove tag args (elapse dt s))

/-- JOG (R58, R59). -/
def execJog (dt : Nat) (tag : Byte) (args : List Byte) (s : State) :
    Host.Outcome State Fault Refusal :=
  .next (takeOrder .jog ownJog tag args (elapse dt s))

/-- JOG-STOP (R60). -/
def execJogStop (dt : Nat) (tag : Byte) (args : List Byte) (s : State) :
    Host.Outcome State Fault Refusal :=
  .next (takeOrder .jogStop ownJogStop tag args (elapse dt s))

/-- CLEAR-TRIP (R146, R147). -/
def execClearTrip (dt : Nat) (tag : Byte) (args : List Byte) (s : State) :
    Host.Outcome State Fault Refusal :=
  .next (takeOrder .clearTrip ownClearTrip tag args (elapse dt s))

/-- TRIP-HISTORY-READ (R149). -/
def execTripHistoryRead (dt : Nat) (tag : Byte) (args : List Byte) (s : State) :
    Host.Outcome State Fault Refusal :=
  .next (takeOrder .tripHistoryRead ownTripHistoryRead tag args (elapse dt s))

/-- TRIP-HISTORY-RESET (R149). -/
def execTripHistoryReset (dt : Nat) (tag : Byte) (args : List Byte) (s : State) :
    Host.Outcome State Fault Refusal :=
  .next (takeOrder .tripHistoryReset ownTripHistoryReset tag args (elapse dt s))

/-- LINE-SET (R151). -/
def execLineSet (dt : Nat) (tag : Byte) (args : List Byte) (s : State) :
    Host.Outcome State Fault Refusal :=
  .next (takeOrder .lineSet ownLineSet tag args (elapse dt s))

/-- STREAM-SET (R166). -/
def execStreamSet (dt : Nat) (tag : Byte) (args : List Byte) (s : State) :
    Host.Outcome State Fault Refusal :=
  .next (takeOrder .streamSet ownStreamSet tag args (elapse dt s))

/-- STATUS-READ (R167). -/
def execStatusRead (dt : Nat) (tag : Byte) (args : List Byte) (s : State) :
    Host.Outcome State Fault Refusal :=
  .next (takeOrder .statusRead ownStatusRead tag args (elapse dt s))

/-- RESTART (R168). -/
def execRestart (dt : Nat) (tag : Byte) (args : List Byte) (s : State) :
    Host.Outcome State Fault Refusal :=
  .next (takeOrder .restart ownRestart tag args (elapse dt s))

end Sys2Proof.Machine
end

