-- ==== Sys2Proof/Machine/Dispatch.lean ====
section
/-!
DEFINITION. One arm per command: each calls its meaning.
-/

namespace Sys2Proof.Machine

def exec (i : Instr) (s : State) : Host.Outcome State Fault Refusal :=
  match i with
  | .powerOn => Sys2Proof.Machine.execPowerOn s
  | .sample dt lane rx => Sys2Proof.Machine.execSample dt lane rx s
  | .driveStatus dt lane rx => Sys2Proof.Machine.execDriveStatus dt lane rx s
  | .silenceTimerExpiry lane => Sys2Proof.Machine.execSilenceTimerExpiry lane s
  | .demandTimerExpiry => Sys2Proof.Machine.execDemandTimerExpiry s
  | .repeatTimerExpiry => Sys2Proof.Machine.execRepeatTimerExpiry s
  | .dwellTimerExpiry => Sys2Proof.Machine.execDwellTimerExpiry s
  | .tareSampleTimerExpiry => Sys2Proof.Machine.execTareSampleTimerExpiry s
  | .settleTimerExpiry => Sys2Proof.Machine.execSettleTimerExpiry s
  | .zeroAveragingTimeout => Sys2Proof.Machine.execZeroAveragingTimeout s
  | .jogDeadlineExpiry => Sys2Proof.Machine.execJogDeadlineExpiry s
  | .phaseTimerExpiry => Sys2Proof.Machine.execPhaseTimerExpiry s
  | .timeLimitExpiry => Sys2Proof.Machine.execTimeLimitExpiry s
  | .loadLossTimerExpiry => Sys2Proof.Machine.execLoadLossTimerExpiry s
  | .streamFallbackExpiry => Sys2Proof.Machine.execStreamFallbackExpiry s
  | .sessionTimerExpiry => Sys2Proof.Machine.execSessionTimerExpiry s
  | .storeSaveWriteComplete dt good => Sys2Proof.Machine.execStoreSaveWriteComplete dt good s
  | .storeRecallReadComplete dt intact => Sys2Proof.Machine.execStoreRecallReadComplete dt intact s
  | .startUpTableRead dt intact => Sys2Proof.Machine.execStartUpTableRead dt intact s
  | .transmissionComplete dt => Sys2Proof.Machine.execTransmissionComplete dt s
  | .cportBadFrame dt rx => Sys2Proof.Machine.execCportBadFrame dt rx s
  | .unknownOrder dt kind tag args => Sys2Proof.Machine.execUnknownOrder dt kind tag args s
  | .tableOpen dt tag args => Sys2Proof.Machine.execTableOpen dt tag args s
  | .tableData dt tag args => Sys2Proof.Machine.execTableData dt tag args s
  | .tableCommit dt tag args => Sys2Proof.Machine.execTableCommit dt tag args s
  | .tableDiscard dt tag args => Sys2Proof.Machine.execTableDiscard dt tag args s
  | .tableRead dt tag args => Sys2Proof.Machine.execTableRead dt tag args s
  | .storeSave dt tag args => Sys2Proof.Machine.execStoreSave dt tag args s
  | .storeRecall dt tag args => Sys2Proof.Machine.execStoreRecall dt tag args s
  | .arm dt tag args => Sys2Proof.Machine.execArm dt tag args s
  | .disarm dt tag args => Sys2Proof.Machine.execDisarm dt tag args s
  | .start dt tag args => Sys2Proof.Machine.execStart dt tag args s
  | .hold dt tag args => Sys2Proof.Machine.execHold dt tag args s
  | .resume dt tag args => Sys2Proof.Machine.execResume dt tag args s
  | .abort dt tag args => Sys2Proof.Machine.execAbort dt tag args s
  | .release dt tag args => Sys2Proof.Machine.execRelease dt tag args s
  | .resultRead dt tag args => Sys2Proof.Machine.execResultRead dt tag args s
  | .milestoneRead dt tag args => Sys2Proof.Machine.execMilestoneRead dt tag args s
  | .tare dt tag args => Sys2Proof.Machine.execTare dt tag args s
  | .extAttach dt tag args => Sys2Proof.Machine.execExtAttach dt tag args s
  | .extRemove dt tag args => Sys2Proof.Machine.execExtRemove dt tag args s
  | .jog dt tag args => Sys2Proof.Machine.execJog dt tag args s
  | .jogStop dt tag args => Sys2Proof.Machine.execJogStop dt tag args s
  | .clearTrip dt tag args => Sys2Proof.Machine.execClearTrip dt tag args s
  | .tripHistoryRead dt tag args => Sys2Proof.Machine.execTripHistoryRead dt tag args s
  | .tripHistoryReset dt tag args => Sys2Proof.Machine.execTripHistoryReset dt tag args s
  | .lineSet dt tag args => Sys2Proof.Machine.execLineSet dt tag args s
  | .streamSet dt tag args => Sys2Proof.Machine.execStreamSet dt tag args s
  | .statusRead dt tag args => Sys2Proof.Machine.execStatusRead dt tag args s
  | .restart dt tag args => Sys2Proof.Machine.execRestart dt tag args s

end Sys2Proof.Machine
end

