-- ==== Sys2Proof/Machine/Step.lean ====
section
/-!
DEFINITION. One step: the command at the front of the queue is taken and run on the state with the
queue's rest. On an empty queue the part idles (assumption 5).
-/

namespace Sys2Proof.Machine

/-- `s` with another queue of waiting commands. -/
def State.withPending (s : State) (q : List Instr) : State :=
  { s with pending := q }

/-- Takes the command at the front of the queue; an empty queue idles. -/
def step (s : State) : Host.Outcome State Fault Refusal :=
  match s.pending with
  | [] => .next s
  | c :: rest => exec c (s.withPending rest)

/-- `s` with the command a word spells put at the front of its queue; the table gives no bits, so no
word spells one and `s` is unchanged. -/
def State.withFetchWord (s : State) (nbits w : Nat) : State :=
  match decodeTableWord nbits w with
  | none => s
  | some c => s.withPending (c :: s.pending)

end Sys2Proof.Machine
end

