-- ==== Sys2Proof/Machine/Encoding.lean ====
section
/-!
DEFINITION. The bytes of the frames the part sends (chapter 11): RANGE-REQUEST and DEMAND frames on the
lanes, and measurement, reply and notice frames on the C-port, coded by R199.
-/

namespace Sys2Proof.Machine

/-! ## The codings of R199 -/

/-- A yes or no as a byte, 1 for yes (assumption 46). -/
def flagByte (b : Bool) : Byte :=
  if b then 1 else 0

/-- A line function's state as a byte: asserted, not asserted, in the list of chapter 7 (R199). -/
def functionByte (asserted : Bool) : Byte :=
  if asserted then 0 else 1

/-- A coding left open, cut to the room its frame has for it (R197, assumption 27). -/
def cutTo (room : Nat) (bytes : List Byte) : List Byte :=
  bytes.take room

/-- An unsigned count, index or time in four bytes: the width of a count that no layout gives one, which
R199 leaves open (assumption 59). -/
def natBytes (n : Nat) : List Byte :=
  bytesOf 4 n

/-- A field of `width` bytes that may be absent: a presence byte, and zeros where it is. -/
def optionalBytes {α : Type} (width : Nat) (f : α → List Byte) : Option α → List Byte
  | some v => 1 :: f v
  | none => 0 :: List.replicate width 0

/-- An optional quantity. -/
def optionalQuantity (v : Option Int) : List Byte :=
  optionalBytes 4 quantityBytes v

/-- An optional one-byte code. -/
def optionalCode (v : Option Nat) : List Byte :=
  optionalBytes 1 (fun n => [codeByte n]) v

/-! ## Places of enumerated values in their lists (R199) -/

/-- Lane states (section 1.3). -/
def laneStatusCode : LaneStatus → Nat
  | .down => 0
  | .up => 1
  | .stale => 2

/-- Force qualities (section 11.3.3). -/
def qualityCode : ForceQuality → Nat
  | .good => 0
  | .beyondCal => 1
  | .overrange => 2
  | .noCal => 3
  | .stale => 4

/-- Sequencer states (section 11.3.3). -/
def stateCode : SeqState → Nat
  | .idle => 0
  | .armed => 1
  | .running => 2
  | .held => 3
  | .tripped => 4
  | .ended => 5
  | .aborted => 6

/-- Handler states (section 11.3.3). -/
def handlerCode : HandlerState → Nat
  | .detached => 0
  | .settling => 1
  | .attached => 2
  | .opened => 3
  | .lost => 4

/-- Strain sources (section 11.3.3). -/
def sourceCode : StrainSource → Nat
  | .ext => 0
  | .crosshead => 1

/-- End causes (chapter 5). -/
def endCauseCode : EndCause → Nat
  | .breakFound => 0
  | .programEnd => 1
  | .timeLimit => 2
  | .abortOrder => 3
  | .trip => 4
  | .restart => 5

/-- Modes of the Crosshead Unit (chapter 3). -/
def modeCode : ModeName → Nat
  | .hold => 0
  | .positionRate => 1
  | .strainRate => 2
  | .stressRate => 3
  | .jog => 4

/-- Modulus statuses, in the order of their rules R117 and R118 (assumption 55). -/
def modulusCode : ModulusStatus → Nat
  | .notReached => 0
  | .valid => 1
  | .invalid => 2

/-- Causes of a TEST occurrence, row by row of R105; a class by its number (assumption 28). -/
def testCauseCode : TestCause → Nat
  | .arm => 0
  | .disarm => 1
  | .trip => 2
  | .release => 3
  | .start => 4
  | .resume => 5
  | .hold => 6
  | .clearTrip => 7
  | .breakFound => 8
  | .programEnd => 9
  | .timeLimit => 10
  | .abortOrder => 11
  | .tripClass c => (tripNumber c).val

/-- Milestone kinds, in the order of the table of R124 (assumption 51). -/
def milestoneCode : MilestoneKind → Nat
  | .upperYield => 0
  | .lowerYield => 1
  | .yieldEnd => 2
  | .chordLow => 3
  | .chordHigh => 4
  | .proof => 5
  | .extRemoved => 6
  | .extLost => 7
  | .fmax => 8
  | .breakFound => 9
  | .phaseEnd => 10
  | .trip => 11
  | .hold => 12
  | .resume => 13

/-- Causes of a failed attach (R70). -/
def attachFailureCode : AttachFailure → Nat
  | .channelLost => 0
  | .settingsChanged => 1
  | .noSample => 2
  | .removed => 3

/-- Causes of a removal (R82). -/
def removalCode : RemovalCause → Nat
  | .strainLevel => 0
  | .forceDrop => 1
  | .rangeEnd => 2
  | .phaseAction => 3
  | .breakFound => 4
  | .order => 5

/-- Condition states (section 7.3), without what TIMING holds (assumption 60). -/
def conditionCode : Condition → Nat
  | .clear => 0
  | .timing _ => 1
  | .spent => 2

/-- Store states (chapter 10). -/
def storeStateCode : StoreState → Nat
  | .idle => 0
  | .saving => 1
  | .recalling => 2
  | .starting => 3

/-- Store operations, in the order of their rules R189 to R191 (assumption 55). -/
def operationCode : StoreOperation → Nat
  | .save => 0
  | .recall => 1
  | .startUp => 2

/-- What a store order names: an identity, or 15 for ALL (assumption 17). -/
def targetCode : StoreTarget → Nat
  | .one t => (tableNumber t).val
  | .all => 15

/-- Line levels (R150). -/
def lineLevelCode : LineLevel → Nat
  | .asserted => 0
  | .released => 1

/-- Reply codes (section 8.4). -/
def replyCodeNumber : ReplyCode → Nat
  | .done => 0
  | .accepted => 1
  | .wrongState => 2
  | .badArgument => 3
  | .busy => 4
  | .busyStore => 5
  | .inUse => 6
  | .blankTable => 7
  | .conditionPresent => 8
  | .lineOwned => 9
  | .sequence => 10
  | .notOpen => 11
  | .failed => 12
  | .unknownOrder => 13

/-- Checks of ARM (R87). -/
def armCheckCode : ArmCheck → Nat
  | .state => 0
  | .tripLatched => 1
  | .field => 2
  | .route => 3
  | .program => 4
  | .xset => 5
  | .protset => 6
  | .loadChannel => 7
  | .xheadChannel => 8
  | .cal => 9

/-- Checks of START (R90). -/
def startCheckCode : StartCheck → Nat
  | .state => 0
  | .loadChannel => 1
  | .xheadChannel => 2
  | .drive => 3

/-- Causes of a failed tare (R30). -/
def tareFailureCode : TareFailure → Nat
  | .overrange => 0
  | .noCal => 1
  | .channelLost => 2
  | .noSample => 3

/-! ## Lane frames (R194) -/

/-- The bytes of a frame the part sends on a lane (R194, R195). -/
def laneOutBytes : LaneOut → List Byte
  | .rangeRequest g sub => laneFrameBytes [3, codeByte (16 * g.val + sub.val), 0, 0, 0, 0]
  | .demand enable moving d =>
    laneFrameBytes
      ([4, codeByte ((if enable then 1 else 0) + (if moving then 2 else 0))] ++ quantityBytes d)

/-! ## Details -/

/-- The index of a milestone: a trip class in one byte for TRIP, a phase index in four otherwise
(R123, R199). -/
def milestoneIndexBytes (kind : MilestoneKind) (index : Option Nat) : List Byte :=
  match kind with
  | .trip => optionalCode index
  | _ => optionalBytes 4 natBytes index

/-- The detail of a STORE notice, in the order of the rule that raises it (R199): a save's operation,
target, outcome and failed tables (R189); a recall's, or the start-up's, operation, target, BLANK tables,
KEPT tables and outcome (R190, R191). A set with no table is sent too (assumption 49), and the sets are cut
to the room the detail has (assumption 27). -/
def storeDetailBytes (op : StoreOperation) (target : StoreTarget) (failed : Bool)
    (tables kept : List TableId) : List Byte :=
  let head := [codeByte (operationCode op), codeByte (targetCode target)]
  let set (ts : List TableId) := Config.tableSetBytes (ts.map tableNumber)
  match op with
  | .save => head ++ [flagByte failed] ++ cutTo 29 (set tables)
  | .recall | .startUp => head ++ cutTo 29 (set tables ++ set kept) ++ [flagByte failed]

/-- The detail of a notice (section 9.2, R199), at most 32 bytes (section 11.3.2). A lane number and a
range code have one byte (assumption 54); a TABLE event is 0 for COMMITTED and 1 for TIMEOUT
(assumption 55). -/
def noticeDetailBytes : NoticeDetail → List Byte
  | .tripped c => [codeByte (tripNumber c).val]
  | .cleared => [8]
  | .lane lane up => [codeByte lane.val, codeByte (laneStatusCode (if up then .up else .stale))]
  | .test new previous cause =>
    [codeByte (stateCode new), codeByte (stateCode previous), codeByte (testCauseCode cause)]
  | .milestone kind index position =>
    codeByte (milestoneCode kind)
      :: (milestoneIndexBytes kind index ++ optionalBytes 4 natBytes position)
  | .ext (.attached oe) => 0 :: quantityBytes oe
  | .ext (.attachFailed cause) => [1, codeByte (attachFailureCode cause)]
  | .ext (.removed cause) => [2, codeByte (removalCode cause)]
  | .ext (.lost armB) => [3, flagByte armB]
  | .ext (.slip fall) => 4 :: quantityBytes fall
  | .ext .detached => [5]
  | .limit upper mode => [flagByte upper, codeByte (modeCode mode)]
  | .range previous new => [codeByte previous.val, codeByte new.val]
  | .table t timeout => [codeByte (tableNumber t).val, flagByte timeout]
  | .store op target failed tables kept => storeDetailBytes op target failed tables kept
  | .overrun tag kind => [tag, kind]

/-- The detail of a reply (R158, R199). A failing condition is its place, from 0, in its rule or table
(assumption 18). The edition, and the count before it, that a refused TABLE-READ answers with are a detail,
in two bytes and one (assumption 57). -/
def detailBytes : Detail → List Byte
  | .format => [Config.checkNameByte 0]
  | .entries => [Config.checkNameByte 1]
  | .condition n => [codeByte n]
  | .arm c => [codeByte (armCheckCode c)]
  | .start c => [codeByte (startCheckCode c)]
  | .tare c => [codeByte (tareFailureCode c)]
  | .table t => [codeByte (tableNumber t).val]
  | .tripClass c => [codeByte (tripNumber c).val]
  | .count n => natBytes n
  | .edition e => bytesOf 2 e.toNat
  | .entriesEdition n e => codeByte n :: bytesOf 2 e.toNat

/-! ## Payloads -/

/-- A strain with its source, where present, each with a presence byte (assumption 52). -/
def strainBytes (st : Option Strain) : List Byte :=
  optionalQuantity (st.map Strain.value) ++ optionalCode (st.map fun x => sourceCode x.source)

/-- A force with its stress. -/
def forceStressBytes (x : ForceStress) : List Byte :=
  quantityBytes x.force ++ quantityBytes x.stress

/-- Fm in the result: force, stress, strain with source (section 6.8, assumption 52). -/
def maximumBytes (x : EvalSample) : List Byte :=
  quantityBytes x.force ++ quantityBytes x.stress ++ strainBytes x.strain

/-- A milestone record (R123). -/
def milestoneBytes (m : Milestone) : List Byte :=
  codeByte (milestoneCode m.kind)
    :: (milestoneIndexBytes m.kind m.index ++ natBytes m.sample.time ++ quantityBytes m.sample.force
      ++ quantityBytes m.sample.stress ++ strainBytes m.sample.strain ++ quantityBytes m.sample.pos
      ++ optionalQuantity m.value)

/-- The result summary (section 6.8). The end state is the place of a sequencer state (assumption 50). The
force and stress of ReH, and of ReL, share a presence byte; break force and break strain have one each
(assumption 52). -/
def resultBytes (r : ResultSummary) : List Byte :=
  optionalCode (r.fields.endState.map stateCode)
    ++ optionalCode (r.fields.endCause.map endCauseCode)
    ++ optionalCode (r.fields.firstTrip.map fun c => (tripNumber c).val)
    ++ natBytes r.duration ++ optionalBytes 15 maximumBytes r.fm
    ++ optionalBytes 8 forceStressBytes r.fields.reh
    ++ optionalBytes 8 forceStressBytes r.fields.rel
    ++ optionalQuantity r.fields.ae
    ++ optionalQuantity r.fields.modulus ++ [codeByte (modulusCode r.fields.modulusStatus)]
    ++ optionalQuantity r.fields.rp
    ++ optionalQuantity r.fields.breakForce ++ optionalQuantity r.fields.breakStrain
    ++ optionalQuantity r.fields.removalStrain
    ++ natBytes r.slipCount ++ natBytes r.milestones ++ [flagByte r.overflow]

/-- The last trip counted in a history record (R148). -/
def lastTripBytes (x : LastTrip) : List Byte :=
  natBytes x.time.toNat ++ quantityBytes x.force ++ quantityBytes x.pos
    ++ [codeByte (stateCode x.state)]

/-- A history record (R148), its count in four bytes (assumption 59). The four items of the last trip share
a presence byte (assumption 52). -/
def tripRecordBytes (r : TripRecord) : List Byte :=
  natBytes r.count ++ optionalBytes 4 (fun t => natBytes t.toNat) r.first
    ++ optionalBytes 13 lastTripBytes r.last

/-- The drive status flags. -/
def driveStatusBytes (d : DriveStatus) : List Byte :=
  [flagByte d.ready, flagByte d.fault, flagByte d.saturated]

/-- An optional range code, in one byte (assumption 54). -/
def rangeBytes (g : Option (Fin 4)) : List Byte :=
  optionalCode (g.map Fin.val)

/-- An entry of NOTICES (R176): level, presence, and the count, the detail length and the detail of the
pending record, or zeros where there is none (assumption 47). -/
def noticeEntryBytes (n : Level × Option (Nat × NoticeDetail)) : List Byte :=
  match n.2 with
  | some (count, detail) =>
    [codeByte (levelCode n.1), 1, codeByte count, codeByte (noticeDetailBytes detail).length]
      ++ noticeDetailBytes detail
  | none => [codeByte (levelCode n.1), 0, 0, 0]

/-- The contents of a STATUS-READ section (R167). A yes-or-no item is 1 for yes (assumption 46), and a
function state 0 for asserted. The program slot and the phase index of TEST have four bytes each
(assumption 58), and every count but those another layout gives a width (assumption 59). A condition state
is its code alone, without a delay's start or a count (assumption 60). -/
def statusBytes : Status → List Byte
  | .link f o c n on d seq =>
    natBytes f ++ natBytes o ++ natBytes c ++ natBytes n ++ [flagByte !on] ++ natBytes d
      ++ optionalBytes 2 (fun q => bytesOf 2 q.toNat) seq
  | .lanes ls =>
    ls.flatMap fun l =>
      codeByte (laneStatusCode l.1) :: (natBytes l.2.1 ++ natBytes l.2.2.1 ++ natBytes l.2.2.2)
  | .load last tare received requested outstanding tareInProgress =>
    quantityBytes last.net ++ quantityBytes last.gross ++ [codeByte (qualityCode last.quality)]
      ++ rangeBytes last.range ++ quantityBytes tare ++ rangeBytes received ++ rangeBytes requested
      ++ [flagByte outstanding, flagByte tareInProgress]
  | .crosshead pos good d mode jog drive enable =>
    quantityBytes pos ++ [flagByte !good] ++ optionalQuantity d ++ [codeByte (modeCode mode)]
      ++ optionalQuantity jog ++ driveStatusBytes drive ++ [flagByte enable]
  | .extensometer handler opened zA zB dA dB pRef ox oe reported slip settling averaging =>
    [codeByte (handlerCode handler), functionByte opened] ++ optionalQuantity zA ++ optionalQuantity zB
      ++ optionalQuantity dA ++ optionalQuantity dB ++ quantityBytes pRef ++ quantityBytes ox
      ++ quantityBytes oe ++ strainBytes reported ++ natBytes slip
      ++ [flagByte settling, flagByte averaging]
  | .test state slot phase phaseTime testTime cause inUse =>
    [codeByte (stateCode state)] ++ optionalBytes 4 (fun k : Fin 4 => natBytes k.val) slot
      ++ optionalBytes 4 natBytes phase ++ natBytes phaseTime ++ natBytes testTime
      ++ optionalCode (cause.map endCauseCode) ++ cutTo 256 (Config.tableSetBytes (inUse.map tableNumber))
  | .protection latch conditions dump lamp =>
    cutTo 256 (Config.tripSetBytes (latch.map tripNumber)) ++ conditions.map (fun c => codeByte (conditionCode c))
      ++ [functionByte dump, functionByte lamp]
  | .lines ls opened dump lamp active =>
    (ls.flatMap fun l =>
      [codeByte (functionCode l.1), codeByte (lineLevelCode l.2.1), codeByte (lineLevelCode l.2.2)])
      ++ [functionByte opened, functionByte dump, functionByte lamp, functionByte active]
  | .notices ns => ns.flatMap noticeEntryBytes
  | .tables ts op target session =>
    (ts.flatMap fun t => flagByte (!t.1) :: bytesOf 2 t.2.toNat)
      ++ [codeByte (storeStateCode op)] ++ optionalCode (target.map targetCode)
      ++ optionalCode (session.map fun t => (tableNumber t).val)

/-- The payload of a reply (R158, R199). -/
def payloadBytes : Payload → List Byte
  | .tare t => quantityBytes t
  | .entries total edition es =>
    [codeByte total] ++ bytesOf 2 edition.toNat ++ [codeByte es.length] ++ es.flatMap fun e => e
  | .result r => resultBytes r
  | .milestone m count => milestoneBytes m ++ natBytes count
  | .history records => records.toList.flatMap tripRecordBytes
  | .status s => statusBytes s

/-! ## C-port frames (R196, R198, sections 11.3.2 and 11.3.3) -/

/-- The body of a reply (R198). -/
def replyBody (r : Reply) : List Byte :=
  let detail := (r.detail.map detailBytes).getD []
  [r.kind, r.tag, codeByte (replyCodeNumber r.code), codeByte detail.length] ++ detail
    ++ (r.payload.map payloadBytes).getD []

/-- The body of a notice (section 11.3.2). -/
def noticeBody (n : NoticeFrame) : List Byte :=
  let detail := noticeDetailBytes n.detail
  [codeByte (sourceNumber n.source).val, codeByte (levelCode n.level), codeByte n.count]
    ++ bytesOf 4 n.time.toNat ++ [codeByte detail.length] ++ detail

/-- The flags of a measurement body (section 11.3.3). -/
def measurementFlags (f : MeasurementFrame) : Nat :=
  (if f.testFlag then 1 else 0)
    + (if f.stress.isSome then 2 else 0)
    + (if f.strain.isSome then 4 else 0)
    + (if f.strain.map Strain.source = some .crosshead then 8 else 0)
    + (if f.good then 0 else 16)
    + (if f.demand.isNone then 32 else 0)
    + (if f.latched then 64 else 0)
    + (if f.phase.isSome then 128 else 0)

/-- A raw entry (section 11.3.3). -/
def rawBytes (r : Fin 10 × Int) : List Byte :=
  codeByte (16 * (keyLane r.1).val + (keySub r.1).val) :: bytesOf 3 (BitVec.ofInt 24 r.2).toNat

/-- The body of a measurement frame (section 11.3.3). -/
def measurementBody (f : MeasurementFrame) : List Byte :=
  bytesOf 2 f.sequence.toNat ++ bytesOf 2 (measurementFlags f) ++ bytesOf 4 f.time.toNat
    ++ quantityBytes f.force ++ [codeByte (qualityCode f.quality)] ++ quantityBytes f.peak
    ++ quantityBytes (f.stress.getD 0) ++ quantityBytes ((f.strain.map Strain.value).getD 0)
    ++ quantityBytes f.pos ++ quantityBytes (f.demand.getD 0) ++ [codeByte (stateCode f.state)]
    ++ [codeByte (f.phase.getD 255)] ++ [codeByte (handlerCode f.handler)]
    ++ [codeByte f.raw.length] ++ f.raw.flatMap rawBytes

/-- The bytes of a frame in transmission on the C-port (R196). -/
def outFrameBytes : OutFrame → List Byte
  | .reply r => cportFrameBytes 2 (replyBody r)
  | .notice n => cportFrameBytes 3 (noticeBody n)
  | .measurement f => cportFrameBytes 4 (measurementBody f)

end Sys2Proof.Machine
end

