-- ==== Sys2Proof/Safety.lean ====
section
/-!
DEFINITION. What counts as a safe run, and the words the claims are stated in: a machine that goes on,
the controller link at rest, what an answered order and a notice leave at the link, and the legal
states the invariants name. No machine definition uses this file.
-/

namespace Sys2Proof.Machine

/-! ## Running -/

/-- The state after a step that answers one. -/
def nextOf (o : Host.Outcome State Fault Refusal) : Option State :=
  match o with
  | .next t => some t
  | .fault _ => none
  | .refused _ => none

/-- The machine goes on from a state. -/
def Progresses (s : State) : Prop :=
  ∃ t, step s = .next t

/-- `n` steps from a state; none where one of them stops. -/
def runSteps : Nat → State → Option State
  | 0, s => some s
  | n + 1, s => (nextOf (step s)).bind (runSteps n)

/-! ## The controller link (R157 to R159, R170) -/

/-- Nothing waits on a FREE link: no measurement frame due, no reply, no pending notice (R159). -/
abbrev Settled (s : State) : Prop :=
  s.cpt.link = none → s.cpt.due = false ∧ s.cpt.replies = [] ∧ ∀ k : Fin 10, s.ntu.records[k] = none

/-- An order that arrives now is taken and reaches its owner: fewer than four orders outstanding and the
Table Store not STARTING (R156, R157), on a settled link. -/
abbrev Ready (s : State) : Prop :=
  Settled s ∧ s.cpt.outstanding.length < 4 ∧ storeStarting s = false

/-- The part after an order has been taken and answered on a settled link: the order is outstanding,
its reply in transmission on a FREE link, else at the end of the reply queue (R157 to R159). -/
def answered (r : Reply) (s : State) : State :=
  { s with cpt :=
    { s.cpt with
      outstanding := s.cpt.outstanding ++ [{ tag := r.tag, kind := r.kind, answered := true }]
      link := some (s.cpt.link.getD (.reply r))
      replies :=
        match s.cpt.link with
        | none => []
        | some _ => s.cpt.replies ++ [r] } }

/-- A reply that carries neither detail nor payload. -/
def plainReply (o : OrderName) (tag : Byte) (code : ReplyCode) : Reply :=
  { tag := tag, kind := orderCode o, code := code, detail := none, payload := none }

/-- A reply with a detail. -/
def detailReply (o : OrderName) (tag : Byte) (code : ReplyCode) (d : Detail) : Reply :=
  { tag := tag, kind := orderCode o, code := code, detail := some d, payload := none }

/-- A DONE reply with a payload. -/
def payloadReply (o : OrderName) (tag : Byte) (p : Payload) : Reply :=
  { tag := tag, kind := orderCode o, code := .done, detail := none, payload := some p }

/-- The part after an occurrence on a settled link: nothing at an OFF source; on a FREE link its notice
is in transmission; else it is counted into the source's pending record (R159, R170). -/
def noticed (src : Source) (detail : NoticeDetail) (s : State) : State :=
  match noticeLevel s src, s.cpt.link with
  | .off, _ => s
  | _, some _ =>
    { s with ntu :=
      { s.ntu with
        records := s.ntu.records.set (sourceNumber src)
          (some (countOccurrence detail (runClock s) s.ntu.records[sourceNumber src])) } }
  | level, none =>
    { s with cpt :=
      { s.cpt with
        link := some (.notice
          { source := src, level := level, detail := detail, count := 1
            time := (runClock s).setWidth 32 }) } }

/-- A frame passes the checks of R197 for its kind: the byte count is that of its length field, the field
lies from 2 to 512, the CRC-32 matches, and byte 0 is the kind. -/
structure PassesChecks (kind : Byte) (bytes : List Byte) : Prop where
  length : bytes.length = unsignedAt bytes 1 2 + 7
  body : 2 ≤ unsignedAt bytes 1 2 ∧ unsignedAt bytes 1 2 ≤ 512
  crc : (crc32 (bytes.take (3 + unsignedAt bytes 1 2))).toNat =
    unsignedAt bytes (3 + unsignedAt bytes 1 2) 4
  kind : byteAt bytes 0 = kind

/-! ## Frames on the lanes -/

/-- The part when a command is taken `dt` microseconds after the one before it: the run clock has moved
on, and the frames the one before sent are gone. -/
def later (dt : Nat) (s : State) : State :=
  { s with now := s.now + dt, sent := [] }

/-- The part when a timer runs out (assumption 2). -/
def atExpiry (deadline : Nat) (s : State) : State :=
  { s with now := max s.now deadline, sent := [] }

/-- The part with another record of a lane. -/
def withLane (lane : Lane) (x : LaneState) (s : State) : State :=
  { s with lif := { lanes := s.lif.lanes.set lane x } }

/-- The part with the raw value of a sample held fresh where its route entry is tapped (R13). -/
def withTap (k : Fin 10) (value : Int) (s : State) : State :=
  if tapped s.rtb.route k then
    { s with rtb := { s.rtb with
        holdings := s.rtb.holdings.set k (some { value := value, fresh := true }) } }
  else s

/-- A SAMPLE frame reaches the route entry `k` of a lane that is UP: it is accepted, and ROUTE is VALID
(R1 to R4, R12). -/
structure Steered (lane : Lane) (rx : Reception) (f : SampleFrame) (c : Channel) (s : State) : Prop where
  read : readLaneFrame lane rx = .sample f
  sound : f.moduleFault = false
  up : s.lif.lanes[lane].status = .up
  mapped : s.rtb.route.map (fun route => route[routeKey lane f.sub].channel) = some c

/-- The part after an UP lane has heard an accepted frame `dt` later (R4). -/
def heard (dt : Nat) (lane : Lane) (s : State) : State :=
  withLane lane { s.lif.lanes[lane] with silence := some (s.now + dt + 1000) } (later dt s)

/-- What a lane that comes UP does beside its own record. It raises a LANE occurrence: on a FREE link its
notice is in transmission, on a BUSY one it is counted into the pending record (R5). On L4 the demand timer
starts, where it has not yet (R45). Where the lane carries LOAD, the fallback timer stops, force updates are
counted from 0, `counted` of them since, and LOAD-LOST is CLEAR with its timer stopped (R11, R139, R161,
R162). -/
structure CameUp (lane : Lane) (counted : Nat) (s t : State) : Prop where
  sending : Settled s → noticeLevel s .lane ≠ .off → s.cpt.link = none →
    t.cpt.link = some (.notice
      { source := .lane, level := noticeLevel s .lane, detail := .lane lane true, count := 1
        time := BitVec.ofNat 32 t.now })
  pending : noticeLevel s .lane ≠ .off → s.cpt.link.isSome = true →
    t.ntu.records[sourceNumber .lane] = some
      (countOccurrence (.lane lane true) (BitVec.ofNat 48 t.now) s.ntu.records[sourceNumber .lane])
  timer : t.xhu.demandAt =
    if lane = 4 ∧ s.xhu.demandAt = none then some (t.now + 250) else s.xhu.demandAt
  restored : (entryOf s.rtb.route .load).map keyLane = some lane →
    t.cpt.fallbackAt = none ∧ t.cpt.count = counted ∧
      ∀ p : ProtSet, s.pru.protset = some p →
        condition t .loadLost = .clear ∧ t.pru.loadLossAt = none
  elsewhere : (entryOf s.rtb.route .load).map keyLane ≠ some lane →
    t.cpt.fallbackAt = s.cpt.fallbackAt

/-! ## Timers and trips -/

/-- Whether the timer or the work that an event ends is stopped or absent (assumption 3). -/
def stopped (s : State) : Instr → Bool
  | .silenceTimerExpiry lane => s.lif.lanes[lane].silence.isNone
  | .demandTimerExpiry => s.xhu.demandAt.isNone
  | .repeatTimerExpiry => s.lch.repeatAt.isNone
  | .dwellTimerExpiry => s.lch.dwell.isNone
  | .tareSampleTimerExpiry => s.lch.tareJob.isNone
  | .settleTimerExpiry => s.exh.settleAt.isNone
  | .zeroAveragingTimeout => s.exh.averaging.isNone
  | .jogDeadlineExpiry => !jogActive s
  | .phaseTimerExpiry => s.tsq.state ≠ .running || s.tsq.phaseTimer.isNone
  | .timeLimitExpiry => s.tsq.limitAt.isNone || !inTest s
  | .loadLossTimerExpiry => s.pru.loadLossAt.isNone
  | .streamFallbackExpiry => s.cpt.fallbackAt.isNone
  | .sessionTimerExpiry => s.cpt.session.isNone
  | _ => false

/-- The part after the Crosshead Unit has entered HOLD: the accumulators are 0, the target and the
parameters dropped (R52); a jog ends with it, and LOAD-LOST, where only the jog kept it, returns to
CLEAR (R139). -/
def held (s : State) : State :=
  let t := { s with xhu := { s.xhu with mode := .hold, a := 0, b := 0, target := none } }
  if !channelUp s .load && (s.tsq.state = .armed || s.tsq.state = .running || s.tsq.state = .held) then t
  else
    { t with pru :=
      { s.pru with
        conditions := s.pru.conditions.set (tripNumber .loadLost) .clear
        loadLossAt := none } }

/-- A condition state with a delay, in microseconds, after a judgement at `now`: true, it starts the delay
or is SPENT at once for a delay of 0, and is SPENT when the delay has run out; false, it is CLEAR
(R134). -/
def delayed (holds : Bool) (delay now : Nat) (x : Condition) : Condition :=
  if holds then
    match x with
    | .clear => if delay = 0 then .spent else .timing now
    | .timing start => if start + delay ≤ now then .spent else .timing start
    | .spent => .spent
  else .clear

/-- A condition state that counts consecutive true updates up to `n2`, after one more (R136). -/
def counted (holds : Bool) (n2 : Nat) (x : Condition) : Condition :=
  if holds then
    match x with
    | .clear => if n2 ≤ 1 then .spent else .timing 1
    | .timing n => if n2 ≤ n + 1 then .spent else .timing (n + 1)
    | .spent => .spent
  else .clear

/-- What a trip of a class leaves, for a class that was not latched: the class in the latch and no other
change to it, the mode HOLD with cleared accumulators, the demand, the position and the drive status
unmoved, and one more trip in the class's history, the last of it with the values found (R142, R148). -/
structure Tripped (c : TripClass) (s t : State) : Prop where
  latch : t.pru.latch = s.pru.latch.set (tripNumber c) true
  hold : t.xhu = { s.xhu with mode := .hold, a := 0, b := 0, target := none }
  count : t.pru.history[tripNumber c].count = countUp s.pru.history[tripNumber c].count
  last : t.pru.history[tripNumber c].last = some
    { time := BitVec.ofNat 48 t.now, force := s.lch.last.net, pos := s.xhu.pos, state := s.tsq.state }
  others : ∀ d : TripClass, d ≠ c → t.pru.history[tripNumber d] = s.pru.history[tripNumber d]
  sequencer : t.tsq.state =
    match s.tsq.state with
    | .armed => .idle
    | .running | .held => .tripped
    | x => x
  record : s.tsq.state = .armed → t.tsq.specimen = none
  same : t.lif = s.lif ∧ t.rtb.route = s.rtb.route ∧ t.lch.last = s.lch.last ∧ t.exh = s.exh ∧
    t.oln = s.oln ∧ t.tst = s.tst ∧ t.tsq.phase = s.tsq.phase ∧ t.cpt.outstanding = s.cpt.outstanding

/-- What the end of a test leaves at the Evaluation Unit (R116, R125, R127, R132): the search closed, FMAX
last in the list where the Fm record is held and none was recorded, the list closed, and the summary
completed with the end state and cause. -/
structure EvaluationClosed (new : SeqState) (cause : EndCause) (s t : State) : Prop where
  search : t.evu.search = .closed ∧ t.evu.listOpen = false ∧ t.evu.fm = s.evu.fm
  summary : t.evu.result = { s.evu.result with endState := some new, endCause := some cause }
  list : t.evu.list =
    if s.evu.listOpen = true ∧ (∀ m ∈ s.evu.list, m.kind ≠ .fmax) then
      s.evu.list ++ (s.evu.fm.map (plainMilestone .fmax)).toList
    else s.evu.list

/-- What every end of a test leaves (R98, R74, R116, R125, R127): the end state and cause, both timers
stopped, test time at the value it had reached, the specimen record and the stress released, HOLD with
the demand unmoved, the evaluations closed, and no strain reported unless the handler is ATTACHED. -/
structure TestEnded (new : SeqState) (cause : EndCause) (s t : State) : Prop
    extends EvaluationClosed new cause s t where
  state : t.tsq.state = new ∧ t.tsq.endCause = some cause
  timers : t.tsq.limitAt = none ∧ t.tsq.phaseTimer = none
  time : testTime t = testTime s
  record : t.tsq.specimen = none ∧ t.lch = { s.lch with stress := none }
  phase : t.tsq.phase = s.tsq.phase ∧ t.tsq.slot = s.tsq.slot
  hold : t.xhu = { s.xhu with mode := .hold, a := 0, b := 0, target := none }
  strain : t.exh = if s.exh.handler = .attached then s.exh else { s.exh with reported := none }
  latch : t.pru.latch = s.pru.latch ∧ t.pru.history = s.pru.history
  same : t.lif = s.lif ∧ t.rtb.route = s.rtb.route ∧ t.oln = s.oln ∧ t.tst = s.tst ∧
    workingCopies t = workingCopies s

/-! ## Transmissions (R159) -/

/-- The place of a frame in the precedence of R159, first 1. -/
def frameClass : OutFrame → Nat
  | .measurement _ => 1
  | .notice n =>
    match n.level with
    | .three => 2
    | .two => 4
    | .one | .off => 5
  | .reply _ => 3

/-- Whether a notice of a level is pending. -/
def noticeWaits (level : Level) (s : State) : Bool :=
  allSources.any fun src => s.ntu.records[sourceNumber src].isSome && noticeLevel s src = level

/-- The classes of R159 in which a frame is waiting, first class first. -/
def waitingClasses (s : State) : List Nat :=
  (if s.cpt.due then [1] else []) ++ (if noticeWaits .three s then [2] else [])
    ++ (if s.cpt.replies = [] then [] else [3]) ++ (if noticeWaits .two s then [4] else [])
    ++ (if noticeWaits .one s then [5] else [])

/-- The orders outstanding once a frame has been sent: a reply's order leaves (R157). -/
def leftOutstanding (f : OutFrame) (os : List Outstanding) : List Outstanding :=
  match f with
  | .reply r => dropAnswered r.tag r.kind os
  | .measurement _ | .notice _ => os

/-- What a measurement frame carries when its transmission starts (R13, R160, R164, R165). -/
structure Carries (m : MeasurementFrame) (s : State) : Prop where
  sequence : m.sequence = match s.cpt.sequence with | none => 0 | some n => n + 1
  clock : m.testFlag = inTest s ∧ m.time = BitVec.ofNat 32 (if inTest s then testTime s else s.now)
  force : m.force = s.lch.last.net ∧ m.quality = s.lch.last.quality ∧
    m.peak = s.cpt.peak.getD s.lch.last.net
  strain : m.strain = s.exh.reported ∧ m.handler = s.exh.handler
  position : m.pos = s.xhu.pos ∧ m.good = s.xhu.good ∧ m.demand = s.xhu.demand
  sequencer : m.state = s.tsq.state ∧ m.phase = s.tsq.phase
  latched : m.latched = true ↔ ∃ c, latched s c = true
  raw : m.raw.length ≤ 4 ∧ ∀ k v, (k, v) ∈ m.raw → s.rtb.holdings[k] = some { value := v, fresh := true }

/-! ## Orders -/

/-- The mode a phase asks of the Crosshead Unit (R91). -/
def modeOf (q : Phase) (r : Specimen) : XhuMode :=
  match q.mode with
  | .positionRate => .positionRate q.rate (if q.direction = 1 then 1 else -1)
  | .strainRate => .strainRate q.rate q.gain q.vmax r.lc
  | .stressRate => .stressRate q.rate q.gain q.vmax q.feedforward
  | .hold => .hold

/-- A phase's mode has been requested with an empty latch: it is in force with a cleared step
accumulator, and a closed-loop mode follows a target re-based on the latest strain or stress with its
other accumulator cleared (R51, R57, R91). -/
structure Requested (q : Phase) (r : Specimen) (t : State) : Prop where
  mode : t.xhu.mode = modeOf q r
  step : t.xhu.a = 0
  strain : q.mode = .strainRate → t.xhu.target = some t.xhu.strain ∧ t.xhu.b = 0
  stress : q.mode = .stressRate → t.xhu.target = some (currentStress t) ∧ t.xhu.b = 0
  rest : q.mode = .positionRate ∨ q.mode = .hold → t.xhu.target = none

/-- An order has been taken and answered, other things having happened too: it is the last of the
outstanding orders, marked as answered, behind the ones outstanding before it, and its reply is in
transmission or the last in the queue (R157, R158). -/
def ReplyFormed (r : Reply) (s t : State) : Prop :=
  (∃ os, t.cpt.outstanding = os ++ [{ tag := r.tag, kind := r.kind, answered := true }] ∧
    os.map (fun o => (o.tag, o.kind)) = s.cpt.outstanding.map fun o => (o.tag, o.kind)) ∧
  (t.cpt.link = some (.reply r) ∨ ∃ q, t.cpt.replies = q ++ [r])

/-- The LOAD channel is needed: the sequencer is ARMED, RUNNING or HELD, or a jog is active (R139). -/
def NeedsLoad (s : State) : Prop :=
  s.tsq.state = .armed ∨ s.tsq.state = .running ∨ s.tsq.state = .held ∨ jogActive s = true

/-- LOAD-LOST does not trip on the spot at an event that arms it: the LOAD channel is UP, or its
condition is not CLEAR, or its delay is not 0 (R139). -/
def NoLoadLossNow (s : State) : Prop :=
  channelUp s .load = true ∨ condition s .loadLost ≠ .clear ∨
    ∀ p : ProtSet, s.pru.protset = some p → 0 < p.loadLossMs

/-- The answer ARM's checks give, the first that fails deciding; none where all pass (R87). -/
def armAnswer (r : Specimen) (s : State) : Option (ReplyCode × ArmCheck) :=
  if s.tsq.state ∉ [.idle, .ended, .aborted] then some (.wrongState, .state)
  else if latchEmpty s = false then some (.conditionPresent, .tripLatched)
  else if specimenInRange r = false then some (.badArgument, .field)
  else if s.rtb.route = none then some (.blankTable, .route)
  else if s.tsq.prog[slotOf r] = none then some (.blankTable, .program)
  else if s.xhu.xset = none then some (.blankTable, .xset)
  else if s.pru.protset = none then some (.blankTable, .protset)
  else if channelUp s .load = false then some (.wrongState, .loadChannel)
  else if channelUp s .xhead = false then some (.wrongState, .xheadChannel)
  else
    match s.lch.received with
    | none => some (.blankTable, .cal)
    | some g => if s.lch.cal[g] = none then some (.blankTable, .cal) else none

/-- The check of START that fails first; none where all pass (R90). That LOAD-CHANNEL is named where neither
LOAD nor XHEAD is UP is the model's choice (assumption 56). -/
def startAnswer (s : State) : Option StartCheck :=
  if s.tsq.state ≠ .armed then some .state
  else if channelUp s .load = false then some .loadChannel
  else if channelUp s .xhead = false then some .xheadChannel
  else if s.xhu.lastEnable = false then some .drive
  else none

/-- Whether a class has recovered (R146). -/
def hasRecovered (s : State) : TripClass → Prop
  | .tension1 | .tension2 => channelUp s .load = true ∧
      ∃ p, s.pru.protset = some p ∧ s.lch.last.net * 10000 ≤ p.tension1 * p.recovery
  | .compression => channelUp s .load = true ∧
      ∃ p, s.pru.protset = some p ∧ -(p.compression * p.recovery) ≤ s.lch.last.net * 10000
  | .following => s.xhu.good = true ∧
      ∃ p, s.pru.protset = some p ∧
        |s.xhu.demand.getD s.xhu.pos - s.xhu.pos| * 10000 ≤ p.followLimit * p.recovery
  | .travel => s.xhu.good = true ∧
      ∃ x, s.xhu.xset = some x ∧ x.softLower ≤ s.xhu.pos ∧ s.xhu.pos ≤ x.softUpper
  | .loadLost => channelUp s .load = true
  | .positionLost => channelUp s .xhead = true ∧ s.xhu.good = true
  | .driveFault => laneUp s 4 = true ∧ s.xhu.drive.fault = false ∧ s.xhu.drive.ready = true

/-! ## Load -/

/-- The RANGE-REQUEST for a range, on the lane of the entry that carries LOAD; none while LOAD is unmapped
(R7, R33). -/
def requestFrames (g : Fin 4) (s : State) : List (Lane × LaneOut) :=
  match entryOf s.rtb.route .load with
  | some k => [(keyLane k, .rangeRequest g (keySub k))]
  | none => []

/-- The range R35 requests on a usable sample of range `g` with a gross force: the finest coarser one that
is VALID, where the force reaches the up threshold. -/
def upSwitchTo (gross : Int) (g : Fin 4) (s : State) : Option (Fin 4) :=
  match s.lch.cal[g], finestCoarser s g with
  | some c, some h =>
    if (loadSettings s).up * fullScale c ≤ gross.natAbs * 10000 then some h else none
  | _, _ => none

/-- The dwell timer after a sample of range `g` that finds no request outstanding (R36): it starts on a
qualifying sample, goes on while samples of its range qualify, and stops on another. -/
def dwellAfter (gross : Int) (g : Fin 4) (now : Nat) (s : State) : Option Dwell :=
  match finerScale s g with
  | none => none
  | some fs =>
    if gross.natAbs * 10000 ≤ (loadSettings s).down * fs then
      match s.lch.dwell with
      | none => some { deadline := now + (loadSettings s).dwellMs.toNat * 1000, range := g }
      | some d => if d.range = g then some d else none
    else none

/-- What the ranging does on a LOAD sample of range `g`, `t` holding the new force and `s` what was held
before (R33, R35 to R38). In FIXED nothing is requested. In AUTO, while a range is requested, an OVERRANGE
or NO-CAL sample requests the coarsest VALID range, but an OVERRANGE one on that range; a usable one, where no request is outstanding, the
range of R35. A sample that ends a request is judged with it outstanding or not. -/
def Ranged (g : Fin 4) (s t : State) : Prop :=
  match (loadSettings s).mode with
  | .fixed _ => t.lch.requested = s.lch.requested ∧ t.lch.dwell = none
  | .auto =>
    if t.lch.last.quality = .overrange ∨ t.lch.last.quality = .noCal then
      t.lch.dwell = none ∧
        t.lch.requested =
          if t.lch.last.quality = .overrange ∧ coarsestValid s = some g then s.lch.requested
          else if s.lch.requested.isSome ∧ (coarsestValid s).isSome then coarsestValid s
          else s.lch.requested
    else
      let outstanding := t.lch.requested = s.lch.requested ∧ t.lch.dwell = none
      let free :=
        match s.lch.requested, upSwitchTo t.lch.last.gross g s with
        | some _, some h => t.lch.requested = some h ∧ t.lch.dwell = none
        | _, _ => t.lch.requested = s.lch.requested ∧
            t.lch.dwell = dwellAfter t.lch.last.gross g t.now s
      if s.lch.requested.isSome ∧ s.lch.requested ≠ some g then outstanding
      else if requestOutstanding s then outstanding ∨ free
      else free

/-! ## Tables (sections 10.3 and 10.5) -/

/-- The working copies after the replacement of a table by its content in `src`; a level OFF for TRIP is
not taken, the level in force being kept (R174). -/
def replacedCopies (x : TableId) (src : Tables) (s : State) : Tables :=
  let kept (levels : NoticeLevels) : NoticeLevels :=
    if levels[sourceNumber .trip] = .off then
      levels.set (sourceNumber .trip) (noticeLevel s .trip)
    else levels
  copyTable x { src with nlevels := src.nlevels.map kept } (workingCopies s)

/-- A request for a range has just been made (R33): it waits for a sample, and the repeat timer runs. -/
abbrev RequestMade (t : State) : Prop :=
  t.lch.awaiting = true ∧ t.lch.repeatAt = some (t.now + 10000)

/-- What the replacement of ROUTE does (R9, R13, R14, R26, R43, R70, R79, R162). A channel whose entry has
changed is lost where it was UP: the force STALE with the tare ended, the position STALE, an attach failed
and an ATTACHED handler LOST; a channel whose entry is the same is left alone. The raw holdings stay
where the entry is tapped before and after. The fallback timer runs while the stream is on and LOAD is
unmapped. -/
structure RouteReplaced (s t : State) : Prop where
  holdings : ∀ k : Fin 10, t.rtb.holdings[k] =
    if tapped s.rtb.route k ∧ tapped t.rtb.route k then s.rtb.holdings[k] else none
  load :
    if entryOf t.rtb.route .load ≠ entryOf s.rtb.route .load ∧ channelUp s .load then
      t.lch.last = { s.lch.last with quality := .stale } ∧ t.lch.tareJob = none ∧ t.lch.dwell = none
    else t.lch.last = s.lch.last ∧ t.lch.tareJob = s.lch.tareJob ∧ t.lch.dwell = s.lch.dwell
  xhead : t.xhu.good =
    (s.xhu.good && !(entryOf t.rtb.route .xhead ≠ entryOf s.rtb.route .xhead && channelUp s .xhead))
  arms : t.exh.handler =
    if ∃ armB : Bool, (∃ x, s.exh.extset = some x ∧ armInUse x armB = true) ∧
        entryOf t.rtb.route (armChannel armB) ≠ entryOf s.rtb.route (armChannel armB) ∧
        channelUp s (armChannel armB) = true then
      match s.exh.handler with
      | .attached => .lost
      | .settling => .detached
      | h => h
    else s.exh.handler
  unmapped : entryOf t.rtb.route .load = none → s.cpt.streamOn = true →
    t.cpt.fallbackAt = some (s.now + s.cpt.decimation * 250)
  restored : entryOf t.rtb.route .load ≠ entryOf s.rtb.route .load → channelUp t .load = true →
    t.cpt.fallbackAt = none ∧ t.cpt.count = 0

/-- What the replacement of a calibration table does (R19): the dwell timer stops, the tare and the force
stay. A table that becomes VALID while no range is requested makes the initial request of R39; one that
becomes BLANK in AUTO, being the requested range's, moves the request to the coarsest VALID range or
unsets it. -/
structure CalReplaced (g : Fin 4) (s t : State) : Prop where
  dwell : t.lch.dwell = none
  kept : t.lch.tare = s.lch.tare ∧ t.lch.last = s.lch.last ∧ t.lch.received = s.lch.received ∧
    t.lch.tareJob = s.lch.tareJob
  requested : t.lch.requested =
    if calValid t g then
      if s.lch.requested.isSome then s.lch.requested
      else match (loadSettings s).mode with
        | .fixed h => some h
        | .auto => coarsestValid t
    else if (loadSettings s).mode = .auto ∧ s.lch.requested = some g then coarsestValid t
    else s.lch.requested
  made : t.lch.requested.isSome = true → t.lch.requested ≠ s.lch.requested → RequestMade t
  unset : t.lch.requested = none → s.lch.requested.isSome = true → t.lch.repeatAt = none

/-- What the replacement of LOADSET does (R32): the dwell timer stops, the tare and the force stay, and a
FIXED range that is not the requested one is requested, with no calibration VALID too (assumption 41). -/
structure LoadSetReplaced (s t : State) : Prop where
  dwell : t.lch.dwell = none
  kept : t.lch.tare = s.lch.tare ∧ t.lch.last = s.lch.last ∧ t.lch.received = s.lch.received ∧
    t.lch.tareJob = s.lch.tareJob
  requested : t.lch.requested =
    match (loadSettings t).mode with
    | .fixed h => some h
    | .auto => s.lch.requested
  made : t.lch.requested ≠ s.lch.requested → RequestMade t

/-- What the replacement of a table does at its owner, `t` holding the new content (R9, R14, R19, R32, R41,
R63, R86, R133, R138, R140, R173, R175, R187). That the replacement of PROTSET judges nothing is the
model's reading (assumption 36). -/
def Replaced (x : TableId) (s t : State) : Prop :=
  match x with
  | .route => RouteReplaced s t
  | .cal g => CalReplaced g s t
  | .loadset => LoadSetReplaced s t
  | .extset =>
    match s.exh.handler with
    | .settling => t.exh.handler = .detached ∧ t.exh.settleAt = none ∧ t.exh.averaging = none
    | .attached | .lost => t.exh.handler = .detached ∧ t.exh.zeroA = none ∧ t.exh.zeroB = none ∧
        t.exh.reported = none
    | .detached | .opened => t.exh = { s.exh with extset := t.exh.extset }
  | .xset =>
    t.xhu.pos = s.xhu.pos ∧ t.xhu.demand = s.xhu.demand ∧
      (t.xhu.xset.isSome = true → t.xhu = { s.xhu with xset := t.xhu.xset } ∧ t.pru = s.pru) ∧
      (t.xhu.xset = none → t.xhu.good = false ∧ condition t .travel = .clear ∧
        (s.xhu.good = true → s.xhu.lastEnable = true → latched t .positionLost = true))
  | .protset =>
    t.pru = { s.pru with
      conditions := Vector.replicate 8 .clear, loadLossAt := none, protset := t.pru.protset }
  | .lineset => t.oln.manual = s.oln.manual ∧
      ∀ i : Fin 4, lineFunction t i = ((t.oln.lineset.map fun fs => fs[i]).getD .manual)
  | .nlevels =>
    ∀ src : Source, src ≠ .table → src ≠ .store →
      (noticeLevel t src = .off → t.ntu.records[sourceNumber src] = none) ∧
      (noticeLevel t src ≠ .off → s.cpt.link.isSome = true →
        t.ntu.records[sourceNumber src] = s.ntu.records[sourceNumber src])
  | .prog _ => t.tsq = { s.tsq with prog := t.tsq.prog }

/-! ## Invariants -/

/-- The controller link (R157, R159, R170, R171). -/
structure LinkInvariant (s : State) : Prop where
  settled : Settled s
  off : ∀ src : Source, noticeLevel s src = .off → s.ntu.records[sourceNumber src] = none
  outstanding : s.cpt.outstanding.length ≤ 4
  counts : ∀ (k : Fin 10) (r : NoticeRecord), s.ntu.records[k] = some r → 1 ≤ r.count ∧ r.count ≤ 255

/-- The sequencer, the latch, the crosshead's mode, the latest strain of a test, which the Crosshead
Unit and the Evaluation Unit hold alike, and the proof, watched once the chord is complete (R52, R58, R72,
R98, R102, R109, R119). -/
structure TestInvariant (s : State) : Prop where
  latch : s.tsq.state = .armed ∨ s.tsq.state = .running ∨ s.tsq.state = .held → latchEmpty s = true
  record : s.tsq.specimen.isSome = true ↔
    s.tsq.state = .armed ∨ s.tsq.state = .running ∨ s.tsq.state = .held ∨ s.tsq.state = .tripped
  mode : s.xhu.mode ≠ .hold → s.tsq.state = .running ∨ jogActive s = true
  jog : jogActive s = true → inTest s = false ∧ latchEmpty s = true
  strain : inTest s = true → ∀ x : Strain, s.evu.strain = some x →
    s.xhu.strain = x.value ∧ -2147483648 ≤ x.value ∧ x.value ≤ 2147483647
  proof : s.evu.proof = .watching → s.evu.chord = .complete

/-- Whether a milestone kind may stand more than once in a list (R124). -/
def repeats : MilestoneKind → Bool
  | .trip | .hold | .resume | .phaseEnd => true
  | _ => false

/-- The saturating counts, the lanes' timers and the milestone list (R4, R6, R80, R124, R148, R155, R157,
R163). -/
structure CountInvariant (s : State) : Prop where
  timers : ∀ lane : Lane, s.lif.lanes[lane].silence.isSome = true ↔ s.lif.lanes[lane].status = .up
  lanes : ∀ lane : Lane, s.lif.lanes[lane].checkFailures ≤ 65535 ∧
    s.lif.lanes[lane].moduleFaults ≤ 65535 ∧ s.lif.lanes[lane].unmapped ≤ 65535
  link : s.cpt.checkFailures ≤ 65535 ∧ s.cpt.overruns ≤ 65535 ∧ s.cpt.coalesced ≤ 65535
  trips : ∀ c : TripClass, s.pru.history[tripNumber c].count ≤ 65535
  slips : s.exh.slipCount ≤ 255
  list : s.evu.list.length ≤ 24
  free : (s.evu.list.filter fun m => m.kind ≠ .fmax && m.kind ≠ .breakFound).length ≤ 22
  phases : ∀ n : Nat,
    (s.evu.list.filter fun m => m.kind = .phaseEnd && m.index = some n).length ≤ 1
  once : ∀ k : MilestoneKind, repeats k = false → (s.evu.list.filter fun m => m.kind = k).length ≤ 1

end Sys2Proof.Machine
end

