-- ==== Sys2Proof/WellFormed.lean ====
section
/-!
DEFINITION. Which terms of `Instr` the table's rows stand for. A frame on a lane or on the C-port is
what its bytes say, so SAMPLE and DRIVE_STATUS stand for the frames whose step they name, an order
frame has at most 510 argument bytes (R196), CPORT_BAD_FRAME a frame that fails a check of R197, and
UNKNOWN_ORDER a kind outside the catalogue. The machine gives every term its meaning, well formed or
not.
-/

namespace Sys2Proof

open Sys2Proof.Machine

/-- An order's arguments fit in a C-port frame (R196, R198). -/
def argumentsFit (args : List Byte) : Bool :=
  args.length ≤ 510

/-- Whether a term stands for a command of its row. -/
def WellFormed (i : Instr) : Bool :=
  match i with
  | .sample _ lane rx =>
    match readLaneFrame lane rx with
    | .driveStatus _ => false
    | .bad | .sample _ => true
  | .driveStatus _ lane rx =>
    lane = 4 &&
      match readLaneFrame lane rx with
      | .sample _ => false
      | .bad | .driveStatus _ => true
  | .cportBadFrame _ rx => (readCportFrame rx).isNone
  | .unknownOrder _ kind _ args => (orderOfCode kind).isNone && argumentsFit args
  | .tableOpen _ _ args | .tableData _ _ args | .tableCommit _ _ args | .tableDiscard _ _ args
  | .tableRead _ _ args | .storeSave _ _ args | .storeRecall _ _ args | .arm _ _ args
  | .disarm _ _ args | .start _ _ args | .hold _ _ args | .resume _ _ args | .abort _ _ args
  | .release _ _ args | .resultRead _ _ args | .milestoneRead _ _ args | .tare _ _ args
  | .extAttach _ _ args | .extRemove _ _ args | .jog _ _ args | .jogStop _ _ args
  | .clearTrip _ _ args | .tripHistoryRead _ _ args | .tripHistoryReset _ _ args
  | .lineSet _ _ args | .streamSet _ _ args | .statusRead _ _ args | .restart _ _ args =>
    argumentsFit args
  | .powerOn | .silenceTimerExpiry _ | .demandTimerExpiry | .repeatTimerExpiry
  | .dwellTimerExpiry | .tareSampleTimerExpiry | .settleTimerExpiry | .zeroAveragingTimeout
  | .jogDeadlineExpiry | .phaseTimerExpiry | .timeLimitExpiry | .loadLossTimerExpiry
  | .streamFallbackExpiry | .sessionTimerExpiry | .storeSaveWriteComplete _ _
  | .storeRecallReadComplete _ _ | .startUpTableRead _ _ | .transmissionComplete _ => true

end Sys2Proof
end

