-- ==== Sys2Proof/Certificates/Slice0/Obligations.lean ====
section
/-!
DEFINITION. The statements about the model. The words they are stated in stand in Safety.lean.
-/

open Sys2Proof Sys2Proof.Machine

/-! ## The machine -/

/-- A step takes the command at the front of the queue and runs it on the state with the queue's rest;
on an empty queue the part idles, which is the model's choice (assumption 5). -/
def Obligations.StepRunsFrontCommand : Prop :=
  (∀ (s : State) (c : Instr) (rest : List Instr), s.pending = c :: rest →
    step s = exec c (s.withPending rest)) ∧
  ∀ s : State, s.pending = [] → step s = .next s

/-- Every command is taken to a next state in every state, changes no waiting command, and moves the run
clock forward or leaves it, but for POWER_ON, which starts it at 0. -/
def Obligations.EveryCommandGoesOn : Prop :=
  ∀ (i : Instr) (s : State), ∃ t, exec i s = .next t ∧ t.pending = s.pending ∧
    (i = .powerOn → t.now = 0) ∧ (i ≠ .powerOn → s.now ≤ t.now)

/-! ## Frames and tables -/

/-- A SAMPLE frame built from a content is read back as that content on every lane, and a DRIVE-STATUS
frame on L4 and on no other lane. A frame is accepted exactly when it is clean, has eight bytes, carries
the CRC-16 of its first six, and is a SAMPLE, or a DRIVE-STATUS on L4: the outbound kinds are bad on
every lane (R1, R194, R195). -/
def Obligations.LaneFramesReadBack : Prop :=
  ∀ lane : Lane,
    (∀ rx : Reception, readLaneFrame lane rx ≠ .bad ↔
      rx.clean = true ∧ rx.bytes.length = 8 ∧
        (crc16 (rx.bytes.take 6)).toNat = unsignedAt rx.bytes 6 2 ∧
        (byteAt rx.bytes 0 = 1 ∨ byteAt rx.bytes 0 = 2 ∧ lane = 4)) ∧
    (∀ f : SampleFrame, -8388608 ≤ f.value → f.value ≤ 8388607 →
      readLaneFrame lane { bytes := sampleFrameBytes f, clean := true } = .sample f) ∧
    ∀ d : DriveStatus,
      readLaneFrame lane { bytes := driveFrameBytes d, clean := true } =
        if lane = 4 then .driveStatus d else .bad

/-- The twenty-eight orders are numbered 1 to 28 and no other byte is an order kind; an order frame
built from a kind, a tag and up to 510 argument bytes is read back as these, and as the command of its
kind. A frame the part sends passes the checks of R197 for its own kind: every notice, whose detail has
at most 32 bytes; the measurement frame of any state; and every reply: one without a payload, whatever
its detail, and one with a tare, a STATUS-READ section, a result, a milestone, the trip history, or up
to sixteen table entries (R156, R196 to R198). -/
def Obligations.OrderFramesReadBack : Prop :=
  (∀ o : OrderName, orderOfCode (orderCode o) = some o) ∧
  (∀ kind : Byte, orderOfCode kind = none ↔ kind.toNat = 0 ∨ 28 < kind.toNat) ∧
  (∀ (kind tag : Byte) (args : List Byte), args.length ≤ 510 →
    readCportFrame { bytes := orderFrameBytes kind tag args, clean := true } =
      some { kind := kind, tag := tag, args := args } ∧
    ∀ (o : OrderName) (dt : Nat),
      cportCommand dt { bytes := orderFrameBytes (orderCode o) tag args, clean := true } =
        orderCommand o dt tag args) ∧
  (∀ n : NoticeFrame, (noticeDetailBytes n.detail).length ≤ 32 ∧
    PassesChecks 3 (outFrameBytes (.notice n))) ∧
  (∀ s : State, PassesChecks 4 (outFrameBytes (.measurement (assembleMeasurement s)))) ∧
  ∀ (o : OrderName) (tag : Byte) (s : State),
    (∀ (n : Nat) (x : Status), statusSection s n = some x →
      PassesChecks 2 (outFrameBytes (.reply (payloadReply o tag (.status x))))) ∧
    PassesChecks 2 (outFrameBytes (.reply (payloadReply o tag (.result (resultSummary s))))) ∧
    PassesChecks 2 (outFrameBytes (.reply (payloadReply o tag (.history s.pru.history)))) ∧
    (∀ x : Int, PassesChecks 2 (outFrameBytes (.reply (payloadReply o tag (.tare x))))) ∧
    (∀ (m : Milestone) (n : Nat),
      PassesChecks 2 (outFrameBytes (.reply (payloadReply o tag (.milestone m n))))) ∧
    (∀ r : Reply, r.payload = none → PassesChecks 2 (outFrameBytes (.reply r))) ∧
    ∀ (total : Nat) (edition : BitVec 16) (es : List Entry), es.length ≤ 16 →
      (∀ e ∈ es, e.length = 28) →
        PassesChecks 2 (outFrameBytes (.reply (payloadReply o tag (.entries total edition es))))

/-- A table that is committed can be read back and committed again: the entries that TABLE-READ gives
have the table's form, pass its validation, and hold the same content. -/
def Obligations.TableContentsReadBack : Prop :=
  ∀ (id : TableId) (es : List Entry), (∀ e ∈ es, e.length = 28) →
    hasForm id es = true → validates id es = true →
      ∃ es', tableEntries id (readTable id es) = some es' ∧ (∀ e ∈ es', e.length = 28) ∧
        hasForm id es' = true ∧ validates id es' = true ∧ readTable id es' = readTable id es

/-- On a calibration table of two or more points with rising counts and forces, the interpolation gives
each point's force at its count and never falls as the count rises (R21). -/
def Obligations.InterpolationRises : Prop :=
  ∀ t : CalTable, 2 ≤ t.length → rising (t.map CalPoint.count) = true →
    rising (t.map CalPoint.force) = true →
    (∀ p ∈ t, -2147483647 ≤ p.force ∧ p.force ≤ 2147483647) →
      (∀ p ∈ t, interpolate t p.count = p.force) ∧
      ∀ c d : Int, c ≤ d → interpolate t c ≤ interpolate t d

/-! ## Frames arrive on the lanes -/

/-- A bad frame and a module-fault sample are counted, up to 65,535, and change nothing else: the lane
state, its silence timer and every other block stay (R1, R2). -/
def Obligations.DiscardedFramesAreCounted : Prop :=
  ∀ (dt : Nat) (lane : Lane) (rx : Reception) (s : State),
    (readLaneFrame lane rx = .bad →
      ∀ i ∈ [Instr.sample dt lane rx, Instr.driveStatus dt lane rx],
        exec i s = .next (withLane lane
          { s.lif.lanes[lane] with
            checkFailures := min (max 65535 s.lif.lanes[lane].checkFailures)
              (s.lif.lanes[lane].checkFailures + 1) } (later dt s))) ∧
    ∀ f : SampleFrame, readLaneFrame lane rx = .sample f → f.moduleFault = true →
      exec (.sample dt lane rx) s = .next (withLane lane
        { s.lif.lanes[lane] with
          moduleFaults := min (max 65535 s.lif.lanes[lane].moduleFaults)
            (s.lif.lanes[lane].moduleFaults + 1) } (later dt s))

/-- An accepted frame, whatever it carries, leaves its lane UP with the silence timer 1,000 µs ahead and
the counts of discarded frames as they were, and leaves the other lanes as they are. A lane that comes
UP from DOWN or STALE raises a LANE occurrence, whose notice starts at once on a settled FREE link,
before what its channels raise (the model's reading, assumptions 6 and 9), and joins the pending record
on a BUSY one; on L4 it starts the demand timer where that has not started; and where the lane carries
LOAD the fallback timer stops, force updates are counted from 0, a LOAD sample that brings the lane UP
being the first, and LOAD-LOST is CLEAR with its timer stopped (R3 to R5, R11, R45, R139, R161,
R162). -/
def Obligations.AcceptedFrameRaisesLane : Prop :=
  ∀ (dt : Nat) (lane : Lane) (rx : Reception) (s : State),
    (∀ f : SampleFrame, readLaneFrame lane rx = .sample f → f.moduleFault = false →
      ∃ t, exec (.sample dt lane rx) s = .next t ∧ t.now = s.now + dt ∧
        t.lif.lanes[lane].status = .up ∧ t.lif.lanes[lane].silence = some (s.now + dt + 1000) ∧
        t.lif.lanes[lane].checkFailures = s.lif.lanes[lane].checkFailures ∧
        t.lif.lanes[lane].moduleFaults = s.lif.lanes[lane].moduleFaults ∧
        (∀ other : Lane, other ≠ lane → t.lif.lanes[other] = s.lif.lanes[other]) ∧
        (s.lif.lanes[lane].status ≠ .up → CameUp lane
          (if s.cpt.streamOn = true ∧ 1 < s.cpt.decimation ∧
              s.rtb.route.map (fun route => route[routeKey lane f.sub].channel) = some .load then 1
            else 0) s t)) ∧
    ∀ d : DriveStatus, readLaneFrame lane rx = .driveStatus d →
      ∃ t, exec (.driveStatus dt lane rx) s = .next t ∧ t.now = s.now + dt ∧
        t.lif.lanes[lane] = { s.lif.lanes[lane] with
          status := .up, silence := some (s.now + dt + 1000) } ∧
        (∀ other : Lane, other ≠ lane → t.lif.lanes[other] = s.lif.lanes[other]) ∧
        (s.lif.lanes[lane].status ≠ .up → CameUp lane 0 s t)

/-- A sample on an UP lane whose entry is mapped to no channel, or with ROUTE BLANK, restarts the lane's
silence timer, is held fresh where its entry is tapped, is counted as unmapped, and changes nothing else
(R4, R6, R12, R13). -/
def Obligations.UnmappedSampleIsCounted : Prop :=
  ∀ (dt : Nat) (lane : Lane) (rx : Reception) (f : SampleFrame) (s : State),
    readLaneFrame lane rx = .sample f → f.moduleFault = false → s.lif.lanes[lane].status = .up →
    (∀ route : RouteTable, s.rtb.route = some route →
      route[routeKey lane f.sub].channel = .unused) →
      exec (.sample dt lane rx) s = .next (withTap (routeKey lane f.sub) f.value (withLane lane
        { s.lif.lanes[lane] with
          silence := some (s.now + dt + 1000)
          unmapped := min (max 65535 s.lif.lanes[lane].unmapped)
            (s.lif.lanes[lane].unmapped + 1) } (later dt s)))

/-- A LOAD sample on an UP lane sets the received range and forms the new force: the quality NO-CAL with
the forces held where the range has no VALID table; else the gross force, the full scale in the sign of
the value under OVERRANGE, and the net force less the tare, clamped. That a NO-CAL force carries the
range code of its own sample is the model's reading (assumption 29). Stress follows while the specimen
record is held. The demand, the position, the zeros and every table stay (R20 to R24, R27). -/
def Obligations.LoadSampleFormsForce : Prop :=
  ∀ (dt : Nat) (lane : Lane) (rx : Reception) (f : SampleFrame) (s : State),
    Steered lane rx f .load s →
      ∃ t, exec (.sample dt lane rx) s = .next t ∧
        t.lch.received = some f.range ∧
        (s.lch.cal[f.range] = none →
          t.lch.last = { s.lch.last with quality := .noCal, range := some f.range }) ∧
        (∀ c : CalTable, s.lch.cal[f.range] = some c →
          t.lch.last.gross =
            (if f.overrange then (if 0 ≤ f.value then fullScale c else -fullScale c)
             else interpolate c f.value) ∧
          t.lch.last.net = clampForce (t.lch.last.gross - s.lch.tare) ∧
          t.lch.last.range = some f.range ∧
          t.lch.last.quality =
            if f.overrange then .overrange else if withinSpan c f.value then .good else .beyondCal) ∧
        (∀ r : Specimen, t.tsq.specimen = some r →
          t.lch.stress = some (clampSigned32 (roundDiv (t.lch.last.net * 10000) r.s0))) ∧
        t.xhu.demand = s.xhu.demand ∧ t.xhu.pos = s.xhu.pos ∧ t.xhu.good = s.xhu.good ∧
        t.xhu.drive = s.xhu.drive ∧ t.xhu.lastEnable = s.xhu.lastEnable ∧
        t.exh.zeroA = s.exh.zeroA ∧ t.exh.zeroB = s.exh.zeroB ∧ t.oln = s.oln ∧
        t.tst = s.tst ∧ workingCopies t = workingCopies s

/-- An XHEAD sample on an UP lane with XSET VALID gives the clamped position with quality GOOD. The
demand stays while the position was GOOD; on a position regained it becomes that position within the
soft limits where it was unset, or where the drive is ready and the trip latch empty, before the
position is offered to the blocks that judge it (the model's reading, assumption 23). The force, the
tare and every table stay. While XSET is BLANK the sample is not converted: only the lane's silence
timer and a tapped entry's raw holding move (R42, R48). -/
def Obligations.PositionSampleConverts : Prop :=
  ∀ (dt : Nat) (lane : Lane) (rx : Reception) (f : SampleFrame) (s : State),
    Steered lane rx f .xhead s →
    (s.xhu.xset = none →
      exec (.sample dt lane rx) s = .next (withTap (routeKey lane f.sub) f.value (heard dt lane s))) ∧
    ∀ x : XSet, s.xhu.xset = some x →
      ∃ t, exec (.sample dt lane rx) s = .next t ∧
        t.xhu.pos = clampForce (f.value * x.resolution + x.offset) ∧ t.xhu.good = true ∧
        t.xhu.demand =
          (if s.xhu.good = false ∧
              (s.xhu.demand = none ∨ s.xhu.drive.ready = true ∧ latchEmpty s = true) then
            some (clamp x.softLower x.softUpper (clampForce (f.value * x.resolution + x.offset)))
          else s.xhu.demand) ∧
        t.lch.last = s.lch.last ∧ t.lch.tare = s.lch.tare ∧ t.lch.tareJob = s.lch.tareJob ∧
        t.xhu.drive = s.xhu.drive ∧ t.xhu.lastEnable = s.xhu.lastEnable ∧
        t.exh.zeroA = s.exh.zeroA ∧ t.exh.zeroB = s.exh.zeroB ∧ t.oln = s.oln ∧
        t.tst = s.tst ∧ workingCopies t = workingCopies s

/-- A sample of an extensometer arm on an UP lane is held as the arm's latest value. Where the arm is
not in use, or the handler is DETACHED, OPENED, LOST, or SETTLING with the settle timer still running,
nothing else moves but the lane's silence timer and a tapped entry's raw holding (R64). -/
def Obligations.ArmSampleIsHeld : Prop :=
  ∀ (dt : Nat) (lane : Lane) (rx : Reception) (f : SampleFrame) (armB : Bool) (s : State),
    Steered lane rx f (armChannel armB) s →
      (∃ t, exec (.sample dt lane rx) s = .next t ∧
        (if armB then t.exh.latestB else t.exh.latestA) = some f.value ∧
        (if armB then t.exh.latestA else t.exh.latestB) =
          if armB then s.exh.latestA else s.exh.latestB) ∧
      ((∀ x : ExtSet, s.exh.extset = some x → armInUse x armB = true →
          s.exh.handler ≠ .attached ∧ (s.exh.handler = .settling → s.exh.averaging = none)) →
        exec (.sample dt lane rx) s = .next (withTap (routeKey lane f.sub) f.value
          { heard dt lane s with
            exh :=
              if armB then { s.exh with latestB := some f.value }
              else { s.exh with latestA := some f.value } }))

/-- A sample of an arm in use while ATTACHED: the ΔL values of the arms in use follow from the latest
values and the zeros, and the strain from ε_e and the re-attach offset. Outside a test it is reported,
and an arm whose own ΔL reaches the range end is removed instead: OPENED, with no strain reported.
During a test that goes on in the same phase, a slip in RUNNING is counted up to 255; STRAIN-LEVEL in
RUNNING, or the range end, removes the arms with a splice to crosshead-derived strain; else the strain
is reported. In RUNNING a STRAIN-AT-LEAST condition that the strain meets ends the phase. The record of
R80 is replaced by every such update, in and out of RUNNING (the model's reading, assumption 10). The
zeros and every table stay (R64, R65, R72, R75, R77, R78, R80, R92). -/
def Obligations.ArmSampleMeasuresStrain : Prop :=
  ∀ (dt : Nat) (lane : Lane) (rx : Reception) (f : SampleFrame) (armB : Bool) (x : ExtSet) (s : State),
    Steered lane rx f (armChannel armB) s → s.exh.extset = some x → armInUse x armB = true →
    s.exh.handler = .attached →
      let a := roundDiv
        (((if armB then s.exh.latestA.getD 0 else f.value) - s.exh.zeroA.getD 0) * x.scaleA) 1024
      let b := roundDiv
        (((if armB then f.value else s.exh.latestB.getD 0) - s.exh.zeroB.getD 0) * x.scaleB) 1024
      let length := if x.twoArm then roundDiv (a + b) 2 else a
      let strain := clampSigned32
        (clampSigned32 (roundDiv (length * 10000) (gaugeLength s x)) + s.exh.oe)
      let rangeEnd : Prop := x.rangeEnd ≤ (if armB then b else a).natAbs
      let running : Prop := s.tsq.state = .running
      let level : Prop := running ∧ ∃ r, s.tsq.specimen = some r ∧
        ∃ v, r.removalStrain = some v ∧ v ≤ strain
      let slip : Prop := running ∧ x.slipStep ≠ 0 ∧ ∃ r, s.exh.lastExt = some r ∧
        x.slipStep < r.strain - strain ∧ r.force ≤ s.lch.last.net
      ∃ t, exec (.sample dt lane rx) s = .next t ∧
        t.exh.deltaA = some a ∧ (x.twoArm = true → t.exh.deltaB = some b) ∧
        t.xhu.strain = strain ∧
        (inTest s = false →
          (if rangeEnd then t.exh.handler = .opened ∧ t.exh.reported = none
          else
            t.exh.handler = .attached ∧ t.exh.reported = some { value := strain, source := .ext }) ∧
          t.exh.lastExt = some { strain := strain, force := s.lch.last.net } ∧
          t.exh.slipCount = s.exh.slipCount ∧ t.lch = s.lch ∧ t.tsq = s.tsq ∧ t.pru = s.pru) ∧
        (inTest s = true → t.tsq.state = s.tsq.state → t.tsq.phase = s.tsq.phase →
          (rangeEnd ∨ level → t.exh.handler = .opened ∧
            t.exh.reported = some { value := strain, source := .crosshead } ∧
            t.exh.ox = strain - rawCrossheadStrain s s.xhu.pos) ∧
          (¬ (rangeEnd ∨ level) → t.exh.handler = .attached ∧
            t.exh.reported = some { value := strain, source := .ext }) ∧
          t.exh.lastExt = some { strain := strain, force := s.lch.last.net } ∧
          t.exh.slipCount =
            (if slip ∧ s.exh.slipCount < 255 then s.exh.slipCount + 1 else s.exh.slipCount)) ∧
        (running → ∀ (k : Nat) (p : Phase), s.tsq.phase = some k → phaseAt s k = some p →
          (p.end1 = .strainAtLeast ∧ p.threshold1 ≤ strain ∨
            p.end2 = some .strainAtLeast ∧ p.threshold2 ≤ strain) →
          t.tsq.state = .ended ∨ ∃ n, k < n ∧ t.tsq.phase = some n) ∧
        t.exh.zeroA = s.exh.zeroA ∧ t.exh.zeroB = s.exh.zeroB ∧ t.lch.last = s.lch.last ∧
        t.xhu.demand = s.xhu.demand ∧ t.pru.latch = s.pru.latch ∧ t.oln = s.oln ∧ t.tst = s.tst ∧
        workingCopies t = workingCopies s

/-- An accepted DRIVE-STATUS on an UP L4 replaces the held flags. The demand becomes the position within
the soft limits when the drive turns ready, without a fault, with the position GOOD, the demand set and
the trip latch empty; else it stays. A fault that finds its condition not SPENT leaves DRIVE-FAULT
latched; without a fault the condition is CLEAR and the latch as it was (R44, R48, R141). -/
def Obligations.DriveStatusReplacesFlags : Prop :=
  ∀ (dt : Nat) (rx : Reception) (d : DriveStatus) (s : State),
    readLaneFrame 4 rx = .driveStatus d → s.lif.lanes[(4 : Lane)].status = .up →
      let becomesReady := s.xhu.drive.ready = false ∧ d.ready = true ∧ s.xhu.good = true ∧
        s.xhu.demand.isSome = true ∧ latchEmpty s = true
      ∃ t, exec (.driveStatus dt 4 rx) s = .next t ∧ t.xhu.drive = d ∧
        (becomesReady → d.fault = false →
          t.xhu.demand = some
            (match s.xhu.xset with
              | some x => clamp x.softLower x.softUpper s.xhu.pos
              | none => s.xhu.pos)) ∧
        (¬ becomesReady → t.xhu.demand = s.xhu.demand) ∧
        (d.fault = true → condition s .driveFault ≠ .spent → latched t .driveFault = true) ∧
        (d.fault = false → condition t .driveFault = .clear ∧ t.pru.latch = s.pru.latch) ∧
        t.xhu.pos = s.xhu.pos ∧ t.xhu.good = s.xhu.good ∧ t.xhu.lastEnable = s.xhu.lastEnable ∧
        t.lch.last = s.lch.last ∧ t.lch.tareJob = s.lch.tareJob ∧ t.exh = s.exh ∧ t.oln = s.oln ∧
        t.tst = s.tst ∧ workingCopies t = workingCopies s

/-- An expiry of a stopped timer, and a completion of work not in flight, change nothing but the record
of the frames just sent and, for a completion, the run clock. This is the model's choice for events the
manual says do not occur (assumption 3). -/
def Obligations.StoppedTimersDoNothing : Prop :=
  (∀ (i : Instr) (s : State), stopped s i = true → exec i s = .next { s with sent := [] }) ∧
  ∀ (dt : Nat) (b : Bool) (s : State),
    (s.tst.op = .idle →
      exec (.storeSaveWriteComplete dt b) s = .next (later dt s) ∧
      exec (.storeRecallReadComplete dt b) s = .next (later dt s) ∧
      exec (.startUpTableRead dt b) s = .next (later dt s)) ∧
    (s.cpt.link = none → exec (.transmissionComplete dt) s = .next (later dt s))

/-- The silence timer of a lane runs out: the lane goes STALE with its timer stopped and the other lanes
unmoved. Where it carries XHEAD the position is STALE, where it carries LOAD the force is STALE with its
value kept and a tare has ended, and on L4 the held drive status is not ready, without fault and not
saturated. Where it carries an arm in use, an ATTACHED handler is LOST and a SETTLING one DETACHED with
its attach ended; during a test the strain is then crosshead-derived, spliced to the last one, and
outside a test none is reported (R4, R15, R26, R43, R70, R78, R79). -/
def Obligations.SilenceMakesLaneStale : Prop :=
  ∀ (lane : Lane) (deadline : Nat) (s : State), s.lif.lanes[lane].silence = some deadline →
    let carried (armB : Bool) : Prop :=
      (entryOf s.rtb.route (armChannel armB)).map keyLane = some lane ∧
        ∃ x, s.exh.extset = some x ∧ armInUse x armB = true
    let armLost : Prop := carried false ∨ carried true
    ∃ t, exec (.silenceTimerExpiry lane) s = .next t ∧ t.now = max s.now deadline ∧
      t.lif.lanes[lane] = { s.lif.lanes[lane] with status := .stale, silence := none } ∧
      (∀ other : Lane, other ≠ lane → t.lif.lanes[other] = s.lif.lanes[other]) ∧
      ((entryOf s.rtb.route .xhead).map keyLane = some lane → t.xhu.good = false) ∧
      ((entryOf s.rtb.route .xhead).map keyLane ≠ some lane → t.xhu.good = s.xhu.good) ∧
      ((entryOf s.rtb.route .load).map keyLane = some lane →
        t.lch.last = { s.lch.last with quality := .stale } ∧ t.lch.tareJob = none ∧
        t.lch.dwell = none) ∧
      ((entryOf s.rtb.route .load).map keyLane ≠ some lane →
        t.lch.last = s.lch.last ∧ t.lch.tareJob = s.lch.tareJob ∧ t.lch.dwell = s.lch.dwell) ∧
      (armLost → s.exh.handler = .attached → t.exh.handler = .lost ∧
        (inTest s = false → t.exh.reported = none) ∧
        (inTest s = true → t.exh.ox = s.xhu.strain - rawCrossheadStrain s s.xhu.pos ∧
          (inTest t = true → t.exh.reported = some
            { value := clampSigned32 (rawCrossheadStrain s s.xhu.pos + t.exh.ox)
              source := .crosshead }))) ∧
      (armLost → s.exh.handler = .settling →
        t.exh.handler = .detached ∧ t.exh.settleAt = none ∧ t.exh.averaging = none) ∧
      (¬ armLost ∨ s.exh.handler ≠ .attached ∧ s.exh.handler ≠ .settling → t.exh = s.exh) ∧
      t.exh.zeroA = s.exh.zeroA ∧ t.exh.zeroB = s.exh.zeroB ∧
      t.xhu.drive =
        (if lane = 4 then { ready := false, fault := false, saturated := false } else s.xhu.drive) ∧
      t.xhu.pos = s.xhu.pos ∧ t.xhu.demand = s.xhu.demand ∧ t.lch.tare = s.lch.tare ∧
      t.oln = s.oln ∧ t.tst = s.tst ∧ workingCopies t = workingCopies s

/-! ## The crosshead -/

/-- A demand expiry puts exactly one DEMAND frame on L4: its enable is 1 exactly when the demand is set,
the position GOOD, the drive ready and no DUMP-class class latched, and is kept; MOVING is the hint of
every mode but HOLD; the demand sent is within the soft limits while XSET is VALID, and is D, or 0
within those limits while D is unset; a frozen D beyond narrowed limits is brought within them too,
which is the model's reading (assumption 42). The timer restarts for the next 250 µs (R45 to R47,
R49). -/
def Obligations.DemandExpirySendsFrame : Prop :=
  ∀ (deadline : Nat) (s : State), s.xhu.demandAt = some deadline →
    ∃ t d, exec .demandTimerExpiry s = .next t ∧
      t.sent = [(4, .demand t.xhu.lastEnable (decide (s.xhu.mode ≠ .hold)) d)] ∧
      (t.xhu.lastEnable = true ↔ s.xhu.demand.isSome = true ∧ s.xhu.good = true ∧
        s.xhu.drive.ready = true ∧
        ∀ c : TripClass, isDump c = true → latched s c = false) ∧
      (∀ x : XSet, s.xhu.xset = some x → x.softLower ≤ x.softUpper →
        x.softLower ≤ d ∧ d ≤ x.softUpper) ∧
      (∀ p : Int, t.xhu.demand = some p → d = p) ∧
      (t.xhu.demand.isSome = s.xhu.demand.isSome) ∧
      (s.xhu.demand = none →
        d = match s.xhu.xset with | some x => clamp x.softLower x.softUpper 0 | none => 0) ∧
      t.xhu.demandAt = some (deadline + 250) ∧
      t.xhu.pos = s.xhu.pos ∧ t.xhu.good = s.xhu.good ∧ t.xhu.drive = s.xhu.drive ∧
      t.lif = s.lif ∧ t.rtb.route = s.rtb.route ∧ t.lch.last = s.lch.last ∧ t.exh = s.exh ∧
      t.oln = s.oln ∧ t.tst = s.tst ∧ workingCopies t = workingCopies s

/-- What a demand expiry does to a set demand D, before the clamp into the soft limits. In HOLD it
stays. In POSITION-RATE it moves by (a + v) div 4,000 in the direction given, in JOG by the magnitude of
the velocity in its sign; a keeps the remainder while the mode lasts. In the closed-loop modes it rises,
by at most (a + vmax) div 4,000: the velocity lies between 0 and vmax (R45, R52, R53, R55, R56, R59). -/
def Obligations.DemandSteps : Prop :=
  ∀ (deadline : Nat) (p : Int) (s : State), s.xhu.demandAt = some deadline →
    s.xhu.demand = some p → 0 ≤ s.xhu.a →
    ∃ t q, exec .demandTimerExpiry s = .next t ∧
      t.xhu.demand = some
        (match s.xhu.xset with
          | some x => clamp x.softLower x.softUpper q
          | none => q) ∧
      match s.xhu.mode with
      | .hold => q = p
      | .positionRate v direction =>
        q = p + direction * ((s.xhu.a + v) / 4000) ∧
          (t.xhu.mode = s.xhu.mode → t.xhu.a = (s.xhu.a + v) % 4000)
      | .jog v _ =>
        q = p + (if v < 0 then -1 else 1) * ((s.xhu.a + v.natAbs) / 4000) ∧
          (t.xhu.mode = s.xhu.mode → t.xhu.a = (s.xhu.a + v.natAbs) % 4000)
      | .strainRate _ _ vmax _ | .stressRate _ _ vmax _ =>
        0 ≤ vmax → p ≤ q ∧ q ≤ p + (s.xhu.a + vmax) / 4000

/-- What a closed-loop mode does at a demand expiry. The target advances by (b + rate) div 4,000 unless
the valve is saturated; the velocity is the feedforward and (error × K) div 256. Above vmax it becomes
vmax and the advance is undone; below 0 it becomes 0. The demand rises by (a + velocity) div 4,000,
before the clamp into the soft limits (R54 to R56). -/
def Obligations.ClosedLoopFollowsTarget : Prop :=
  ∀ (deadline : Nat) (p target rate vmax feedforward measured : Int) (gain : Nat) (s : State),
    s.xhu.demandAt = some deadline → s.xhu.demand = some p → s.xhu.target = some target →
    (s.xhu.mode = .stressRate rate gain vmax feedforward ∧ measured = currentStress s ∨
      ∃ lc, s.xhu.mode = .strainRate rate gain vmax lc ∧ feedforward = rate * lc / 10000 ∧
        measured = s.xhu.strain) →
      let advance := if s.xhu.drive.saturated then 0 else (s.xhu.b + rate) / 4000
      let v := feedforward + ((target + advance - measured) * gain) / 256
      ∃ t q, exec .demandTimerExpiry s = .next t ∧
        t.xhu.demand = some
          (match s.xhu.xset with
            | some x => clamp x.softLower x.softUpper q
            | none => q) ∧
        if vmax < v then
          q = p + (s.xhu.a + vmax) / 4000 ∧
            (t.xhu.mode = s.xhu.mode → t.xhu.target = some target ∧ t.xhu.b = s.xhu.b)
        else
          q = p + (s.xhu.a + max v 0) / 4000 ∧
            (t.xhu.mode = s.xhu.mode → t.xhu.target = some (target + advance) ∧
              t.xhu.b = if s.xhu.drive.saturated then s.xhu.b else (s.xhu.b + rate) % 4000)

/-! ## The Load Channel -/

/-- The repeat timer sends the RANGE-REQUEST for the requested range again, on the lane of the entry
mapped to LOAD, and none while LOAD is unmapped; it restarts for 10 ms. The dwell timer stops, and where
a range is requested the next finer one is requested instead; on the finest range it only stops. A LOAD
sample stops the repeat timer where it shows the requested range, and has the request sent again where
it shows another and the timer is stopped; the ranging of its mode and quality then requests a range,
with its frame, or leaves the request, and starts, keeps or stops the dwell timer; an OVERRANGE sample on the
coarsest VALID range requests nothing, whatever range is requested. That the request is
renewed before the ranging, so that one sample may send two frames, and that the dwell timer stops on a
sample of another range without starting anew, are the model's readings (assumptions 31 and 29) (R7,
R20, R33, R35 to R38). -/
def Obligations.RangeTimersRequest : Prop :=
  (∀ (deadline : Nat) (s : State), s.lch.repeatAt = some deadline →
    exec .repeatTimerExpiry s = .next
      { atExpiry deadline s with
        lch := { s.lch with repeatAt := some (max s.now deadline + 10000) }
        sent :=
          match s.lch.requested with
          | some g => requestFrames g s
          | none => [] }) ∧
  (∀ (d : Dwell) (s : State), s.lch.dwell = some d →
    (∀ h : d.range.val + 1 < 4, s.lch.requested.isSome = true →
      exec .dwellTimerExpiry s = .next
        { atExpiry d.deadline s with
          lch := { s.lch with
            requested := some ⟨d.range.val + 1, h⟩
            awaiting := true
            repeatAt := some (max s.now d.deadline + 10000)
            dwell := none }
          sent := requestFrames ⟨d.range.val + 1, h⟩ s }) ∧
    (¬ (d.range.val + 1 < 4 ∧ s.lch.requested.isSome = true) →
      exec .dwellTimerExpiry s = .next
        { atExpiry d.deadline s with lch := { s.lch with dwell := none } })) ∧
  ∀ (dt : Nat) (lane : Lane) (rx : Reception) (f : SampleFrame) (s : State),
    Steered lane rx f .load s →
      ∃ t, exec (.sample dt lane rx) s = .next t ∧ t.lch.received = some f.range ∧
        Ranged f.range s t ∧
        let renewed : Prop := s.lch.requested.isSome = true ∧ s.lch.requested ≠ some f.range ∧
          s.lch.repeatAt = none
        let made : Prop := t.lch.requested ≠ s.lch.requested
        (t.lch.awaiting = true ↔ made) ∧
        t.lch.repeatAt =
          (if made ∨ renewed then some (t.now + 10000)
          else if s.lch.requested = some f.range then none
          else s.lch.repeatAt) ∧
        t.sent =
          (if renewed then (s.lch.requested.map fun g => requestFrames g s).getD [] else []) ++
            if made then (t.lch.requested.map fun g => requestFrames g s).getD [] else []

/-! ## The extensometer -/

/-- A sample of an arm in use during zero averaging is counted and summed up to the arm's sixteenth.
When every arm in use has sixteen, its zero is the mean rounded to nearest, and the averaging ends. The
re-attach offset is 0 outside a test, and during one the last strain less the extensometer strain that
the new zeros give. The strain published then is ε_e plus that offset, the record of R80 is started from it and
the force current, and the slip count stays. The handler is ATTACHED, but in RUNNING, where the first strain
may remove it; that the completing sample is not judged for RANGE-END is the model's reading
(assumption 39) (R65, R68, R69). -/
def Obligations.AveragingTakesSamples : Prop :=
  ∀ (dt : Nat) (lane : Lane) (rx : Reception) (f : SampleFrame) (armB : Bool) (x : ExtSet)
    (v : Averaging) (s : State),
    Steered lane rx f (armChannel armB) s → s.exh.extset = some x → armInUse x armB = true →
    s.exh.handler = .settling → s.exh.averaging = some v →
      let add (a : ArmSum) : ArmSum :=
        if a.count < 16 then { count := a.count + 1, sum := a.sum + f.value } else a
      let a := if armB then v.armA else add v.armA
      let b := if armB then add v.armB else v.armB
      let fallA := roundDiv (((if armB then s.exh.latestA.getD 0 else f.value) - roundDiv a.sum 16)
        * x.scaleA) 1024
      let fallB := roundDiv (((if armB then f.value else s.exh.latestB.getD 0) - roundDiv b.sum 16)
        * x.scaleB) 1024
      let length := if x.twoArm then roundDiv (fallA + fallB) 2 else fallA
      let measured := clampSigned32 (roundDiv (length * 10000) (gaugeLength s x))
      let offset := if inTest s then s.xhu.strain - measured else 0
      let strain := clampSigned32 (measured + offset)
      ∃ t, exec (.sample dt lane rx) s = .next t ∧
        if 16 ≤ a.count ∧ (x.twoArm = true → 16 ≤ b.count) then
          t.exh.averaging = none ∧ t.exh.zeroA = some (roundDiv a.sum 16) ∧
            t.exh.zeroB = (if x.twoArm then some (roundDiv b.sum 16) else none) ∧
            (s.tsq.state ≠ .running → t.exh.handler = .attached) ∧
            t.exh.oe = offset ∧ t.xhu.strain = strain ∧
            t.exh.lastExt = some { strain := strain, force := s.lch.last.net } ∧
            t.exh.slipCount = s.exh.slipCount
        else
          t.exh.handler = .settling ∧ t.exh.zeroA = s.exh.zeroA ∧ t.exh.zeroB = s.exh.zeroB ∧
            t.exh.averaging = some { armA := a, armB := b, openedAt := v.openedAt }

/-! ## The sequencer's timers -/

/-- The phase timer ends a phase with a PHASE-TIME condition in RUNNING. A later phase begins with phase
time 0, its own timer, and, the trip latch being empty, the mode request of R91, a closed-loop target at
the measured value; after the last phase the test is ENDED with cause PROGRAM-END. That the strain
update of a removal by the phase's own end action ends no further phase is the model's reading
(assumption 11). The demand, the forces and every table stay (R57, R91, R93, R94). -/
def Obligations.PhaseTimerEndsPhase : Prop :=
  ∀ (limit k : Nat) (p : Phase) (s : State), s.tsq.state = .running → s.tsq.phaseTimer = some limit →
    s.tsq.phase = some k → phaseAt s k = some p →
    (p.end1 = .phaseTime ∨ p.end2 = some .phaseTime) →
      ∃ t, exec .phaseTimerExpiry s = .next t ∧
        t.now = max s.now (s.tsq.phaseSince + (limit - s.tsq.phaseBase)) ∧
        (∀ q : Phase, phaseAt s (k + 1) = some q →
          t.tsq.state = .running ∧ t.tsq.phase = some (k + 1) ∧ phaseTime t = 0 ∧
          t.tsq.phaseTimer = phaseLimit q ∧
          ∀ r : Specimen, s.tsq.specimen = some r → latchEmpty s = true → Requested q r t) ∧
        (phaseAt s (k + 1) = none →
          t.tsq.state = .ended ∧ t.tsq.endCause = some .programEnd ∧ t.tsq.phase = some k ∧
            t.tsq.specimen = none ∧ t.xhu.mode = .hold ∧ inTest t = false) ∧
        (p.removeExt = true → s.exh.handler = .attached → t.exh.handler = .opened) ∧
        (p.removeExt = false → t.exh.handler = s.exh.handler) ∧
        t.xhu.demand = s.xhu.demand ∧ t.xhu.pos = s.xhu.pos ∧ t.lch.last = s.lch.last ∧
        t.lif = s.lif ∧ t.pru.latch = s.pru.latch ∧ t.pru.history = s.pru.history ∧
        t.oln = s.oln ∧ t.tst = s.tst ∧ workingCopies t = workingCopies s

/-- The time limit, in any test state, ends the test in ENDED with cause TIME-LIMIT, and test time
stands at the limit (R97, R98). -/
def Obligations.TimeLimitEndsTest : Prop :=
  ∀ (deadline : Nat) (s : State), s.tsq.limitAt = some deadline → inTest s = true →
    ∃ t, exec .timeLimitExpiry s = .next t ∧ TestEnded .ended .timeLimit (atExpiry deadline s) t ∧
      testTime t = deadline - s.tsq.startedAt ∧ t.cpt.outstanding = s.cpt.outstanding

/-! ## Protection -/

/-- The load-loss timer trips LOAD-LOST: a class not yet latched is taken by R142, one in the latch only
counts in its history (R139, R142, R143, R148). -/
def Obligations.LoadLossTrips : Prop :=
  ∀ (deadline : Nat) (s : State), s.pru.loadLossAt = some deadline →
    ∃ t, exec .loadLossTimerExpiry s = .next t ∧
      (latched s .loadLost = false → Tripped .loadLost (atExpiry deadline s) t) ∧
      (latched s .loadLost = true →
        t = { atExpiry deadline s with
          pru := { s.pru with
            loadLossAt := none
            conditions := s.pru.conditions.set (tripNumber .loadLost) .spent
            history := s.pru.history.set (tripNumber .loadLost)
              { count := countUp s.pru.history[tripNumber .loadLost].count
                first := some (s.pru.history[tripNumber .loadLost].first.getD
                  (BitVec.ofNat 48 (max s.now deadline)))
                last := some
                  { time := BitVec.ofNat 48 (max s.now deadline), force := s.lch.last.net
                    pos := s.xhu.pos, state := s.tsq.state } } } })

/-- The conditions that a sample, a demand expiry or a silence expiry judges. On a LOAD sample of an UP
lane, PROTSET being VALID, TENSION-1 and COMPRESSION follow their delays from the first true judgement,
and TENSION-2 counts consecutive true updates. On an XHEAD sample with XSET VALID, TRAVEL is SPENT
beyond a hard limit and CLEAR within, and a position regained leaves POSITION-LOST CLEAR. At a demand
expiry, FOLLOWING follows its delay, judged on the frame sent. A silence expiry of the lane that carries
XHEAD leaves TRAVEL CLEAR, and with a GOOD position under an enabled drive trips POSITION-LOST; one of
L4 under an enabled drive trips DRIVE-FAULT; one of the lane that carries LOAD leaves TENSION-1,
TENSION-2 and COMPRESSION CLEAR, and LOAD-LOST, where LOAD is needed, in TIMING with the load-loss timer
started, or tripped at once at a delay of 0, unless what the lane's other channels do ends the need
first. A condition that becomes SPENT leaves its class latched (R134 to R141). -/
def Obligations.ConditionsAreJudged : Prop :=
  (∀ (dt : Nat) (lane : Lane) (rx : Reception) (f : SampleFrame) (p : ProtSet) (s : State),
    Steered lane rx f .load s → s.pru.protset = some p →
      ∃ t, exec (.sample dt lane rx) s = .next t ∧
        condition t .tension1 =
          delayed (tension1Holds p t) (p.delay1Ms.toNat * 1000) t.now (condition s .tension1) ∧
        condition t .tension2 =
          counted (tension2Holds p t) p.count2.toNat (condition s .tension2) ∧
        condition t .compression =
          delayed (compressionHolds p t) (p.delayCMs.toNat * 1000) t.now
            (condition s .compression) ∧
        ∀ c ∈ [TripClass.tension1, .tension2, .compression],
          condition t c = .spent → condition s c ≠ .spent → latched t c = true) ∧
  (∀ (dt : Nat) (lane : Lane) (rx : Reception) (f : SampleFrame) (x : XSet) (s : State),
    Steered lane rx f .xhead s → s.xhu.xset = some x →
      ∃ t, exec (.sample dt lane rx) s = .next t ∧
        condition t .travel =
          (if t.xhu.pos < x.softLower - x.hardMargin ∨ x.softUpper + x.hardMargin < t.xhu.pos then
            .spent
          else .clear) ∧
        (condition t .travel = .spent → condition s .travel ≠ .spent →
          latched t .travel = true) ∧
        condition t .positionLost =
          if s.xhu.good then condition s .positionLost else .clear) ∧
  (∀ (deadline : Nat) (p : ProtSet) (s : State), s.xhu.demandAt = some deadline →
    s.pru.protset = some p →
      ∃ t moving d, exec .demandTimerExpiry s = .next t ∧
        t.sent = [(4, .demand t.xhu.lastEnable moving d)] ∧
        condition t .following =
          delayed (t.xhu.lastEnable && decide (p.followLimit < |d - s.xhu.pos|))
            (p.followDelayMs.toNat * 1000) t.now (condition s .following) ∧
        (condition t .following = .spent → condition s .following ≠ .spent →
          latched t .following = true)) ∧
  ∀ (lane : Lane) (deadline : Nat) (s : State), s.lif.lanes[lane].silence = some deadline →
    ∃ t, exec (.silenceTimerExpiry lane) s = .next t ∧
      ((entryOf s.rtb.route .xhead).map keyLane = some lane → s.xhu.good = true →
        condition t .travel = .clear ∧
        (s.xhu.lastEnable = true →
          condition t .positionLost = .spent ∧ latched t .positionLost = true) ∧
        (s.xhu.lastEnable = false → condition t .positionLost = condition s .positionLost)) ∧
      (lane = 4 → condition t .driveFault = .clear ∧
        (s.xhu.lastEnable = true → latched t .driveFault = true)) ∧
      ((entryOf s.rtb.route .load).map keyLane = some lane →
        (∀ c ∈ [TripClass.tension1, .tension2, .compression], condition t c = .clear) ∧
        ∀ p : ProtSet, s.pru.protset = some p →
          (¬ NeedsLoad s → condition t .loadLost = .clear ∧ t.pru.loadLossAt = none) ∧
          (NeedsLoad s → condition s .loadLost = .clear →
            (p.loadLossMs ≤ 0 → latched t .loadLost = true ∨ ¬ NeedsLoad t) ∧
            (p.loadLossMs ≤ 0 → lane ≠ 4 →
              (∀ c ∈ [Channel.xhead, .extA, .extB],
                (entryOf s.rtb.route c).map keyLane ≠ some lane) →
                  latched t .loadLost = true) ∧
            (0 < p.loadLossMs → NeedsLoad t → condition t .loadLost = .timing t.now ∧
              t.pru.loadLossAt = some (t.now + p.loadLossMs.toNat * 1000))) ∧
          (NeedsLoad t → condition s .loadLost ≠ .clear →
            condition t .loadLost = condition s .loadLost ∧ t.pru.loadLossAt = s.pru.loadLossAt))

/-! ## The link, the session and the store -/

/-- The stream fallback timer restarts for N × 250 µs and makes a measurement frame due: on a FREE link
its transmission starts, with the values held and the next sequence; on a BUSY one it waits; one already
due is counted as coalesced. A LOAD sample raises the peak to the greatest force; while the stream is on
and LOAD is UP it is counted, and the Nth makes a frame due in the same way and starts the count again:
a frame whose transmission starts on the sample carries the new force and the peak (R159 to R165). -/
def Obligations.StreamMakesFramesDue : Prop :=
  (∀ (deadline : Nat) (s : State), s.cpt.fallbackAt = some deadline → s.cpt.streamOn = true →
    let again := some (max s.now deadline + s.cpt.decimation * 250)
    (s.cpt.due = true →
      exec .streamFallbackExpiry s = .next
        { atExpiry deadline s with
          cpt := { s.cpt with fallbackAt := again, coalesced := countUp s.cpt.coalesced } }) ∧
    (s.cpt.due = false → s.cpt.link.isSome = true →
      exec .streamFallbackExpiry s = .next
        { atExpiry deadline s with cpt := { s.cpt with fallbackAt := again, due := true } }) ∧
    (s.cpt.due = false → s.cpt.link = none →
      ∃ t m, exec .streamFallbackExpiry s = .next t ∧ t.cpt.link = some (.measurement m) ∧
        Carries m (atExpiry deadline s) ∧ t.cpt.due = false ∧ t.cpt.peak = none ∧
        t.cpt.sequence = some m.sequence ∧ t.cpt.fallbackAt = again ∧
        (∀ k v, (k, v) ∈ m.raw → t.rtb.holdings[k] = some { value := v, fresh := false }) ∧
        t.cpt.replies = s.cpt.replies ∧ t.ntu = s.ntu ∧ t.lch = s.lch ∧ t.xhu = s.xhu ∧
        t.tsq = s.tsq ∧ t.rtb.route = s.rtb.route)) ∧
  ∀ (dt : Nat) (lane : Lane) (rx : Reception) (f : SampleFrame) (s : State),
    Steered lane rx f .load s → Settled s →
      let counts : Prop := s.cpt.streamOn = true ∧ channelUp s .load = true
      let falls : Prop := counts ∧ s.cpt.decimation ≤ s.cpt.count + 1
      ∃ t, exec (.sample dt lane rx) s = .next t ∧
        let peak := max (s.cpt.peak.getD t.lch.last.net) t.lch.last.net
        t.cpt.count =
          (if falls then 0 else if counts then s.cpt.count + 1 else s.cpt.count) ∧
        t.cpt.coalesced = (if falls ∧ s.cpt.due = true then countUp s.cpt.coalesced
          else s.cpt.coalesced) ∧
        (¬ falls ∨ s.cpt.due = true ∨ s.cpt.link.isSome = true →
          t.cpt.peak = some peak ∧ t.cpt.sequence = s.cpt.sequence ∧
            (t.cpt.due = true ↔ falls ∨ s.cpt.due = true)) ∧
        (falls → s.cpt.link = none →
          t.cpt.due = true ∧ t.cpt.peak = some peak ∧ t.cpt.sequence = s.cpt.sequence ∨
            ∃ m, t.cpt.link = some (.measurement m) ∧ m.force = t.lch.last.net ∧ m.peak = peak ∧
              m.sequence = (match s.cpt.sequence with | none => 0 | some n => n + 1) ∧
              t.cpt.due = false ∧ t.cpt.peak = none ∧ t.cpt.sequence = some m.sequence)

/-- The session timer closes the load session with a TIMEOUT occurrence at TABLE (R185). -/
def Obligations.SessionTimesOut : Prop :=
  ∀ (x : Session) (s : State), Settled s → s.cpt.session = some x →
    exec .sessionTimerExpiry s = .next
      (noticed .table (.table x.table true)
        { atExpiry x.deadline s with cpt := { s.cpt with session := none } })

/-- A table's write in a save completes: the stored copy becomes the snapshot's where the write passed
its check, the other stored copies stay, and the table is among the failed ones where it did not. After
the last table the store is IDLE with a STORE occurrence (R189). -/
def Obligations.SaveWriteCompletes : Prop :=
  ∀ (dt : Nat) (good : Bool) (target : StoreTarget) (snapshot : Tables) (x : TableId)
    (todo failed : List TableId) (s : State), Settled s →
    s.tst.op = .saving target snapshot (x :: todo) failed →
      let stored := if good then copyTable x snapshot s.tst.stored else s.tst.stored
      let failed' := if good then failed else failed ++ [x]
      exec (.storeSaveWriteComplete dt good) s = .next
        (match todo with
          | [] => noticed .store (.store .save target (!failed'.isEmpty) failed' [])
              { later dt s with tst := { s.tst with stored := stored, op := .idle } }
          | _ :: _ => { later dt s with tst := { s.tst with
              stored := stored, op := .saving target snapshot todo failed' } })

/-- On a settled link a recall reaches a table: one in use is kept; another takes the stored copy, where
that is intact and not empty, or is BLANK, its edition advances, and its owner applies the effects of
the replacement; at LOADSET, PROTSET and an NLEVELS that would switch TRIP off they rest on the model's
readings (assumptions 41, 36 and 34). The other working copies stay, as do the stored ones. After the
last table the store is IDLE (R9, R14, R19, R32, R41, R63, R133, R174, R175, R187, R190). -/
def Obligations.RecallReachesTable : Prop :=
  ∀ (dt : Nat) (intact : Bool) (target : StoreTarget) (x : TableId) (todo blank kept : List TableId)
    (s : State), Settled s → s.tst.op = .recalling target (x :: todo) blank kept →
      let copy := if intact then s.tst.stored else Tables.blank
      ∃ t, exec (.storeRecallReadComplete dt intact) s = .next t ∧ t.tst.stored = s.tst.stored ∧
        (tableInUse s x = true → workingCopies t = workingCopies s ∧ t.tst.editions = s.tst.editions) ∧
        (tableInUse s x = false →
          t.tst.editions = s.tst.editions.set (tableNumber x) (s.tst.editions[tableNumber x] + 1) ∧
          (∀ y : TableId, valid t y = if y = x then hasContent copy x else valid s y) ∧
          workingCopies t = replacedCopies x copy s ∧ Replaced x (later dt s) t) ∧
        (todo = [] → t.tst.op = .idle) ∧
        (todo ≠ [] → ∃ b k, t.tst.op = .recalling target todo b k ∧
          (k = if tableInUse s x then kept ++ [x] else kept) ∧
          b = if tableInUse s x = false ∧ hasContent copy x = false then blank ++ [x] else blank)

/-- On a settled link the start-up recall reaches a table: it takes the stored copy, where that is
intact and not empty, or is BLANK, whatever is in use, and its edition advances. Its owner applies the
effects of the replacement, as at a recall (assumptions 34 and 36), but no range is requested. After the
last table the store is IDLE, and the Load Channel requests the FIXED range, or the coarsest VALID one,
where any calibration is VALID; in FIXED too it waits for one, which is the model's reading (assumption
14) (R39, R174, R191). -/
def Obligations.StartUpReachesTable : Prop :=
  ∀ (dt : Nat) (intact : Bool) (x : TableId) (todo blank : List TableId) (s : State), Settled s →
    s.tst.op = .starting (x :: todo) blank →
      let copy := if intact then s.tst.stored else Tables.blank
      let ranging := x = .loadset ∨ ∃ g, x = .cal g
      ∃ t, exec (.startUpTableRead dt intact) s = .next t ∧ t.tst.stored = s.tst.stored ∧
        t.tst.editions = s.tst.editions.set (tableNumber x) (s.tst.editions[tableNumber x] + 1) ∧
        (∀ y : TableId, valid t y = if y = x then hasContent copy x else valid s y) ∧
        workingCopies t = replacedCopies x copy s ∧
        (todo ≠ [] → ¬ ranging → Replaced x (later dt s) t) ∧
        (todo ≠ [] → ranging → t.lch.dwell = none ∧
          (s.lch.requested = none → t.lch.requested = none ∧ t.sent = [])) ∧
        (todo = [] → t.tst.op = .idle ∧
          ∀ g : Fin 4, coarsestValid t = some g →
            t.lch.requested = some
              (match (loadSettings t).mode with | .auto => g | .fixed h => h)) ∧
        (todo ≠ [] → t.tst.op = .starting todo
          (if hasContent copy x then blank else blank ++ [x]))

/-- The frame in transmission completes. A reply's order leaves the outstanding set. The next frame is
of the first class of R159 in which one waits: the due measurement frame with what is held now, the
oldest reply, or the notice of the lowest-numbered source of its level, whose record is released; with
nothing waiting the link is FREE. The other blocks stay (R157, R159, R160). -/
def Obligations.TransmissionCompletes : Prop :=
  ∀ (dt : Nat) (f : OutFrame) (s : State), s.cpt.link = some f →
    ∃ t, exec (.transmissionComplete dt) s = .next t ∧
      t.cpt.outstanding = leftOutstanding f s.cpt.outstanding ∧
      t.cpt.link.map frameClass = (waitingClasses s).head? ∧
      (∀ m, t.cpt.link = some (.measurement m) → Carries m (later dt s) ∧ t.cpt.due = false ∧
        t.cpt.replies = s.cpt.replies ∧ t.ntu = s.ntu) ∧
      (∀ r, t.cpt.link = some (.reply r) → s.cpt.replies = r :: t.cpt.replies ∧ t.ntu = s.ntu ∧
        t.rtb = s.rtb) ∧
      (∀ n, t.cpt.link = some (.notice n) →
        (∃ r, s.ntu.records[sourceNumber n.source] = some r ∧ n.detail = r.detail ∧
          n.count = r.count ∧ n.level = noticeLevel s n.source) ∧
        t.ntu.records = s.ntu.records.set (sourceNumber n.source) none ∧
        (∀ src : Source, (sourceNumber src).val < (sourceNumber n.source).val →
          noticeLevel s src = n.level → s.ntu.records[sourceNumber src] = none) ∧
        t.cpt.replies = s.cpt.replies ∧ t.rtb = s.rtb) ∧
      t.now = s.now + dt ∧ t.lif = s.lif ∧ t.rtb.route = s.rtb.route ∧ t.lch = s.lch ∧
      t.xhu = s.xhu ∧ t.exh = s.exh ∧ t.tsq = s.tsq ∧ t.evu = s.evu ∧ t.pru = s.pru ∧
      t.oln = s.oln ∧ t.tst = s.tst

/-! ## Power-on -/

/-- The state each block takes at power-on, as the manual lists it, over the stored copies kept without
power; the waiting commands stay (R16, R39, R61, R83, R107, R131, R153, R154, R169, R177, R179,
R191). -/
def Obligations.PowerOnValues : Prop :=
  ∀ s : State, ∃ t, exec .powerOn s = .next t ∧ t.pending = s.pending ∧ t.now = 0 ∧
    (∀ lane : Lane, t.lif.lanes[lane] =
      { status := .down, silence := none, checkFailures := 0, moduleFaults := 0, unmapped := 0 }) ∧
    t.rtb.route = none ∧ (∀ k : Fin 10, t.rtb.holdings[k] = none) ∧
    t.lch.tare = 0 ∧ t.lch.last = { net := 0, gross := 0, quality := .stale, range := none } ∧
    t.lch.received = none ∧ t.lch.requested = none ∧ t.lch.repeatAt = none ∧ t.lch.dwell = none ∧
    t.lch.tareJob = none ∧ t.lch.stress = none ∧
    t.xhu.pos = 0 ∧ t.xhu.good = false ∧ t.xhu.demand = none ∧
    t.xhu.drive = { ready := false, fault := false, saturated := false } ∧
    t.xhu.lastEnable = false ∧ t.xhu.demandAt = none ∧ t.xhu.mode = .hold ∧ t.xhu.a = 0 ∧
    t.xhu.b = 0 ∧ t.xhu.target = none ∧
    t.exh.handler = .detached ∧ t.exh.latestA = none ∧ t.exh.latestB = none ∧
    t.exh.zeroA = none ∧ t.exh.zeroB = none ∧ t.exh.settleAt = none ∧ t.exh.averaging = none ∧
    t.exh.pRef = 0 ∧ t.exh.ox = 0 ∧ t.exh.oe = 0 ∧ t.exh.reported = none ∧ t.exh.lastExt = none ∧
    t.exh.slipCount = 0 ∧
    t.tsq.state = .idle ∧ t.tsq.specimen = none ∧ t.tsq.slot = none ∧ t.tsq.phase = none ∧
    t.tsq.endCause = none ∧ testTime t = 0 ∧ phaseTime t = 0 ∧ t.tsq.phaseTimer = none ∧
    t.tsq.limitAt = none ∧
    t.evu.strain = none ∧ t.evu.fm = none ∧ t.evu.breakArmed = false ∧ t.evu.window = [] ∧
    t.evu.search = .closed ∧ t.evu.fy = none ∧ t.evu.reh = none ∧ t.evu.candidate = none ∧
    t.evu.chord = .waitingLow ∧ t.evu.point1 = none ∧ t.evu.point2 = none ∧
    t.evu.proof = .inactive ∧ t.evu.list = [] ∧
    t.evu.overflow = false ∧ t.evu.result = ResultFields.empty ∧
    (∀ c : TripClass, condition t c = .clear ∧ latched t c = false ∧
      t.pru.history[tripNumber c] = { count := 0, first := none, last := none }) ∧
    t.pru.loadLossAt = none ∧ (∀ i : Fin 4, t.oln.manual[i] = .released) ∧
    t.cpt.outstanding = [] ∧ t.cpt.replies = [] ∧ t.cpt.link = none ∧ t.cpt.checkFailures = 0 ∧
    t.cpt.overruns = 0 ∧ t.cpt.coalesced = 0 ∧ t.cpt.streamOn = false ∧ t.cpt.decimation = 16 ∧
    t.cpt.fallbackAt = none ∧ t.cpt.due = false ∧ t.cpt.session = none ∧
    t.cpt.count = 0 ∧ t.cpt.peak = none ∧ t.cpt.sequence = none ∧
    (∀ k : Fin 10, t.ntu.records[k] = none) ∧ (∀ x : TableId, valid t x = false) ∧
    (∀ k : Fin 15, t.tst.editions[k] = 0) ∧
    t.tst.stored = s.tst.stored ∧ storeStarting t = true

/-! ## Orders at the port -/

/-- What stops an order before its owner. A bad frame is counted, up to 65,535. A fifth order is
discarded with an OVERRUN occurrence, and none of it joins the part. A kind outside the catalogue is
answered UNKNOWN-ORDER, malformed arguments BAD-ARGUMENT with FORMAT, and during start-up every
well-formed order but STATUS-READ BUSY-STORE. Nothing else changes (R155 to R157). -/
def Obligations.OrdersStoppedAtPort : Prop :=
  (∀ (dt : Nat) (rx : Reception) (s : State), readCportFrame rx = none →
    exec (.cportBadFrame dt rx) s = .next
      { later dt s with cpt := { s.cpt with
          checkFailures := min (max 65535 s.cpt.checkFailures) (s.cpt.checkFailures + 1) } }) ∧
  (∀ (dt : Nat) (kind tag : Byte) (args : List Byte) (s : State), Settled s →
    (kind.toNat = 0 ∨ 28 < kind.toNat) →
      exec (.unknownOrder dt kind tag args) s = .next
        (if s.cpt.outstanding.length < 4 then
          answered
            { tag := tag, kind := kind, code := .unknownOrder, detail := none, payload := none }
            (later dt s)
        else
          noticed .link (.overrun tag kind)
            { later dt s with cpt := { s.cpt with
                overruns := min (max 65535 s.cpt.overruns) (s.cpt.overruns + 1) } })) ∧
  ∀ (o : OrderName) (dt : Nat) (tag : Byte) (args : List Byte) (s : State), Settled s →
    (4 ≤ s.cpt.outstanding.length →
      exec (orderCommand o dt tag args) s = .next
        (noticed .link (.overrun tag (orderCode o))
          { later dt s with cpt := { s.cpt with
              overruns := min (max 65535 s.cpt.overruns) (s.cpt.overruns + 1) } })) ∧
    (s.cpt.outstanding.length < 4 → wellFormedArguments o args = false →
      exec (orderCommand o dt tag args) s = .next
        (answered (detailReply o tag .badArgument .format) (later dt s))) ∧
    (s.cpt.outstanding.length < 4 → wellFormedArguments o args = true → o ≠ .statusRead →
      storeStarting s = true →
        exec (orderCommand o dt tag args) s = .next
          (answered (plainReply o tag .busyStore) (later dt s)))

/-- STATUS-READ, RESULT-READ, MILESTONE-READ and TABLE-READ answer from what is held and change nothing
else: the section asked for; the summary; the milestone of an index, or the count where there is none;
at most sixteen entries of a working copy from a segment on, with their number and the edition. That a
refused TABLE-READ carries these in its detail (assumption 57), and the widths of the arguments, four bytes
for the index and one for a section, an identity and a segment (assumption 20), are the model's choice (R129, R130, R167, R188). -/
def Obligations.ReadsAnswerAndChangeNothing : Prop :=
  ∀ (dt : Nat) (tag : Byte) (s : State), Settled s → s.cpt.outstanding.length < 4 →
    (∀ n : Byte, exec (.statusRead dt tag [n]) s = .next
      (answered
        (match statusSection
            { later dt s with cpt := { s.cpt with
                outstanding := s.cpt.outstanding ++
                  [{ tag := tag, kind := orderCode .statusRead, answered := false }] } } n.toNat with
          | some x => payloadReply .statusRead tag (.status x)
          | none => plainReply .statusRead tag .badArgument)
        (later dt s))) ∧
    (storeStarting s = false →
      exec (.resultRead dt tag []) s = .next
        (answered (payloadReply .resultRead tag (.result (resultSummary (later dt s))))
          (later dt s)) ∧
      (∀ a b c d : Byte, exec (.milestoneRead dt tag [a, b, c, d]) s = .next
        (answered
          (match s.evu.list[((a.toNat * 256 + b.toNat) * 256 + c.toNat) * 256 + d.toNat]? with
            | some m => payloadReply .milestoneRead tag (.milestone m s.evu.list.length)
            | none =>
              detailReply .milestoneRead tag .badArgument (.count s.evu.list.length))
          (later dt s))) ∧
      ∀ id segment : Byte, exec (.tableRead dt tag [id, segment]) s = .next
        (answered
          (match allTables[id.toNat]? with
            | none => plainReply .tableRead tag .badArgument
            | some x =>
              match tableEntries x (workingCopies s) with
              | none =>
                detailReply .tableRead tag .blankTable (.edition s.tst.editions[tableNumber x])
              | some es =>
                if segment.toNat * 16 < es.length then
                  payloadReply .tableRead tag
                    (.entries es.length s.tst.editions[tableNumber x]
                      ((es.drop (segment.toNat * 16)).take 16))
                else
                  detailReply .tableRead tag .badArgument
                    (.entriesEdition es.length s.tst.editions[tableNumber x]))
          (later dt s)))

/-- TRIP-HISTORY-READ answers with the eight records. TRIP-HISTORY-RESET empties every record, but while
the latch is not empty it is refused with the lowest-numbered latched class. Nothing else changes
(R149). -/
def Obligations.TripHistoryOrders : Prop :=
  ∀ (dt : Nat) (tag : Byte) (s : State), Ready s →
    exec (.tripHistoryRead dt tag []) s = .next
      (answered (payloadReply .tripHistoryRead tag (.history s.pru.history)) (later dt s)) ∧
    (∀ c : TripClass, latched s c = true →
      (∀ d : TripClass, (tripNumber d).val < (tripNumber c).val → latched s d = false) →
        exec (.tripHistoryReset dt tag []) s = .next
          (answered (detailReply .tripHistoryReset tag .conditionPresent (.tripClass c))
            (later dt s))) ∧
    ((∀ c : TripClass, latched s c = false) →
      exec (.tripHistoryReset dt tag []) s = .next
        (answered (plainReply .tripHistoryReset tag .done)
          { later dt s with pru := { s.pru with
              history := Vector.replicate 8 { count := 0, first := none, last := none } } }))

/-! ## Tables and the store -/

/-- TABLE-OPEN opens an empty session on a table, for 2,000 ms: an identity outside 0 to 14, an open
session, and a store operation that concerns the table refuse it in this order. TABLE-DATA appends its
entries to the staging copy and restarts the timer: it is refused with the session CLOSED, and a segment
out of order, or entries past the table's most, end the session. That an identity has one byte is the
model's choice (assumption 20) (R180, R181). -/
def Obligations.SessionOrders : Prop :=
  ∀ (dt : Nat) (tag : Byte) (s : State), Ready s →
    (∀ id : Byte, exec (.tableOpen dt tag [id]) s = .next
      (match allTables[id.toNat]? with
        | none => answered (plainReply .tableOpen tag .badArgument) (later dt s)
        | some x =>
          if s.cpt.session.isSome then answered (plainReply .tableOpen tag .busy) (later dt s)
          else if storeConcerns s x then
            answered (plainReply .tableOpen tag .busyStore) (later dt s)
          else
            answered (plainReply .tableOpen tag .done)
              { later dt s with cpt := { s.cpt with
                  session := some
                    { table := x, staging := [], next := 0, deadline := s.now + dt + 2000000 } } })) ∧
    ∀ (segment : Byte) (es : List Entry), 1 ≤ es.length → es.length ≤ 16 →
      (∀ e ∈ es, e.length = 28) →
        exec (.tableData dt tag ([segment, BitVec.ofNat 8 es.length] ++ es.flatten)) s = .next
          (match s.cpt.session with
            | none => answered (plainReply .tableData tag .notOpen) (later dt s)
            | some x =>
              if segment.toNat ≠ x.next then
                answered (plainReply .tableData tag .sequence)
                  { later dt s with cpt := { s.cpt with session := none } }
              else if maxEntries x.table < x.staging.length + es.length then
                answered (detailReply .tableData tag .badArgument .entries)
                  { later dt s with cpt := { s.cpt with session := none } }
              else
                answered (plainReply .tableData tag .done)
                  { later dt s with cpt := { s.cpt with
                      session := some { x with
                        staging := x.staging ++ es, next := x.next + 1
                        deadline := s.now + dt + 2000000 } } })

/-- TABLE-DISCARD closes an open session and changes nothing else; with the session CLOSED it is refused
NOT-OPEN (R184). -/
def Obligations.TableDiscardClosesSession : Prop :=
  ∀ (dt : Nat) (tag : Byte) (s : State), Ready s →
    exec (.tableDiscard dt tag []) s = .next
      (if s.cpt.session.isSome then
        answered (plainReply .tableDiscard tag .done)
          { later dt s with cpt := { s.cpt with session := none } }
      else answered (plainReply .tableDiscard tag .notOpen) (later dt s))

/-- TABLE-COMMIT. With no session it is refused; a staging copy without its table's form, or one that
fails a condition of its validation, ends the session; a table in use, or one a store operation
concerns, keeps it for 2,000 ms more. An accepted commit makes the staging copy's content the working
copy, advances its edition, closes the session, and has the table's owner apply the effects of the
replacement; at LOADSET and PROTSET they rest on the model's readings (assumptions 36 and 41). NLEVELS
keeps TRIP on. The other working copies, the stored copies, the tare and the position stay (R9, R14,
R19, R32, R41, R63, R133, R173, R174, R182, R183, R187). -/
def Obligations.TableCommitReplacesCopy : Prop :=
  ∀ (dt : Nat) (tag : Byte) (s : State), Ready s →
    (s.cpt.session = none →
      exec (.tableCommit dt tag []) s = .next
        (answered (plainReply .tableCommit tag .notOpen) (later dt s))) ∧
    ∀ x : Session, s.cpt.session = some x →
      let closed := { later dt s with cpt := { s.cpt with session := none } }
      let kept := { later dt s with cpt := { s.cpt with
        session := some { x with deadline := s.now + dt + 2000000 } } }
      if hasForm x.table x.staging = false then
        exec (.tableCommit dt tag []) s = .next
          (answered (detailReply .tableCommit tag .badArgument .entries) closed)
      else if validates x.table x.staging = false then
        ∃ n c, (conditions x.table x.staging)[n]? = some false ∧
          exec (.tableCommit dt tag []) s = .next
            (answered (detailReply .tableCommit tag .badArgument (.condition n))
              { closed with choices := c })
      else if tableInUse s x.table then
        exec (.tableCommit dt tag []) s = .next (answered (plainReply .tableCommit tag .inUse) kept)
      else if storeConcerns s x.table then
        exec (.tableCommit dt tag []) s = .next
          (answered (plainReply .tableCommit tag .busyStore) kept)
      else
        ∃ t, exec (.tableCommit dt tag []) s = .next t ∧
          ReplyFormed (plainReply .tableCommit tag .done) s t ∧ t.cpt.session = none ∧
          (∀ y : TableId, valid t y = if y = x.table then true else valid s y) ∧
          workingCopies t = replacedCopies x.table (readTable x.table x.staging) s ∧
          Replaced x.table (later dt s) t ∧
          t.tst.editions =
            s.tst.editions.set (tableNumber x.table) (s.tst.editions[tableNumber x.table] + 1) ∧
          t.tst.stored = s.tst.stored ∧ t.tst.op = s.tst.op ∧ t.lch.tare = s.lch.tare ∧
          t.xhu.pos = s.xhu.pos ∧ t.xhu.demand = s.xhu.demand ∧ t.now = s.now + dt

/-- STORE-SAVE and STORE-RECALL name an identity or ALL, coded 15 in the one byte of an identity (the
model's choices, assumptions 17 and 20). An IDLE store takes them: a save with a snapshot of the working
copies, a recall unless a named table is in use, which refuses it with the lowest-numbered one. They are
answered ACCEPTED and nothing else changes (R189, R190). -/
def Obligations.StoreOrders : Prop :=
  ∀ (dt : Nat) (tag id : Byte) (s : State), Ready s →
    let target : Option StoreTarget :=
      if id.toNat = 15 then some .all else (allTables[id.toNat]?).map .one
    let named : StoreTarget → List TableId
      | .one x => [x]
      | .all => allTables
    exec (.storeSave dt tag [id]) s = .next
      (match target with
        | none => answered (plainReply .storeSave tag .badArgument) (later dt s)
        | some y =>
          if s.tst.op = .idle then
            answered (plainReply .storeSave tag .accepted)
              { later dt s with tst := { s.tst with
                  op := .saving y (workingCopies s) (named y) [] } }
          else answered (plainReply .storeSave tag .busyStore) (later dt s)) ∧
    exec (.storeRecall dt tag [id]) s = .next
      (match target with
        | none => answered (plainReply .storeRecall tag .badArgument) (later dt s)
        | some y =>
          if s.tst.op = .idle then
            match (named y).find? (tableInUse s) with
            | some x =>
              answered (detailReply .storeRecall tag .inUse (.table x)) (later dt s)
            | none =>
              answered (plainReply .storeRecall tag .accepted)
                { later dt s with tst := { s.tst with op := .recalling y (named y) [] [] } }
          else answered (plainReply .storeRecall tag .busyStore) (later dt s))

/-! ## The orders of a test -/

/-- ARM is refused by the first check of R87 that fails, and nothing changes. Otherwise the sequencer is
ARMED with the specimen record and the slot held, test time 0, phase time 0 (the model's choice,
assumption 45), no phase and no end cause, and the result and the list of an earlier test discarded; the
mode, the demand, the force and every table stay. With LOAD UP, which the checks require, LOAD-LOST does
not trip (R86 to R88). -/
def Obligations.ArmHoldsSpecimen : Prop :=
  ∀ (dt : Nat) (tag : Byte) (args : List Byte) (s : State), Ready s →
    wellFormedArguments .arm args = true →
    match armAnswer (readSpecimen args) s with
    | some (code, check) =>
      exec (.arm dt tag args) s = .next
        (answered (detailReply .arm tag code (.arm check)) (later dt s))
    | none =>
      ∃ t, exec (.arm dt tag args) s = .next t ∧ ReplyFormed (plainReply .arm tag .done) s t ∧
        t.tsq.state = .armed ∧ t.tsq.specimen = some (readSpecimen args) ∧
        t.tsq.slot = some (slotOf (readSpecimen args)) ∧ testTime t = 0 ∧ phaseTime t = 0 ∧
        t.tsq.phase = none ∧ t.tsq.endCause = none ∧ t.lch = { s.lch with stress := none } ∧
        resultSummary t =
          { fields := ResultFields.empty, duration := 0, fm := none, slipCount := 0
            milestones := 0, overflow := false } ∧ t.evu.list = [] ∧
        (∀ x ∈ allTables, tableInUse t x = decide (x ≠ .lineset ∧ x ≠ .nlevels ∧
          ∀ k : Fin 4, x = .prog k → k = slotOf (readSpecimen args))) ∧
        t.xhu = s.xhu ∧ t.exh = s.exh ∧ t.lif = s.lif ∧ t.rtb.route = s.rtb.route ∧
        t.oln = s.oln ∧ t.pru.latch = s.pru.latch ∧ t.pru.history = s.pru.history ∧
        t.tst = s.tst ∧ workingCopies t = workingCopies s

/-- DISARM in ARMED releases the record and the slot to IDLE; RELEASE in ENDED or ABORTED goes to IDLE
with the result, the end cause and test time kept; both leave the forces, the demand and every table,
and LOAD-LOST is judged on the change of state: it trips at once where a jog is active without LOAD, its
condition CLEAR and its delay 0, and else the mode and the latch stay. ABORT during a test ends it in
ABORTED with cause ABORT-ORDER, the trip latch as it was. Elsewhere each is refused WRONG-STATE and
nothing changes (R89, R98, R100, R101, R139). -/
def Obligations.TestIsLeft : Prop :=
  ∀ (dt : Nat) (tag : Byte) (s : State), Ready s →
    let quiet : Prop := jogActive s = false ∨ NoLoadLossNow s
    let judged (t : State) : Prop :=
      (quiet → t.xhu = s.xhu ∧ t.pru.latch = s.pru.latch ∧ t.pru.history = s.pru.history) ∧
      (¬ quiet → latched t .loadLost = true ∧ t.xhu.demand = s.xhu.demand ∧
        (latched s .loadLost = false → t.xhu.mode = .hold))
    (s.tsq.state = .armed →
      ∃ t, exec (.disarm dt tag []) s = .next t ∧ ReplyFormed (plainReply .disarm tag .done) s t ∧
        t.tsq.state = .idle ∧ t.tsq.specimen = none ∧ t.tsq.slot = none ∧ judged t ∧
        t.lch = { s.lch with stress := none } ∧ t.exh = s.exh ∧ t.evu = s.evu ∧ t.oln = s.oln ∧
        t.lif = s.lif ∧ t.tst = s.tst ∧ workingCopies t = workingCopies s) ∧
    (s.tsq.state ≠ .armed →
      exec (.disarm dt tag []) s = .next
        (answered (plainReply .disarm tag .wrongState) (later dt s))) ∧
    (s.tsq.state = .ended ∨ s.tsq.state = .aborted →
      ∃ t, exec (.release dt tag []) s = .next t ∧ ReplyFormed (plainReply .release tag .done) s t ∧
        t.tsq.state = .idle ∧ t.tsq.slot = none ∧ t.tsq.phase = none ∧ judged t ∧
        t.tsq.endCause = s.tsq.endCause ∧ testTime t = testTime (later dt s) ∧ t.evu = s.evu ∧
        t.lch = s.lch ∧ t.exh = s.exh ∧ t.oln = s.oln ∧ t.lif = s.lif ∧ t.tst = s.tst ∧
        workingCopies t = workingCopies s) ∧
    (¬ (s.tsq.state = .ended ∨ s.tsq.state = .aborted) →
      exec (.release dt tag []) s = .next
        (answered (plainReply .release tag .wrongState) (later dt s))) ∧
    (inTest s = true →
      ∃ t, exec (.abort dt tag []) s = .next t ∧ ReplyFormed (plainReply .abort tag .done) s t ∧
        TestEnded .aborted .abortOrder (later dt s) t) ∧
    (inTest s = false →
      exec (.abort dt tag []) s = .next
        (answered (plainReply .abort tag .wrongState) (later dt s)))

/-- START is refused by the first check of R90 that fails; that LOAD-CHANNEL is named where neither LOAD
nor XHEAD is UP is the model's choice (assumption 56). Otherwise the sequencer is RUNNING in phase 0
with test time 0 and the time limit set, the specimen record being held; the list is open, Fm is seeded
with the force held, and the crosshead reference is the present position with a slip count of 0. The
phase's mode is requested, which the empty latch of an ARMED test lets through. That START's own strain
update ends no phase is the model's reading (assumption 13). The demand, the force, the zeros and every
table stay (R74, R90, R91, R97, R110). -/
def Obligations.StartRunsPhaseZero : Prop :=
  ∀ (dt : Nat) (tag : Byte) (s : State), Ready s →
    (∀ check : StartCheck, startAnswer s = some check →
      exec (.start dt tag []) s = .next
        (answered (detailReply .start tag .wrongState (.start check)) (later dt s))) ∧
    ∀ r : Specimen, startAnswer s = none → s.tsq.specimen = some r →
      ∃ t, exec (.start dt tag []) s = .next t ∧ ReplyFormed (plainReply .start tag .done) s t ∧
        t.tsq.state = .running ∧ t.tsq.phase = some 0 ∧ testTime t = 0 ∧ phaseTime t = 0 ∧
        t.tsq.limitAt = some (s.now + dt +
          (match armedProgram s with | some p => p.timeLimit * 1000000 | none => 0)) ∧
        t.tsq.specimen = some r ∧ t.evu.listOpen = true ∧
        (∃ m, t.evu.fm = some m ∧ m.force = s.lch.last.net) ∧
        t.exh.pRef = s.xhu.pos ∧ t.exh.slipCount = 0 ∧ t.exh.oe = 0 ∧ t.exh.reported.isSome = true ∧
        (∀ q : Phase, phaseAt s 0 = some q → latchEmpty s = true →
          t.tsq.phaseTimer = phaseLimit q ∧ Requested q r t) ∧
        t.xhu.demand = s.xhu.demand ∧ t.xhu.pos = s.xhu.pos ∧ t.lch = s.lch ∧
        t.exh.zeroA = s.exh.zeroA ∧ t.exh.zeroB = s.exh.zeroB ∧ t.pru.latch = s.pru.latch ∧
        t.oln = s.oln ∧ t.lif = s.lif ∧ t.tst = s.tst ∧ workingCopies t = workingCopies s

/-- HOLD in RUNNING goes to HELD: the Crosshead Unit is in HOLD with the demand unmoved, the phase and
its time stand; in HELD it is answered with no effect, elsewhere refused WRONG-STATE. RESUME in HELD
goes to RUNNING in the same phase and requests its mode anew; elsewhere it is refused. On both changes
LOAD-LOST is judged: where LOAD is lost, its condition CLEAR and its delay 0, it trips at once and the
test is TRIPPED. Test time runs on, and the forces, the zeros and every table stay (R95, R96, R139). -/
def Obligations.HoldAndResume : Prop :=
  ∀ (dt : Nat) (tag : Byte) (s : State), Ready s →
    (s.tsq.state = .running →
      ∃ t, exec (.hold dt tag []) s = .next t ∧ ReplyFormed (plainReply .hold tag .done) s t ∧
        (NoLoadLossNow s → t.tsq.state = .held ∧ t.pru.latch = s.pru.latch) ∧
        (¬ NoLoadLossNow s → latched t .loadLost = true ∧
          (latched s .loadLost = false → t.tsq.state = .tripped)) ∧
        t.tsq.phase = s.tsq.phase ∧ phaseTime t = phaseTime (later dt s) ∧
        testTime t = testTime (later dt s) ∧ t.tsq.phaseTimer = s.tsq.phaseTimer ∧
        t.xhu = { s.xhu with mode := .hold, a := 0, b := 0, target := none } ∧
        t.lch = s.lch ∧ t.exh = s.exh ∧ t.oln = s.oln ∧ t.lif = s.lif ∧ t.tst = s.tst ∧
        workingCopies t = workingCopies s) ∧
    (s.tsq.state = .held →
      exec (.hold dt tag []) s = .next (answered (plainReply .hold tag .done) (later dt s))) ∧
    (s.tsq.state ≠ .running → s.tsq.state ≠ .held →
      exec (.hold dt tag []) s = .next
        (answered (plainReply .hold tag .wrongState) (later dt s))) ∧
    (s.tsq.state = .held →
      ∃ t, exec (.resume dt tag []) s = .next t ∧ ReplyFormed (plainReply .resume tag .done) s t ∧
        (NoLoadLossNow s → t.tsq.state = .running ∧ t.pru.latch = s.pru.latch ∧
          ∀ (q : Phase) (r : Specimen), currentPhase s = some q → s.tsq.specimen = some r →
            latchEmpty s = true → Requested q r t) ∧
        (¬ NoLoadLossNow s → latched t .loadLost = true ∧
          (latched s .loadLost = false → t.tsq.state = .tripped ∧ t.xhu.mode = .hold)) ∧
        t.tsq.phase = s.tsq.phase ∧ phaseTime t = phaseTime s ∧
        testTime t = testTime (later dt s) ∧ t.tsq.phaseTimer = s.tsq.phaseTimer ∧
        t.xhu.demand = s.xhu.demand ∧ t.xhu.pos = s.xhu.pos ∧ t.lch = s.lch ∧ t.exh = s.exh ∧
        t.oln = s.oln ∧ t.lif = s.lif ∧ t.tst = s.tst ∧ workingCopies t = workingCopies s) ∧
    (s.tsq.state ≠ .held →
      exec (.resume dt tag []) s = .next
        (answered (plainReply .resume tag .wrongState) (later dt s)))

/-! ## The orders of the load channel, the extensometer and the crosshead -/

/-- TARE. A tare in progress refuses it BUSY, a state but IDLE and ARMED WRONG-STATE, and with LOAD not
UP it is answered FAILED with CHANNEL-LOST. Otherwise a tare is in progress with its tag, nothing summed
and 10 ms for the first sample, and the order stays outstanding without a reply. The tare sample timer
fails the tare with NO-SAMPLE: the tare value stays, no tare is in progress, its order is answered, and
its FAILED reply goes out on a FREE link or joins the queue. Nothing else changes. A LOAD sample of
usable quality is counted and its gross force summed, and the timer restarts; the sixteenth sets the
tare to the mean rounded to nearest and answers the order DONE with it. An OVERRANGE or NO-CAL sample
fails the tare, its value kept, with that cause (R28 to R30, R158). -/
def Obligations.TareRunsAndEnds : Prop :=
  (∀ (dt : Nat) (tag : Byte) (s : State), Ready s →
    exec (.tare dt tag []) s = .next
      (if s.lch.tareJob.isSome then answered (plainReply .tare tag .busy) (later dt s)
      else if s.tsq.state ≠ .idle ∧ s.tsq.state ≠ .armed then
        answered (plainReply .tare tag .wrongState) (later dt s)
      else if channelUp s .load = false then
        answered (detailReply .tare tag .failed (.tare .channelLost)) (later dt s)
      else
        { later dt s with
          lch := { s.lch with
            tareJob := some
              { tag := tag, count := 0, sum := 0, deadline := s.now + dt + 10000 } }
          cpt := { s.cpt with
            outstanding := s.cpt.outstanding ++
              [{ tag := tag, kind := orderCode .tare, answered := false }] } })) ∧
  (∀ (job : TareJob) (s : State), Settled s → s.lch.tareJob = some job →
    exec .tareSampleTimerExpiry s = .next
      { atExpiry job.deadline s with
        lch := { s.lch with tareJob := none }
        cpt := { s.cpt with
          outstanding := answerFirst job.tag (orderCode .tare) s.cpt.outstanding
          link := some (s.cpt.link.getD
            (.reply (detailReply .tare job.tag .failed (.tare .noSample))))
          replies :=
            match s.cpt.link with
            | none => []
            | some _ =>
              s.cpt.replies ++ [detailReply .tare job.tag .failed (.tare .noSample)] } }) ∧
  ∀ (dt : Nat) (lane : Lane) (rx : Reception) (f : SampleFrame) (job : TareJob) (s : State),
    Steered lane rx f .load s → s.lch.tareJob = some job →
      ∃ t, exec (.sample dt lane rx) s = .next t ∧
        let sum := job.sum + t.lch.last.gross
        let ended (r : Reply) : Prop := t.lch.tareJob = none ∧
          t.cpt.outstanding = answerFirst job.tag (orderCode .tare) s.cpt.outstanding ∧
          (t.cpt.link = some (.reply r) ∨ r ∈ t.cpt.replies)
        match t.lch.last.quality with
        | .overrange => t.lch.tare = s.lch.tare ∧
            ended (detailReply .tare job.tag .failed (.tare .overrange))
        | .noCal => t.lch.tare = s.lch.tare ∧
            ended (detailReply .tare job.tag .failed (.tare .noCal))
        | _ =>
          if job.count + 1 < 16 then
            t.lch.tare = s.lch.tare ∧ t.cpt.outstanding = s.cpt.outstanding ∧
              t.lch.tareJob = some
                { job with count := job.count + 1, sum := sum, deadline := s.now + dt + 10000 }
          else
            t.lch.tare = roundDiv sum 16 ∧ ended (payloadReply .tare job.tag (.tare (roundDiv sum 16)))

/-- EXT-ATTACH in IDLE or ARMED, or in HELD while not ATTACHED, with EXTSET VALID: the zeros are
discarded, the handler is SETTLING and the settle timer started; the strain leaves outside a test. An
arm in use that is not UP fails it at once, to DETACHED, with ATTACH-FAILED; the reply is ACCEPTED
either way. Elsewhere it is refused WRONG-STATE, or BLANK-TABLE, and nothing changes. The settle timer
opens zero averaging with counts and sums of 0; averaging still open 100 ms later fails the attach with
NO-SAMPLE, to DETACHED. That the notice of a failing attach starts on a FREE link before its order's
reply is formed is the model's reading (assumptions 6 and 7) (R67, R68, R70, R71). -/
def Obligations.AttachStartsSettling : Prop :=
  (∀ (deadline : Nat) (s : State), s.exh.settleAt = some deadline →
    exec .settleTimerExpiry s = .next
      { atExpiry deadline s with
        exh := { s.exh with
          settleAt := none
          averaging := some
            { armA := { count := 0, sum := 0 }, armB := { count := 0, sum := 0 }
              openedAt := max s.now deadline } } }) ∧
  (∀ (v : Averaging) (s : State), Settled s → s.exh.averaging = some v →
    exec .zeroAveragingTimeout s = .next
      (noticed .extensometer (.ext (.attachFailed .noSample))
        { atExpiry (v.openedAt + 100000) s with
          exh := { s.exh with handler := .detached, settleAt := none, averaging := none } })) ∧
  ∀ (dt : Nat) (tag : Byte) (s : State), Ready s →
    let allowed := s.tsq.state = .idle ∨ s.tsq.state = .armed ∨
      s.tsq.state = .held ∧ s.exh.handler ≠ .attached
    (¬ allowed → exec (.extAttach dt tag []) s = .next
      (answered (plainReply .extAttach tag .wrongState) (later dt s))) ∧
    (allowed → s.exh.extset = none → exec (.extAttach dt tag []) s = .next
      (answered (plainReply .extAttach tag .blankTable) (later dt s))) ∧
    ∀ x : ExtSet, allowed → s.exh.extset = some x →
      let cleared : Exh := { s.exh with
        averaging := none, zeroA := none, zeroB := none
        reported := if inTest s then s.exh.reported else none }
      exec (.extAttach dt tag []) s = .next
        (if channelUp s .extA = true ∧ (x.twoArm = true → channelUp s .extB = true) then
          answered (plainReply .extAttach tag .accepted)
            { later dt s with exh := { cleared with
                handler := .settling, settleAt := some (s.now + dt + x.settleMs.toNat * 1000) } }
        else
          answered (plainReply .extAttach tag .accepted)
            (noticed .extensometer (.ext (.attachFailed .channelLost))
              { later dt s with exh := { cleared with handler := .detached, settleAt := none } }))

/-- EXT-REMOVE is answered DONE whatever it finds. DETACHED and LOST go to OPENED with REMOVED; SETTLING
goes to OPENED with ATTACH-FAILED, its timer and averaging gone; OPENED stays. ATTACHED goes to OPENED:
outside a test no strain is reported, and during one the strain is crosshead-derived and, where the test
goes on, reported as such. That the notice starts on a FREE link before the order's reply is formed is
the model's reading (assumptions 6 and 7) (R76 to R78). -/
def Obligations.RemoveOpensArms : Prop :=
  ∀ (dt : Nat) (tag : Byte) (s : State), Ready s →
    let opened : State := { later dt s with exh := { s.exh with handler := .opened } }
    match s.exh.handler with
    | .opened => exec (.extRemove dt tag []) s = .next
        (answered (plainReply .extRemove tag .done) (later dt s))
    | .detached | .lost => exec (.extRemove dt tag []) s = .next
        (answered (plainReply .extRemove tag .done)
          (noticed .extensometer (.ext (.removed .order)) opened))
    | .settling => exec (.extRemove dt tag []) s = .next
        (answered (plainReply .extRemove tag .done)
          (noticed .extensometer (.ext (.attachFailed .removed))
            { opened with exh := { opened.exh with settleAt := none, averaging := none } }))
    | .attached =>
      (inTest s = false → exec (.extRemove dt tag []) s = .next
        (answered (plainReply .extRemove tag .done)
          (noticed .extensometer (.ext (.removed .order))
            { opened with exh := { opened.exh with reported := none } }))) ∧
      (inTest s = true →
        ∃ t, exec (.extRemove dt tag []) s = .next t ∧
          ReplyFormed (plainReply .extRemove tag .done) s t ∧ t.exh.handler = .opened ∧
          t.exh.ox = s.xhu.strain - rawCrossheadStrain s s.xhu.pos ∧
          (inTest t = true → t.exh.reported = some
            { value := clampSigned32 (rawCrossheadStrain s s.xhu.pos + t.exh.ox)
              source := .crosshead }) ∧
          t.exh.zeroA = s.exh.zeroA ∧ t.exh.zeroB = s.exh.zeroB ∧ t.xhu.demand = s.xhu.demand ∧
          t.lch.last = s.lch.last ∧ t.pru.latch = s.pru.latch ∧ t.oln = s.oln ∧ t.lif = s.lif ∧
          t.tst = s.tst ∧ workingCopies t = workingCopies s)

/-- JOG is refused, in this order, while a trip is latched, during a test, with the drive not enabled,
and above the jog maximum of XSET, a free value while XSET is BLANK (assumption 16); nothing changes
then. Otherwise a jog runs at the velocity for 250 ms, the remainder kept only in a jog that goes on in
the same sign; one that starts without LOAD, LOAD-LOST being CLEAR with a delay of 0, trips it at once.
It ends by JOG-STOP and by its deadline: HOLD with the demand unmoved and no notice. JOG-STOP without a
jog changes nothing (R52, R58 to R60, R139). -/
def Obligations.JogRunsAndEnds : Prop :=
  (∀ (v : Int) (deadline : Nat) (s : State), s.xhu.mode = .jog v deadline →
    exec .jogDeadlineExpiry s = .next (held (atExpiry deadline s))) ∧
  ∀ (dt : Nat) (tag : Byte) (s : State), Ready s →
    exec (.jogStop dt tag []) s = .next
      (answered (plainReply .jogStop tag .done)
        (if jogActive s then held (later dt s) else later dt s)) ∧
    ∀ a b c d : Byte,
      let maximum := match s.xhu.xset with
        | some x => x.jogMaximum
        | none => Config.jogMaximumWhileBlank
      let v := (BitVec.ofNat 32
        (((a.toNat * 256 + b.toNat) * 256 + c.toNat) * 256 + d.toNat)).toInt
      let refused (code : ReplyCode) : Prop := exec (.jog dt tag [a, b, c, d]) s = .next
        (answered (plainReply .jog tag code) (later dt s))
      if latchEmpty s = false then refused .conditionPresent
      else if inTest s = true then refused .wrongState
      else if s.xhu.lastEnable = false then refused .wrongState
      else if maximum < |v| then refused .badArgument
      else
        let quiet : Prop := jogActive s = true ∨ NoLoadLossNow s
        ∃ t, exec (.jog dt tag [a, b, c, d]) s = .next t ∧
          ReplyFormed (plainReply .jog tag .done) s t ∧
          (quiet → t.tsq = s.tsq ∧ t.pru.latch = s.pru.latch ∧ t.lch = s.lch ∧ t.xhu = { s.xhu with
            mode := .jog v (s.now + dt + 250000)
            a :=
              match jogVelocity s.xhu.mode with
              | none => 0
              | some old => if old * v < 0 then 0 else s.xhu.a
            b := 0
            target := none }) ∧
          (¬ quiet → latched t .loadLost = true ∧ t.xhu.mode = .hold ∧
            t.xhu.demand = s.xhu.demand) ∧
          t.lch.last = s.lch.last ∧ t.exh = s.exh ∧ t.evu = s.evu ∧ t.oln = s.oln ∧
          t.lif = s.lif ∧ t.tst = s.tst

/-! ## The orders of the protection unit, the lines and the stream -/

/-- CLEAR-TRIP on an empty latch is answered DONE with no effect, and is refused with the
lowest-numbered class that has not recovered. Otherwise the latch empties and the conditions are CLEAR;
a DUMP-class clear sets the demand to the position within the soft limits, where it was never set too
(the model's reading, assumption 15), and ends a TRIPPED test in ABORTED with cause TRIP; a HOLD-class
clear keeps the demand and takes TRIPPED to HELD, on which LOAD-LOST trips anew where LOAD is lost and
its delay 0. The forces and every table stay (R104, R139, R146, R147). -/
def Obligations.ClearTripEmptiesLatch : Prop :=
  ∀ (dt : Nat) (tag : Byte) (s : State), Ready s →
    (latchEmpty s = true → exec (.clearTrip dt tag []) s = .next
      (answered (plainReply .clearTrip tag .done) (later dt s))) ∧
    (∀ c : TripClass, latched s c = true → ¬ hasRecovered s c →
      (∀ d : TripClass, (tripNumber d).val < (tripNumber c).val → latched s d = true →
        hasRecovered s d) →
        exec (.clearTrip dt tag []) s = .next
          (answered (detailReply .clearTrip tag .conditionPresent (.tripClass c)) (later dt s))) ∧
    (latchEmpty s = false → (∀ c : TripClass, latched s c = true → hasRecovered s c) →
      let tripsAgain : Prop := s.tsq.state = .tripped ∧ dumpFunction s = false ∧
        channelUp s .load = false ∧ ∃ p, s.pru.protset = some p ∧ p.loadLossMs ≤ 0
      ∃ t, exec (.clearTrip dt tag []) s = .next t ∧
        ReplyFormed (plainReply .clearTrip tag .done) s t ∧
        (∀ c : TripClass, latched t c = true ↔ c = .loadLost ∧ tripsAgain) ∧
        (¬ tripsAgain → t.pru.history = s.pru.history) ∧
        (∀ c : TripClass, c ≠ .loadLost → condition t c = .clear) ∧
        t.xhu.demand =
          (if dumpFunction s then
            some (match s.xhu.xset with
              | some x => clamp x.softLower x.softUpper s.xhu.pos
              | none => s.xhu.pos)
          else s.xhu.demand) ∧
        (s.tsq.state = .tripped → dumpFunction s = true → t.tsq.state = .aborted ∧
          t.tsq.endCause = some .trip ∧ t.tsq.specimen = none ∧ t.xhu.mode = .hold) ∧
        (s.tsq.state = .tripped → dumpFunction s = false → ¬ tripsAgain → t.tsq.state = .held) ∧
        (tripsAgain → t.tsq.state = .tripped ∧ t.xhu.mode = .hold) ∧
        (s.tsq.state ≠ .tripped → t.tsq = s.tsq ∧ t.evu = s.evu) ∧
        t.lch.last = s.lch.last ∧ t.lch.tare = s.lch.tare ∧ t.xhu.pos = s.xhu.pos ∧
        t.oln = s.oln ∧ t.lif = s.lif ∧ t.tst = s.tst ∧ workingCopies t = workingCopies s)

/-- LINE-SET sets the manual level of a MANUAL line, which takes it at once; a line number past 3 is
refused BAD-ARGUMENT and a line with a function LINE-OWNED, nothing changing. The level is coded 0 for
ASSERTED and 1 for RELEASED, and the line number has four bytes (the model's choices, assumptions 19 and
20). A line with a function is ASSERTED exactly while the function is (R145, R150 to R152). -/
def Obligations.LinesFollow : Prop :=
  (∀ (dt : Nat) (tag a b c d : Byte) (level : LineLevel) (s : State), Ready s →
    let n := ((a.toNat * 256 + b.toNat) * 256 + c.toNat) * 256 + d.toNat
    let args : List Byte := [a, b, c, d, if level = .asserted then 0 else 1]
    (4 ≤ n → exec (.lineSet dt tag args) s = .next
      (answered (plainReply .lineSet tag .badArgument) (later dt s))) ∧
    ∀ h : n < 4,
      (lineFunction s ⟨n, h⟩ ≠ .manual → exec (.lineSet dt tag args) s = .next
        (answered (plainReply .lineSet tag .lineOwned) (later dt s))) ∧
      (lineFunction s ⟨n, h⟩ = .manual →
        ∃ t, exec (.lineSet dt tag args) s = .next t ∧ lineLevel t ⟨n, h⟩ = level ∧
          t = answered (plainReply .lineSet tag .done)
            { later dt s with oln := { s.oln with manual := s.oln.manual.set n level } })) ∧
  ∀ (s : State) (i : Fin 4),
    (lineFunction s i = .manual → lineLevel s i = s.oln.manual[i]) ∧
    (lineFunction s i = .extOpen → (lineLevel s i = .asserted ↔ s.exh.handler = .opened)) ∧
    (lineFunction s i = .dump →
      (lineLevel s i = .asserted ↔ ∃ c, isDump c = true ∧ latched s c = true)) ∧
    (lineFunction s i = .tripLamp → (lineLevel s i = .asserted ↔ ∃ c, latched s c = true)) ∧
    (lineFunction s i = .testActive → (lineLevel s i = .asserted ↔
      s.tsq.state = .running ∨ s.tsq.state = .held ∨ s.tsq.state = .tripped))

/-- STREAM-SET with N from 1 to 64 sets the stream and N, counts force updates from 0, drops a frame
still due, and runs the fallback timer for N × 250 µs exactly where the stream is on and LOAD not UP;
the peak and the sequence stay. Another N is refused BAD-ARGUMENT and nothing changes. The flag is coded
0 for on and 1 for off, and N has four bytes (the model's choices, assumptions 19 and 20) (R166). -/
def Obligations.StreamSetActs : Prop :=
  ∀ (dt : Nat) (tag a b c d : Byte) (on : Bool) (s : State), Ready s →
    let n := ((a.toNat * 256 + b.toNat) * 256 + c.toNat) * 256 + d.toNat
    exec (.streamSet dt tag [if on then 0 else 1, a, b, c, d]) s = .next
      (if 1 ≤ n ∧ n ≤ 64 then
        answered (plainReply .streamSet tag .done)
          { later dt s with cpt := { s.cpt with
              streamOn := on, decimation := n, count := 0, due := false
              fallbackAt :=
                if on = true ∧ channelUp s .load = false then some (s.now + dt + n * 250)
                else none } }
      else answered (plainReply .streamSet tag .badArgument) (later dt s))

/-- RESTART ends a test in ABORTED with cause RESTART, the yield search and the list closed, FMAX
recorded without a notice and the summary completed; it takes ARMED to IDLE, and keeps another state.
The mode is HOLD, the accumulators 0, and the demand, the position, the lane states, the latch, the
history, the tare, every working copy and the port's counts, settings, due flag, peak force and frame
sequence stay. The extensometer is DETACHED but where it was OPENED, with no strain reported; the
session is CLOSED, the conditions CLEAR, the dwell timer stopped; the pending notices are gone, but with
a trip latched TRIP is raised again with the lowest-numbered latched class, counted once: in
transmission at once on a FREE link, before the reply is formed (the model's reading, assumptions 6 and
7), and pending on a BUSY one (R17, R40, R62, R84, R107, R126, R132, R153, R154, R168, R178). -/
def Obligations.RestartActsOnBlocks : Prop :=
  ∀ (dt : Nat) (tag : Byte) (s : State), Ready s →
    ∃ t, exec (.restart dt tag []) s = .next t ∧ ReplyFormed (plainReply .restart tag .done) s t ∧
      t.tsq.state =
        (if inTest s then .aborted else if s.tsq.state = .armed then .idle else s.tsq.state) ∧
      t.tsq.endCause = (if inTest s then some .restart else s.tsq.endCause) ∧
      testTime t = testTime (later dt s) ∧
      (inTest s = true ∨ s.tsq.state = .armed → t.tsq.specimen = none) ∧
      (inTest s = false → s.tsq.state ≠ .armed → t.tsq = s.tsq) ∧
      (inTest s = false → t.evu = s.evu) ∧
      (inTest s = true → EvaluationClosed .aborted .restart s t) ∧
      (∀ n : NoticeFrame, t.cpt.link = some (.notice n) → s.cpt.link = none → n.source = .trip) ∧
      t.xhu = { s.xhu with mode := .hold, a := 0, b := 0, target := none } ∧
      t.exh.handler = (if s.exh.handler = .opened then .opened else .detached) ∧
      t.exh.reported = none ∧
      (s.exh.handler = .settling ∨ s.exh.handler = .attached ∨ s.exh.handler = .lost →
        t.exh.zeroA = none ∧ t.exh.zeroB = none ∧ t.exh.settleAt = none ∧
          t.exh.averaging = none) ∧
      t.lch.dwell = none ∧ t.lch.last = s.lch.last ∧ t.lch.tare = s.lch.tare ∧
      t.lch.tareJob = s.lch.tareJob ∧ t.lch.requested = s.lch.requested ∧
      t.lch.repeatAt = s.lch.repeatAt ∧ t.lif = s.lif ∧ t.rtb.route = s.rtb.route ∧
      t.pru.latch = s.pru.latch ∧ t.pru.history = s.pru.history ∧
      (∀ c : TripClass, condition t c = .clear) ∧ t.pru.loadLossAt = none ∧ t.oln = s.oln ∧
      t.tst = s.tst ∧ workingCopies t = workingCopies s ∧ t.cpt.session = none ∧
      (∀ src : Source, src ≠ .trip → t.ntu.records[sourceNumber src] = none) ∧
      (latchEmpty s = true ∨ noticeLevel s .trip = .off →
        t.ntu.records[sourceNumber .trip] = none) ∧
      (∀ c : TripClass, latched s c = true →
        (∀ d : TripClass, (tripNumber d).val < (tripNumber c).val → latched s d = false) →
        noticeLevel s .trip ≠ .off →
          (s.cpt.link = none → t.ntu.records[sourceNumber .trip] = none ∧
            t.cpt.link = some (.notice
              { source := .trip, level := noticeLevel s .trip, detail := .tripped c, count := 1
                time := BitVec.ofNat 32 (s.now + dt) })) ∧
          (s.cpt.link.isSome = true → t.ntu.records[sourceNumber .trip] = some
            { detail := .tripped c, count := 1, time := BitVec.ofNat 48 (s.now + dt) })) ∧
      t.cpt.checkFailures = s.cpt.checkFailures ∧ t.cpt.overruns = s.cpt.overruns ∧
      t.cpt.coalesced = s.cpt.coalesced ∧ t.cpt.streamOn = s.cpt.streamOn ∧
      t.cpt.decimation = s.cpt.decimation ∧ t.cpt.count = s.cpt.count ∧
      t.cpt.fallbackAt = s.cpt.fallbackAt ∧ t.cpt.due = s.cpt.due ∧ t.cpt.peak = s.cpt.peak ∧
      t.cpt.sequence = s.cpt.sequence

/-! ## Evaluation -/

/-- A force update during a test that the test outlives reaches the EVU: the Fm record carries the
greatest force, break detection is armed by an Fm at or above the break arm force and stays so, and the
window holds the last four forces, the oldest going first (R110, R120). -/
def Obligations.ForceUpdateReachesRecords : Prop :=
  ∀ (dt : Nat) (lane : Lane) (rx : Reception) (f : SampleFrame) (s : State),
    Steered lane rx f .load s → inTest s = true →
      ∃ t, exec (.sample dt lane rx) s = .next t ∧
        (inTest t = true →
          (∃ m, t.evu.fm = some m ∧
            m.force = max ((s.evu.fm.map EvalSample.force).getD t.lch.last.net) t.lch.last.net ∧
            ∀ r : Specimen, s.tsq.specimen = some r →
              t.evu.breakArmed = (s.evu.breakArmed || decide (r.breakArm ≤ m.force))) ∧
          t.evu.window =
            (if 4 ≤ s.evu.window.length then s.evu.window.drop (s.evu.window.length - 3)
              else s.evu.window) ++ [t.lch.last.net])

/-- The evaluations of a sample. The yield search in RISING: below the search limit the Fy record
follows the greatest force; a drop of the yield drop from a Fy at or above the yield minimum force makes
it the upper yield point, and the search leaves RISING; without one the search stays. At the search
limit the search closes. A force update in RUNNING, with a strain before it and the test going on after,
moves the search so; in PLATEAU the lowest force that is not transient is the candidate, and a rise by
the margin above it, or a force back at ReH, ends the plateau with ReL and Ae; the chord takes its two
points at the stresses asked for, gives the modulus of a valid slope, and starts the proof; a watched
proof is found where its line is crossed (R112 to R115, R117 to R119). -/
def Obligations.EvaluationsJudgeSample : Prop :=
  (∀ (r : Specimen) (strain : Int) (x : EvalSample) (s : State), s.evu.search = .rising →
    (r.searchLimit ≤ strain → searchYield r strain x s =
      { s with evu := { s.evu with search := .closed } }) ∧
    (strain < r.searchLimit →
      ∃ fy : EvalSample,
        (fy = x ∨ s.evu.fy = some fy) ∧ x.force ≤ fy.force ∧
        (∀ y, s.evu.fy = some y → y.force ≤ fy.force) ∧
        if r.yieldMinForce ≤ fy.force ∧ x.force * 10000 < fy.force * (10000 - r.yieldDrop) then
          (searchYield r strain x s).evu.reh = some fy ∧
            (searchYield r strain x s).evu.result.reh =
              some { force := fy.force, stress := fy.stress } ∧
            (searchYield r strain x s).evu.search ≠ .rising
        else searchYield r strain x s = { s with evu := { s.evu with fy := some fy } })) ∧
  ∀ (dt : Nat) (lane : Lane) (rx : Reception) (f : SampleFrame) (r : Specimen) (st : Strain) (s : State),
    TestInvariant s → Steered lane rx f .load s → s.tsq.state = .running →
    s.tsq.specimen = some r → s.evu.strain = some st →
      ∃ t, exec (.sample dt lane rx) s = .next t ∧ (t.tsq.state = .running →
        let force := t.lch.last.net
        let stress := clampSigned32 (roundDiv (force * 10000) r.s0)
        (s.evu.search = .rising →
          let greatest := max ((s.evu.fy.map EvalSample.force).getD force) force
          if r.searchLimit ≤ st.value then t.evu.search = .closed ∧ t.evu.fy = s.evu.fy
          else
            t.evu.fy.map EvalSample.force = some greatest ∧
              if r.yieldMinForce ≤ greatest ∧ force * 10000 < greatest * (10000 - r.yieldDrop) then
                t.evu.search ≠ .rising ∧ t.evu.result.reh.map ForceStress.force = some greatest
              else t.evu.search = .rising ∧ t.evu.result.reh = s.evu.result.reh) ∧
        (∀ reh : EvalSample, s.evu.search = .plateau → s.evu.reh = some reh →
          st.value < r.searchLimit →
          let start := (reh.strain.map Strain.value).getD 0
          let low :=
            if st.value ≤ start + r.transient then s.evu.candidate.map EvalSample.force
            else some (min force ((s.evu.candidate.map EvalSample.force).getD force))
          if (∃ c, low = some c ∧ c * 10000 + reh.force * r.riseMargin ≤ force * 10000) ∨
              reh.force ≤ force then
            t.evu.search = .closed ∧ t.evu.result.ae = some (clampSigned32 (st.value - start)) ∧
              (low.isSome = true → t.evu.result.rel.map ForceStress.force = low)
          else t.evu.search = .plateau ∧ t.evu.candidate.map EvalSample.force = low) ∧
        (s.evu.chord = .waitingLow →
          if r.sigmaLow ≤ stress then
            t.evu.chord = .waitingHigh ∧
              t.evu.point1 = some { stress := stress, strain := st.value }
          else t.evu.chord = .waitingLow) ∧
        (∀ p : ChordPoint, s.evu.chord = .waitingHigh → s.evu.point1 = some p →
          if r.sigmaHigh ≤ stress then
            t.evu.chord = .complete ∧
              t.evu.point2 = some { stress := stress, strain := st.value } ∧
              (if p.strain < st.value ∧ p.stress < stress then
                t.evu.result.modulusStatus = .valid ∧
                  t.evu.result.modulus = some (min 2147483647
                    (roundDiv ((stress - p.stress) * 100000) (st.value - p.strain))) ∧
                  (r.proofOffset ≠ 0 → t.evu.proof = .watching)
              else t.evu.result.modulusStatus = .invalid ∧ t.evu.result.modulus = none)
          else t.evu.chord = .waitingHigh) ∧
        ∀ p q : ChordPoint, s.evu.chord = .complete → s.evu.proof = .watching →
          s.evu.point1 = some p → s.evu.point2 = some q →
          if r.proofOffset * (q.stress - p.stress) ≤
              (st.value - p.strain) * (q.stress - p.stress)
                - (stress - p.stress) * (q.strain - p.strain) then
            t.evu.proof = .found ∧ t.evu.result.rp = some stress
          else t.evu.proof = .watching)

/-- A force update in RUNNING or HELD that shows a break, with break detection armed and no break seen:
a force at or below the break fraction of Fm, or below the oldest force of the window by more than the
break drop. The crosshead is in HOLD and the test ENDED with cause BREAK and the break force in the
result, unless a trip on the same update takes it to TRIPPED first or, in RUNNING, the last phase ends
on it (R99, R103, R120 to R122). -/
def Obligations.BreakEndsTest : Prop :=
  ∀ (dt : Nat) (lane : Lane) (rx : Reception) (f : SampleFrame) (r : Specimen) (s : State),
    Steered lane rx f .load s → s.tsq.state = .running ∨ s.tsq.state = .held →
    s.tsq.specimen = some r → s.evu.breakArmed = true → s.evu.breakSeen = false →
      ∃ t, exec (.sample dt lane rx) s = .next t ∧
        let force := t.lch.last.net
        let greatest := max ((s.evu.fm.map EvalSample.force).getD force) force
        (force * 10000 ≤ greatest * r.breakFraction ∨
          (∃ old, 3 ≤ s.evu.window.length ∧
            s.evu.window[s.evu.window.length - 3]? = some old ∧ r.breakDrop < old - force) →
          t.xhu.mode = .hold ∧
            (t.tsq.state = .ended ∧ t.tsq.endCause = some .breakFound ∧
                t.evu.result.breakForce = some force ∨
              t.tsq.state = .tripped ∧ latchEmpty t = false ∨
              s.tsq.state = .running ∧ t.tsq.state = .ended ∧ t.tsq.endCause = some .programEnd))

/-! ## Invariants -/

/-- The state after power-on, with stored copies never written, meets every invariant stated below. -/
def Obligations.ResetMeetsInvariants : Prop :=
  LinkInvariant State.reset ∧ TestInvariant State.reset ∧ CountInvariant State.reset

/-- Every step keeps the controller link's invariant: nothing waits on a FREE link, no notice is pending
at an OFF source, at most four orders are outstanding, and a pending notice counts 1 to 255 occurrences
(R157, R159, R170, R171). -/
def Obligations.StepKeepsLinkInvariant : Prop :=
  ∀ s t : State, LinkInvariant s → step s = .next t → LinkInvariant t

/-- Every step keeps the sequencer's invariant: the trip latch is empty in ARMED, RUNNING and HELD, the
specimen record is held from ARM to the end of the test and at no other time, the crosshead is in HOLD
but in RUNNING and during a jog, which no test state allows, the latest strain of a test is the one the
Crosshead Unit holds, within 32 bits, and the proof is watched only with the chord complete (R52, R58,
R72, R98, R102, R109, R119). -/
def Obligations.StepKeepsTestInvariant : Prop :=
  ∀ s t : State, TestInvariant s → step s = .next t → TestInvariant t

/-- Every step keeps the counts within their fields, the silence timer of a lane running exactly while
the lane is UP, and the milestone list within its twenty-four records, two of them reserved for FMAX and
BREAK, with each limited kind at most once, and PHASE-END at most once for each phase index (R4, R6,
R80, R124, R148, R155, R157, R163). -/
def Obligations.StepKeepsCountInvariant : Prop :=
  ∀ s t : State, CountInvariant s → step s = .next t → CountInvariant t

/-- No command but POWER_ON and the start-up recall changes the working copy of a table that is in use
when it is taken, or its edition: commits and recalls leave it, and the command that ends the use too
(R186). -/
def Obligations.TablesInUseStay : Prop :=
  ∀ (i : Instr) (s t : State) (x : TableId), exec i s = .next t → i ≠ .powerOn →
    storeStarting s = false → tableInUse s x = true →
      tableEntries x (workingCopies t) = tableEntries x (workingCopies s) ∧
        t.tst.editions[tableNumber x] = s.tst.editions[tableNumber x]

/-- While the trip latch is not empty the demand does not change, whatever the command, once it is set
and within the soft limits, the crosshead being in HOLD; it is not enabled while a DUMP-class class is
latched (R47, R48, R145). -/
def Obligations.LatchFreezesDemand : Prop :=
  ∀ (i : Instr) (s t : State) (p : Int), exec i s = .next t → i ≠ .powerOn →
    latchEmpty s = false → latchEmpty t = false → s.xhu.mode = .hold → s.xhu.demand = some p →
    (∀ x : XSet, s.xhu.xset = some x → x.softLower ≤ p ∧ p ≤ x.softUpper) →
      t.xhu.demand = some p ∧
        ∀ enable moving d, (4, LaneOut.demand enable moving d) ∈ t.sent →
          d = p ∧ (dumpFunction s = true → enable = false)
end

