-- ==== Sys2Proof/Laws/State.lean ====
section
/-!
SUPPORT. Reading a field after a state update: one lemma per field per update, each true by `rfl`.
-/

namespace Sys2Proof.Machine

variable (s : State)

@[simp] theorem State.setLif_pending (x : Lif) : (s.setLif x).pending = s.pending := rfl
@[simp] theorem State.setLif_now (x : Lif) : (s.setLif x).now = s.now := rfl
@[simp] theorem State.setLif_sent (x : Lif) : (s.setLif x).sent = s.sent := rfl
@[simp] theorem State.setLif_choices (x : Lif) : (s.setLif x).choices = s.choices := rfl
@[simp] theorem State.setLif_lif (x : Lif) : (s.setLif x).lif = x := rfl
@[simp] theorem State.setLif_rtb (x : Lif) : (s.setLif x).rtb = s.rtb := rfl
@[simp] theorem State.setLif_lch (x : Lif) : (s.setLif x).lch = s.lch := rfl
@[simp] theorem State.setLif_xhu (x : Lif) : (s.setLif x).xhu = s.xhu := rfl
@[simp] theorem State.setLif_exh (x : Lif) : (s.setLif x).exh = s.exh := rfl
@[simp] theorem State.setLif_tsq (x : Lif) : (s.setLif x).tsq = s.tsq := rfl
@[simp] theorem State.setLif_evu (x : Lif) : (s.setLif x).evu = s.evu := rfl
@[simp] theorem State.setLif_pru (x : Lif) : (s.setLif x).pru = s.pru := rfl
@[simp] theorem State.setLif_oln (x : Lif) : (s.setLif x).oln = s.oln := rfl
@[simp] theorem State.setLif_cpt (x : Lif) : (s.setLif x).cpt = s.cpt := rfl
@[simp] theorem State.setLif_ntu (x : Lif) : (s.setLif x).ntu = s.ntu := rfl
@[simp] theorem State.setLif_tst (x : Lif) : (s.setLif x).tst = s.tst := rfl

@[simp] theorem State.setRtb_pending (x : Rtb) : (s.setRtb x).pending = s.pending := rfl
@[simp] theorem State.setRtb_now (x : Rtb) : (s.setRtb x).now = s.now := rfl
@[simp] theorem State.setRtb_sent (x : Rtb) : (s.setRtb x).sent = s.sent := rfl
@[simp] theorem State.setRtb_choices (x : Rtb) : (s.setRtb x).choices = s.choices := rfl
@[simp] theorem State.setRtb_lif (x : Rtb) : (s.setRtb x).lif = s.lif := rfl
@[simp] theorem State.setRtb_rtb (x : Rtb) : (s.setRtb x).rtb = x := rfl
@[simp] theorem State.setRtb_lch (x : Rtb) : (s.setRtb x).lch = s.lch := rfl
@[simp] theorem State.setRtb_xhu (x : Rtb) : (s.setRtb x).xhu = s.xhu := rfl
@[simp] theorem State.setRtb_exh (x : Rtb) : (s.setRtb x).exh = s.exh := rfl
@[simp] theorem State.setRtb_tsq (x : Rtb) : (s.setRtb x).tsq = s.tsq := rfl
@[simp] theorem State.setRtb_evu (x : Rtb) : (s.setRtb x).evu = s.evu := rfl
@[simp] theorem State.setRtb_pru (x : Rtb) : (s.setRtb x).pru = s.pru := rfl
@[simp] theorem State.setRtb_oln (x : Rtb) : (s.setRtb x).oln = s.oln := rfl
@[simp] theorem State.setRtb_cpt (x : Rtb) : (s.setRtb x).cpt = s.cpt := rfl
@[simp] theorem State.setRtb_ntu (x : Rtb) : (s.setRtb x).ntu = s.ntu := rfl
@[simp] theorem State.setRtb_tst (x : Rtb) : (s.setRtb x).tst = s.tst := rfl

@[simp] theorem State.setLch_pending (x : Lch) : (s.setLch x).pending = s.pending := rfl
@[simp] theorem State.setLch_now (x : Lch) : (s.setLch x).now = s.now := rfl
@[simp] theorem State.setLch_sent (x : Lch) : (s.setLch x).sent = s.sent := rfl
@[simp] theorem State.setLch_choices (x : Lch) : (s.setLch x).choices = s.choices := rfl
@[simp] theorem State.setLch_lif (x : Lch) : (s.setLch x).lif = s.lif := rfl
@[simp] theorem State.setLch_rtb (x : Lch) : (s.setLch x).rtb = s.rtb := rfl
@[simp] theorem State.setLch_lch (x : Lch) : (s.setLch x).lch = x := rfl
@[simp] theorem State.setLch_xhu (x : Lch) : (s.setLch x).xhu = s.xhu := rfl
@[simp] theorem State.setLch_exh (x : Lch) : (s.setLch x).exh = s.exh := rfl
@[simp] theorem State.setLch_tsq (x : Lch) : (s.setLch x).tsq = s.tsq := rfl
@[simp] theorem State.setLch_evu (x : Lch) : (s.setLch x).evu = s.evu := rfl
@[simp] theorem State.setLch_pru (x : Lch) : (s.setLch x).pru = s.pru := rfl
@[simp] theorem State.setLch_oln (x : Lch) : (s.setLch x).oln = s.oln := rfl
@[simp] theorem State.setLch_cpt (x : Lch) : (s.setLch x).cpt = s.cpt := rfl
@[simp] theorem State.setLch_ntu (x : Lch) : (s.setLch x).ntu = s.ntu := rfl
@[simp] theorem State.setLch_tst (x : Lch) : (s.setLch x).tst = s.tst := rfl

@[simp] theorem State.setXhu_pending (x : Xhu) : (s.setXhu x).pending = s.pending := rfl
@[simp] theorem State.setXhu_now (x : Xhu) : (s.setXhu x).now = s.now := rfl
@[simp] theorem State.setXhu_sent (x : Xhu) : (s.setXhu x).sent = s.sent := rfl
@[simp] theorem State.setXhu_choices (x : Xhu) : (s.setXhu x).choices = s.choices := rfl
@[simp] theorem State.setXhu_lif (x : Xhu) : (s.setXhu x).lif = s.lif := rfl
@[simp] theorem State.setXhu_rtb (x : Xhu) : (s.setXhu x).rtb = s.rtb := rfl
@[simp] theorem State.setXhu_lch (x : Xhu) : (s.setXhu x).lch = s.lch := rfl
@[simp] theorem State.setXhu_xhu (x : Xhu) : (s.setXhu x).xhu = x := rfl
@[simp] theorem State.setXhu_exh (x : Xhu) : (s.setXhu x).exh = s.exh := rfl
@[simp] theorem State.setXhu_tsq (x : Xhu) : (s.setXhu x).tsq = s.tsq := rfl
@[simp] theorem State.setXhu_evu (x : Xhu) : (s.setXhu x).evu = s.evu := rfl
@[simp] theorem State.setXhu_pru (x : Xhu) : (s.setXhu x).pru = s.pru := rfl
@[simp] theorem State.setXhu_oln (x : Xhu) : (s.setXhu x).oln = s.oln := rfl
@[simp] theorem State.setXhu_cpt (x : Xhu) : (s.setXhu x).cpt = s.cpt := rfl
@[simp] theorem State.setXhu_ntu (x : Xhu) : (s.setXhu x).ntu = s.ntu := rfl
@[simp] theorem State.setXhu_tst (x : Xhu) : (s.setXhu x).tst = s.tst := rfl

@[simp] theorem State.setExh_pending (x : Exh) : (s.setExh x).pending = s.pending := rfl
@[simp] theorem State.setExh_now (x : Exh) : (s.setExh x).now = s.now := rfl
@[simp] theorem State.setExh_sent (x : Exh) : (s.setExh x).sent = s.sent := rfl
@[simp] theorem State.setExh_choices (x : Exh) : (s.setExh x).choices = s.choices := rfl
@[simp] theorem State.setExh_lif (x : Exh) : (s.setExh x).lif = s.lif := rfl
@[simp] theorem State.setExh_rtb (x : Exh) : (s.setExh x).rtb = s.rtb := rfl
@[simp] theorem State.setExh_lch (x : Exh) : (s.setExh x).lch = s.lch := rfl
@[simp] theorem State.setExh_xhu (x : Exh) : (s.setExh x).xhu = s.xhu := rfl
@[simp] theorem State.setExh_exh (x : Exh) : (s.setExh x).exh = x := rfl
@[simp] theorem State.setExh_tsq (x : Exh) : (s.setExh x).tsq = s.tsq := rfl
@[simp] theorem State.setExh_evu (x : Exh) : (s.setExh x).evu = s.evu := rfl
@[simp] theorem State.setExh_pru (x : Exh) : (s.setExh x).pru = s.pru := rfl
@[simp] theorem State.setExh_oln (x : Exh) : (s.setExh x).oln = s.oln := rfl
@[simp] theorem State.setExh_cpt (x : Exh) : (s.setExh x).cpt = s.cpt := rfl
@[simp] theorem State.setExh_ntu (x : Exh) : (s.setExh x).ntu = s.ntu := rfl
@[simp] theorem State.setExh_tst (x : Exh) : (s.setExh x).tst = s.tst := rfl

@[simp] theorem State.setTsq_pending (x : Tsq) : (s.setTsq x).pending = s.pending := rfl
@[simp] theorem State.setTsq_now (x : Tsq) : (s.setTsq x).now = s.now := rfl
@[simp] theorem State.setTsq_sent (x : Tsq) : (s.setTsq x).sent = s.sent := rfl
@[simp] theorem State.setTsq_choices (x : Tsq) : (s.setTsq x).choices = s.choices := rfl
@[simp] theorem State.setTsq_lif (x : Tsq) : (s.setTsq x).lif = s.lif := rfl
@[simp] theorem State.setTsq_rtb (x : Tsq) : (s.setTsq x).rtb = s.rtb := rfl
@[simp] theorem State.setTsq_lch (x : Tsq) : (s.setTsq x).lch = s.lch := rfl
@[simp] theorem State.setTsq_xhu (x : Tsq) : (s.setTsq x).xhu = s.xhu := rfl
@[simp] theorem State.setTsq_exh (x : Tsq) : (s.setTsq x).exh = s.exh := rfl
@[simp] theorem State.setTsq_tsq (x : Tsq) : (s.setTsq x).tsq = x := rfl
@[simp] theorem State.setTsq_evu (x : Tsq) : (s.setTsq x).evu = s.evu := rfl
@[simp] theorem State.setTsq_pru (x : Tsq) : (s.setTsq x).pru = s.pru := rfl
@[simp] theorem State.setTsq_oln (x : Tsq) : (s.setTsq x).oln = s.oln := rfl
@[simp] theorem State.setTsq_cpt (x : Tsq) : (s.setTsq x).cpt = s.cpt := rfl
@[simp] theorem State.setTsq_ntu (x : Tsq) : (s.setTsq x).ntu = s.ntu := rfl
@[simp] theorem State.setTsq_tst (x : Tsq) : (s.setTsq x).tst = s.tst := rfl

@[simp] theorem State.setEvu_pending (x : Evu) : (s.setEvu x).pending = s.pending := rfl
@[simp] theorem State.setEvu_now (x : Evu) : (s.setEvu x).now = s.now := rfl
@[simp] theorem State.setEvu_sent (x : Evu) : (s.setEvu x).sent = s.sent := rfl
@[simp] theorem State.setEvu_choices (x : Evu) : (s.setEvu x).choices = s.choices := rfl
@[simp] theorem State.setEvu_lif (x : Evu) : (s.setEvu x).lif = s.lif := rfl
@[simp] theorem State.setEvu_rtb (x : Evu) : (s.setEvu x).rtb = s.rtb := rfl
@[simp] theorem State.setEvu_lch (x : Evu) : (s.setEvu x).lch = s.lch := rfl
@[simp] theorem State.setEvu_xhu (x : Evu) : (s.setEvu x).xhu = s.xhu := rfl
@[simp] theorem State.setEvu_exh (x : Evu) : (s.setEvu x).exh = s.exh := rfl
@[simp] theorem State.setEvu_tsq (x : Evu) : (s.setEvu x).tsq = s.tsq := rfl
@[simp] theorem State.setEvu_evu (x : Evu) : (s.setEvu x).evu = x := rfl
@[simp] theorem State.setEvu_pru (x : Evu) : (s.setEvu x).pru = s.pru := rfl
@[simp] theorem State.setEvu_oln (x : Evu) : (s.setEvu x).oln = s.oln := rfl
@[simp] theorem State.setEvu_cpt (x : Evu) : (s.setEvu x).cpt = s.cpt := rfl
@[simp] theorem State.setEvu_ntu (x : Evu) : (s.setEvu x).ntu = s.ntu := rfl
@[simp] theorem State.setEvu_tst (x : Evu) : (s.setEvu x).tst = s.tst := rfl

@[simp] theorem State.setPru_pending (x : Pru) : (s.setPru x).pending = s.pending := rfl
@[simp] theorem State.setPru_now (x : Pru) : (s.setPru x).now = s.now := rfl
@[simp] theorem State.setPru_sent (x : Pru) : (s.setPru x).sent = s.sent := rfl
@[simp] theorem State.setPru_choices (x : Pru) : (s.setPru x).choices = s.choices := rfl
@[simp] theorem State.setPru_lif (x : Pru) : (s.setPru x).lif = s.lif := rfl
@[simp] theorem State.setPru_rtb (x : Pru) : (s.setPru x).rtb = s.rtb := rfl
@[simp] theorem State.setPru_lch (x : Pru) : (s.setPru x).lch = s.lch := rfl
@[simp] theorem State.setPru_xhu (x : Pru) : (s.setPru x).xhu = s.xhu := rfl
@[simp] theorem State.setPru_exh (x : Pru) : (s.setPru x).exh = s.exh := rfl
@[simp] theorem State.setPru_tsq (x : Pru) : (s.setPru x).tsq = s.tsq := rfl
@[simp] theorem State.setPru_evu (x : Pru) : (s.setPru x).evu = s.evu := rfl
@[simp] theorem State.setPru_pru (x : Pru) : (s.setPru x).pru = x := rfl
@[simp] theorem State.setPru_oln (x : Pru) : (s.setPru x).oln = s.oln := rfl
@[simp] theorem State.setPru_cpt (x : Pru) : (s.setPru x).cpt = s.cpt := rfl
@[simp] theorem State.setPru_ntu (x : Pru) : (s.setPru x).ntu = s.ntu := rfl
@[simp] theorem State.setPru_tst (x : Pru) : (s.setPru x).tst = s.tst := rfl

@[simp] theorem State.setOln_pending (x : Oln) : (s.setOln x).pending = s.pending := rfl
@[simp] theorem State.setOln_now (x : Oln) : (s.setOln x).now = s.now := rfl
@[simp] theorem State.setOln_sent (x : Oln) : (s.setOln x).sent = s.sent := rfl
@[simp] theorem State.setOln_choices (x : Oln) : (s.setOln x).choices = s.choices := rfl
@[simp] theorem State.setOln_lif (x : Oln) : (s.setOln x).lif = s.lif := rfl
@[simp] theorem State.setOln_rtb (x : Oln) : (s.setOln x).rtb = s.rtb := rfl
@[simp] theorem State.setOln_lch (x : Oln) : (s.setOln x).lch = s.lch := rfl
@[simp] theorem State.setOln_xhu (x : Oln) : (s.setOln x).xhu = s.xhu := rfl
@[simp] theorem State.setOln_exh (x : Oln) : (s.setOln x).exh = s.exh := rfl
@[simp] theorem State.setOln_tsq (x : Oln) : (s.setOln x).tsq = s.tsq := rfl
@[simp] theorem State.setOln_evu (x : Oln) : (s.setOln x).evu = s.evu := rfl
@[simp] theorem State.setOln_pru (x : Oln) : (s.setOln x).pru = s.pru := rfl
@[simp] theorem State.setOln_oln (x : Oln) : (s.setOln x).oln = x := rfl
@[simp] theorem State.setOln_cpt (x : Oln) : (s.setOln x).cpt = s.cpt := rfl
@[simp] theorem State.setOln_ntu (x : Oln) : (s.setOln x).ntu = s.ntu := rfl
@[simp] theorem State.setOln_tst (x : Oln) : (s.setOln x).tst = s.tst := rfl

@[simp] theorem State.setCpt_pending (x : Cpt) : (s.setCpt x).pending = s.pending := rfl
@[simp] theorem State.setCpt_now (x : Cpt) : (s.setCpt x).now = s.now := rfl
@[simp] theorem State.setCpt_sent (x : Cpt) : (s.setCpt x).sent = s.sent := rfl
@[simp] theorem State.setCpt_choices (x : Cpt) : (s.setCpt x).choices = s.choices := rfl
@[simp] theorem State.setCpt_lif (x : Cpt) : (s.setCpt x).lif = s.lif := rfl
@[simp] theorem State.setCpt_rtb (x : Cpt) : (s.setCpt x).rtb = s.rtb := rfl
@[simp] theorem State.setCpt_lch (x : Cpt) : (s.setCpt x).lch = s.lch := rfl
@[simp] theorem State.setCpt_xhu (x : Cpt) : (s.setCpt x).xhu = s.xhu := rfl
@[simp] theorem State.setCpt_exh (x : Cpt) : (s.setCpt x).exh = s.exh := rfl
@[simp] theorem State.setCpt_tsq (x : Cpt) : (s.setCpt x).tsq = s.tsq := rfl
@[simp] theorem State.setCpt_evu (x : Cpt) : (s.setCpt x).evu = s.evu := rfl
@[simp] theorem State.setCpt_pru (x : Cpt) : (s.setCpt x).pru = s.pru := rfl
@[simp] theorem State.setCpt_oln (x : Cpt) : (s.setCpt x).oln = s.oln := rfl
@[simp] theorem State.setCpt_cpt (x : Cpt) : (s.setCpt x).cpt = x := rfl
@[simp] theorem State.setCpt_ntu (x : Cpt) : (s.setCpt x).ntu = s.ntu := rfl
@[simp] theorem State.setCpt_tst (x : Cpt) : (s.setCpt x).tst = s.tst := rfl

@[simp] theorem State.setNtu_pending (x : Ntu) : (s.setNtu x).pending = s.pending := rfl
@[simp] theorem State.setNtu_now (x : Ntu) : (s.setNtu x).now = s.now := rfl
@[simp] theorem State.setNtu_sent (x : Ntu) : (s.setNtu x).sent = s.sent := rfl
@[simp] theorem State.setNtu_choices (x : Ntu) : (s.setNtu x).choices = s.choices := rfl
@[simp] theorem State.setNtu_lif (x : Ntu) : (s.setNtu x).lif = s.lif := rfl
@[simp] theorem State.setNtu_rtb (x : Ntu) : (s.setNtu x).rtb = s.rtb := rfl
@[simp] theorem State.setNtu_lch (x : Ntu) : (s.setNtu x).lch = s.lch := rfl
@[simp] theorem State.setNtu_xhu (x : Ntu) : (s.setNtu x).xhu = s.xhu := rfl
@[simp] theorem State.setNtu_exh (x : Ntu) : (s.setNtu x).exh = s.exh := rfl
@[simp] theorem State.setNtu_tsq (x : Ntu) : (s.setNtu x).tsq = s.tsq := rfl
@[simp] theorem State.setNtu_evu (x : Ntu) : (s.setNtu x).evu = s.evu := rfl
@[simp] theorem State.setNtu_pru (x : Ntu) : (s.setNtu x).pru = s.pru := rfl
@[simp] theorem State.setNtu_oln (x : Ntu) : (s.setNtu x).oln = s.oln := rfl
@[simp] theorem State.setNtu_cpt (x : Ntu) : (s.setNtu x).cpt = s.cpt := rfl
@[simp] theorem State.setNtu_ntu (x : Ntu) : (s.setNtu x).ntu = x := rfl
@[simp] theorem State.setNtu_tst (x : Ntu) : (s.setNtu x).tst = s.tst := rfl

@[simp] theorem State.setTst_pending (x : Tst) : (s.setTst x).pending = s.pending := rfl
@[simp] theorem State.setTst_now (x : Tst) : (s.setTst x).now = s.now := rfl
@[simp] theorem State.setTst_sent (x : Tst) : (s.setTst x).sent = s.sent := rfl
@[simp] theorem State.setTst_choices (x : Tst) : (s.setTst x).choices = s.choices := rfl
@[simp] theorem State.setTst_lif (x : Tst) : (s.setTst x).lif = s.lif := rfl
@[simp] theorem State.setTst_rtb (x : Tst) : (s.setTst x).rtb = s.rtb := rfl
@[simp] theorem State.setTst_lch (x : Tst) : (s.setTst x).lch = s.lch := rfl
@[simp] theorem State.setTst_xhu (x : Tst) : (s.setTst x).xhu = s.xhu := rfl
@[simp] theorem State.setTst_exh (x : Tst) : (s.setTst x).exh = s.exh := rfl
@[simp] theorem State.setTst_tsq (x : Tst) : (s.setTst x).tsq = s.tsq := rfl
@[simp] theorem State.setTst_evu (x : Tst) : (s.setTst x).evu = s.evu := rfl
@[simp] theorem State.setTst_pru (x : Tst) : (s.setTst x).pru = s.pru := rfl
@[simp] theorem State.setTst_oln (x : Tst) : (s.setTst x).oln = s.oln := rfl
@[simp] theorem State.setTst_cpt (x : Tst) : (s.setTst x).cpt = s.cpt := rfl
@[simp] theorem State.setTst_ntu (x : Tst) : (s.setTst x).ntu = s.ntu := rfl
@[simp] theorem State.setTst_tst (x : Tst) : (s.setTst x).tst = x := rfl

@[simp] theorem elapse_pending (dt : Nat) : (elapse dt s).pending = s.pending := rfl
@[simp] theorem elapse_now (dt : Nat) : (elapse dt s).now = s.now + dt := rfl
@[simp] theorem elapse_sent (dt : Nat) : (elapse dt s).sent = [] := rfl
@[simp] theorem elapse_choices (dt : Nat) : (elapse dt s).choices = s.choices := rfl
@[simp] theorem elapse_lif (dt : Nat) : (elapse dt s).lif = s.lif := rfl
@[simp] theorem elapse_rtb (dt : Nat) : (elapse dt s).rtb = s.rtb := rfl
@[simp] theorem elapse_lch (dt : Nat) : (elapse dt s).lch = s.lch := rfl
@[simp] theorem elapse_xhu (dt : Nat) : (elapse dt s).xhu = s.xhu := rfl
@[simp] theorem elapse_exh (dt : Nat) : (elapse dt s).exh = s.exh := rfl
@[simp] theorem elapse_tsq (dt : Nat) : (elapse dt s).tsq = s.tsq := rfl
@[simp] theorem elapse_evu (dt : Nat) : (elapse dt s).evu = s.evu := rfl
@[simp] theorem elapse_pru (dt : Nat) : (elapse dt s).pru = s.pru := rfl
@[simp] theorem elapse_oln (dt : Nat) : (elapse dt s).oln = s.oln := rfl
@[simp] theorem elapse_cpt (dt : Nat) : (elapse dt s).cpt = s.cpt := rfl
@[simp] theorem elapse_ntu (dt : Nat) : (elapse dt s).ntu = s.ntu := rfl
@[simp] theorem elapse_tst (dt : Nat) : (elapse dt s).tst = s.tst := rfl

@[simp] theorem reach_pending (d : Nat) : (reach d s).pending = s.pending := rfl
@[simp] theorem reach_now (d : Nat) : (reach d s).now = max s.now d := rfl
@[simp] theorem reach_sent (d : Nat) : (reach d s).sent = [] := rfl
@[simp] theorem reach_choices (d : Nat) : (reach d s).choices = s.choices := rfl
@[simp] theorem reach_lif (d : Nat) : (reach d s).lif = s.lif := rfl
@[simp] theorem reach_rtb (d : Nat) : (reach d s).rtb = s.rtb := rfl
@[simp] theorem reach_lch (d : Nat) : (reach d s).lch = s.lch := rfl
@[simp] theorem reach_xhu (d : Nat) : (reach d s).xhu = s.xhu := rfl
@[simp] theorem reach_exh (d : Nat) : (reach d s).exh = s.exh := rfl
@[simp] theorem reach_tsq (d : Nat) : (reach d s).tsq = s.tsq := rfl
@[simp] theorem reach_evu (d : Nat) : (reach d s).evu = s.evu := rfl
@[simp] theorem reach_pru (d : Nat) : (reach d s).pru = s.pru := rfl
@[simp] theorem reach_oln (d : Nat) : (reach d s).oln = s.oln := rfl
@[simp] theorem reach_cpt (d : Nat) : (reach d s).cpt = s.cpt := rfl
@[simp] theorem reach_ntu (d : Nat) : (reach d s).ntu = s.ntu := rfl
@[simp] theorem reach_tst (d : Nat) : (reach d s).tst = s.tst := rfl

@[simp] theorem begin0_pending : (begin0 s).pending = s.pending := rfl
@[simp] theorem begin0_now : (begin0 s).now = s.now := rfl
@[simp] theorem begin0_sent : (begin0 s).sent = [] := rfl
@[simp] theorem begin0_choices : (begin0 s).choices = s.choices := rfl
@[simp] theorem begin0_lif : (begin0 s).lif = s.lif := rfl
@[simp] theorem begin0_rtb : (begin0 s).rtb = s.rtb := rfl
@[simp] theorem begin0_lch : (begin0 s).lch = s.lch := rfl
@[simp] theorem begin0_xhu : (begin0 s).xhu = s.xhu := rfl
@[simp] theorem begin0_exh : (begin0 s).exh = s.exh := rfl
@[simp] theorem begin0_tsq : (begin0 s).tsq = s.tsq := rfl
@[simp] theorem begin0_evu : (begin0 s).evu = s.evu := rfl
@[simp] theorem begin0_pru : (begin0 s).pru = s.pru := rfl
@[simp] theorem begin0_oln : (begin0 s).oln = s.oln := rfl
@[simp] theorem begin0_cpt : (begin0 s).cpt = s.cpt := rfl
@[simp] theorem begin0_ntu : (begin0 s).ntu = s.ntu := rfl
@[simp] theorem begin0_tst : (begin0 s).tst = s.tst := rfl

@[simp] theorem State.withPending_pending (q : List Instr) : (s.withPending q).pending = q := rfl
@[simp] theorem State.withPending_now (q : List Instr) : (s.withPending q).now = s.now := rfl
@[simp] theorem State.withPending_sent (q : List Instr) : (s.withPending q).sent = s.sent := rfl
@[simp] theorem State.withPending_choices (q : List Instr) : (s.withPending q).choices = s.choices := rfl
@[simp] theorem State.withPending_lif (q : List Instr) : (s.withPending q).lif = s.lif := rfl
@[simp] theorem State.withPending_rtb (q : List Instr) : (s.withPending q).rtb = s.rtb := rfl
@[simp] theorem State.withPending_lch (q : List Instr) : (s.withPending q).lch = s.lch := rfl
@[simp] theorem State.withPending_xhu (q : List Instr) : (s.withPending q).xhu = s.xhu := rfl
@[simp] theorem State.withPending_exh (q : List Instr) : (s.withPending q).exh = s.exh := rfl
@[simp] theorem State.withPending_tsq (q : List Instr) : (s.withPending q).tsq = s.tsq := rfl
@[simp] theorem State.withPending_evu (q : List Instr) : (s.withPending q).evu = s.evu := rfl
@[simp] theorem State.withPending_pru (q : List Instr) : (s.withPending q).pru = s.pru := rfl
@[simp] theorem State.withPending_oln (q : List Instr) : (s.withPending q).oln = s.oln := rfl
@[simp] theorem State.withPending_cpt (q : List Instr) : (s.withPending q).cpt = s.cpt := rfl
@[simp] theorem State.withPending_ntu (q : List Instr) : (s.withPending q).ntu = s.ntu := rfl
@[simp] theorem State.withPending_tst (q : List Instr) : (s.withPending q).tst = s.tst := rfl

@[simp] theorem sendOnLane_pending (lane : Lane) (x : LaneOut) : (sendOnLane lane x s).pending = s.pending := rfl
@[simp] theorem sendOnLane_now (lane : Lane) (x : LaneOut) : (sendOnLane lane x s).now = s.now := rfl
@[simp] theorem sendOnLane_sent (lane : Lane) (x : LaneOut) : (sendOnLane lane x s).sent = s.sent ++ [(lane, x)] := rfl
@[simp] theorem sendOnLane_choices (lane : Lane) (x : LaneOut) : (sendOnLane lane x s).choices = s.choices := rfl
@[simp] theorem sendOnLane_lif (lane : Lane) (x : LaneOut) : (sendOnLane lane x s).lif = s.lif := rfl
@[simp] theorem sendOnLane_rtb (lane : Lane) (x : LaneOut) : (sendOnLane lane x s).rtb = s.rtb := rfl
@[simp] theorem sendOnLane_lch (lane : Lane) (x : LaneOut) : (sendOnLane lane x s).lch = s.lch := rfl
@[simp] theorem sendOnLane_xhu (lane : Lane) (x : LaneOut) : (sendOnLane lane x s).xhu = s.xhu := rfl
@[simp] theorem sendOnLane_exh (lane : Lane) (x : LaneOut) : (sendOnLane lane x s).exh = s.exh := rfl
@[simp] theorem sendOnLane_tsq (lane : Lane) (x : LaneOut) : (sendOnLane lane x s).tsq = s.tsq := rfl
@[simp] theorem sendOnLane_evu (lane : Lane) (x : LaneOut) : (sendOnLane lane x s).evu = s.evu := rfl
@[simp] theorem sendOnLane_pru (lane : Lane) (x : LaneOut) : (sendOnLane lane x s).pru = s.pru := rfl
@[simp] theorem sendOnLane_oln (lane : Lane) (x : LaneOut) : (sendOnLane lane x s).oln = s.oln := rfl
@[simp] theorem sendOnLane_cpt (lane : Lane) (x : LaneOut) : (sendOnLane lane x s).cpt = s.cpt := rfl
@[simp] theorem sendOnLane_ntu (lane : Lane) (x : LaneOut) : (sendOnLane lane x s).ntu = s.ntu := rfl
@[simp] theorem sendOnLane_tst (lane : Lane) (x : LaneOut) : (sendOnLane lane x s).tst = s.tst := rfl

end Sys2Proof.Machine
end

