-- ==== Sys2Proof/Laws/Order.lean ====
section
/-!
SUPPORT. Acts in an open order: what every one of them keeps, the whole keeps, whatever is chosen.
-/

namespace Sys2Proof.Machine

/-- The parts of a list that `takeAt` splits it into are its own. -/
theorem takeAt_mem {α : Type} : ∀ (xs : List α) (i : Nat) (p : α × List α),
    takeAt xs i = some p → p.1 ∈ xs ∧ ∀ y ∈ p.2, y ∈ xs
  | [], _, _, h => by simp [takeAt] at h
  | x :: xs, 0, p, h => by
    simp only [takeAt, Option.some.injEq] at h
    subst h
    simp +contextual
  | x :: xs, i + 1, p, h => by
    simp only [takeAt, Option.map_eq_some_iff] at h
    obtain ⟨q, hq, rfl⟩ := h
    have := takeAt_mem xs i q hq
    refine ⟨List.mem_cons_of_mem _ this.1, ?_⟩
    intro y hy
    rcases List.mem_cons.1 hy with rfl | hy
    · exact List.mem_cons_self
    · exact List.mem_cons_of_mem _ (this.2 y hy)

/-- Every act of an arrangement is an act of the list. -/
theorem arrange_mem {α : Type} : ∀ (fuel k : Nat) (xs : List α) (y : α),
    y ∈ arrange fuel k xs → y ∈ xs
  | 0, _, _, _, h => h
  | fuel + 1, k, xs, y, h => by
    unfold arrange at h
    split at h
    · exact h
    · rename_i x rest heq
      have := takeAt_mem xs _ _ heq
      rcases List.mem_cons.1 h with rfl | h
      · exact this.1
      · exact this.2 y (arrange_mem fuel _ rest y h)

/-- Acts one after another keep what each of them keeps. -/
theorem foldl_keeps {P : State → Prop} (acts : List (State → State))
    (h : ∀ act ∈ acts, ∀ t, P t → P (act t)) :
    ∀ s, P s → P (acts.foldl (fun t act => act t) s) := by
  induction acts with
  | nil => exact fun s hs => hs
  | cons a rest ih =>
    intro s hs
    exact ih (fun act ha => h act (List.mem_cons_of_mem _ ha)) _ (h a List.mem_cons_self s hs)

/-- What every act keeps, and a change of the choice counter keeps, acts in an open order keep. -/
theorem inOpenOrder_keeps {P : State → Prop} (acts : List (State → State)) (s : State)
    (hc : ∀ t n, P t → P { t with choices := n })
    (h : ∀ act ∈ acts, ∀ t, P t → P (act t)) (hs : P s) : P (inOpenOrder acts s) := by
  unfold inOpenOrder
  split
  · exact hs
  · exact h _ (by simp) _ hs
  · exact foldl_keeps _ (fun act ha => h act (arrange_mem _ _ _ _ ha)) _ (hc _ _ hs)

/-- A value that no act changes is unchanged by acts in an open order. -/
theorem inOpenOrder_eq {α : Type} (g : State → α) (acts : List (State → State)) (s : State)
    (hc : ∀ t n, g { t with choices := n } = g t)
    (h : ∀ act ∈ acts, ∀ t, g (act t) = g t) : g (inOpenOrder acts s) = g s :=
  inOpenOrder_keeps (P := fun t => g t = g s) acts s (fun t n ht => (hc t n).trans ht)
    (fun act ha t ht => (h act ha t).trans ht) rfl

end Sys2Proof.Machine
end

