-- ==== Sys2Proof/Laws/Frames.lean ====
section
/-!
SUPPORT. What each shared operation leaves unchanged: one lemma per operation, for every state and
every argument.
-/

namespace Sys2Proof.Machine

variable (s : State)

/-- What `startMeasurement` keeps. -/
@[simp] theorem startMeasurement_keeps :
    (startMeasurement s).pending = s.pending ∧ (startMeasurement s).now = s.now ∧
    (startMeasurement s).sent = s.sent ∧ (startMeasurement s).choices = s.choices ∧
    (startMeasurement s).lif = s.lif ∧ (startMeasurement s).rtb.route = s.rtb.route ∧
    (startMeasurement s).lch = s.lch ∧ (startMeasurement s).xhu = s.xhu ∧
    (startMeasurement s).exh = s.exh ∧ (startMeasurement s).tsq = s.tsq ∧
    (startMeasurement s).evu = s.evu ∧ (startMeasurement s).pru = s.pru ∧
    (startMeasurement s).oln = s.oln ∧ (startMeasurement s).cpt.outstanding = s.cpt.outstanding ∧
    (startMeasurement s).cpt.replies = s.cpt.replies ∧
    (startMeasurement s).cpt.checkFailures = s.cpt.checkFailures ∧
    (startMeasurement s).cpt.overruns = s.cpt.overruns ∧
    (startMeasurement s).cpt.coalesced = s.cpt.coalesced ∧
    (startMeasurement s).cpt.streamOn = s.cpt.streamOn ∧
    (startMeasurement s).cpt.decimation = s.cpt.decimation ∧
    (startMeasurement s).cpt.count = s.cpt.count ∧
    (startMeasurement s).cpt.fallbackAt = s.cpt.fallbackAt ∧
    (startMeasurement s).cpt.session = s.cpt.session ∧ (startMeasurement s).ntu = s.ntu ∧
    (startMeasurement s).tst = s.tst := by
  simp [startMeasurement]

/-- What `startNotice` keeps. -/
@[simp] theorem startNotice_keeps (src : Source) :
    (startNotice src s).pending = s.pending ∧ (startNotice src s).now = s.now ∧
    (startNotice src s).sent = s.sent ∧ (startNotice src s).choices = s.choices ∧
    (startNotice src s).lif = s.lif ∧ (startNotice src s).rtb = s.rtb ∧
    (startNotice src s).lch = s.lch ∧ (startNotice src s).xhu = s.xhu ∧
    (startNotice src s).exh = s.exh ∧ (startNotice src s).tsq = s.tsq ∧
    (startNotice src s).evu = s.evu ∧ (startNotice src s).pru = s.pru ∧
    (startNotice src s).oln = s.oln ∧ (startNotice src s).cpt.outstanding = s.cpt.outstanding ∧
    (startNotice src s).cpt.replies = s.cpt.replies ∧
    (startNotice src s).cpt.checkFailures = s.cpt.checkFailures ∧
    (startNotice src s).cpt.overruns = s.cpt.overruns ∧
    (startNotice src s).cpt.coalesced = s.cpt.coalesced ∧
    (startNotice src s).cpt.streamOn = s.cpt.streamOn ∧
    (startNotice src s).cpt.decimation = s.cpt.decimation ∧
    (startNotice src s).cpt.count = s.cpt.count ∧
    (startNotice src s).cpt.fallbackAt = s.cpt.fallbackAt ∧
    (startNotice src s).cpt.due = s.cpt.due ∧ (startNotice src s).cpt.peak = s.cpt.peak ∧
    (startNotice src s).cpt.sequence = s.cpt.sequence ∧
    (startNotice src s).cpt.session = s.cpt.session ∧
    (startNotice src s).ntu.nlevels = s.ntu.nlevels ∧ (startNotice src s).tst = s.tst := by
  unfold startNotice
  split <;> simp

/-- What `startReply` keeps. -/
@[simp] theorem startReply_keeps (r : Reply) (rest : List Reply) :
    (startReply r rest s).pending = s.pending ∧ (startReply r rest s).now = s.now ∧
    (startReply r rest s).sent = s.sent ∧ (startReply r rest s).choices = s.choices ∧
    (startReply r rest s).lif = s.lif ∧ (startReply r rest s).rtb = s.rtb ∧
    (startReply r rest s).lch = s.lch ∧ (startReply r rest s).xhu = s.xhu ∧
    (startReply r rest s).exh = s.exh ∧ (startReply r rest s).tsq = s.tsq ∧
    (startReply r rest s).evu = s.evu ∧ (startReply r rest s).pru = s.pru ∧
    (startReply r rest s).oln = s.oln ∧ (startReply r rest s).cpt.outstanding = s.cpt.outstanding ∧
    (startReply r rest s).cpt.checkFailures = s.cpt.checkFailures ∧
    (startReply r rest s).cpt.overruns = s.cpt.overruns ∧
    (startReply r rest s).cpt.coalesced = s.cpt.coalesced ∧
    (startReply r rest s).cpt.streamOn = s.cpt.streamOn ∧
    (startReply r rest s).cpt.decimation = s.cpt.decimation ∧
    (startReply r rest s).cpt.count = s.cpt.count ∧
    (startReply r rest s).cpt.fallbackAt = s.cpt.fallbackAt ∧
    (startReply r rest s).cpt.due = s.cpt.due ∧ (startReply r rest s).cpt.peak = s.cpt.peak ∧
    (startReply r rest s).cpt.sequence = s.cpt.sequence ∧
    (startReply r rest s).cpt.session = s.cpt.session ∧ (startReply r rest s).ntu = s.ntu ∧
    (startReply r rest s).tst = s.tst := by
  simp [startReply]

/-- What `arbitrate` keeps. -/
@[simp] theorem arbitrate_keeps :
    (arbitrate s).pending = s.pending ∧ (arbitrate s).now = s.now ∧ (arbitrate s).sent = s.sent ∧
    (arbitrate s).choices = s.choices ∧ (arbitrate s).lif = s.lif ∧
    (arbitrate s).rtb.route = s.rtb.route ∧ (arbitrate s).lch = s.lch ∧ (arbitrate s).xhu = s.xhu ∧
    (arbitrate s).exh = s.exh ∧ (arbitrate s).tsq = s.tsq ∧ (arbitrate s).evu = s.evu ∧
    (arbitrate s).pru = s.pru ∧ (arbitrate s).oln = s.oln ∧
    (arbitrate s).cpt.outstanding = s.cpt.outstanding ∧
    (arbitrate s).cpt.checkFailures = s.cpt.checkFailures ∧
    (arbitrate s).cpt.overruns = s.cpt.overruns ∧ (arbitrate s).cpt.coalesced = s.cpt.coalesced ∧
    (arbitrate s).cpt.streamOn = s.cpt.streamOn ∧ (arbitrate s).cpt.decimation = s.cpt.decimation ∧
    (arbitrate s).cpt.count = s.cpt.count ∧ (arbitrate s).cpt.fallbackAt = s.cpt.fallbackAt ∧
    (arbitrate s).cpt.session = s.cpt.session ∧ (arbitrate s).ntu.nlevels = s.ntu.nlevels ∧
    (arbitrate s).tst = s.tst := by
  unfold arbitrate
  (repeat' split) <;> simp

/-- What `raise` keeps. -/
@[simp] theorem raise_keeps (src : Source) (d : NoticeDetail) :
    (raise src d s).pending = s.pending ∧ (raise src d s).now = s.now ∧
    (raise src d s).sent = s.sent ∧ (raise src d s).choices = s.choices ∧
    (raise src d s).lif = s.lif ∧ (raise src d s).rtb.route = s.rtb.route ∧
    (raise src d s).lch = s.lch ∧ (raise src d s).xhu = s.xhu ∧ (raise src d s).exh = s.exh ∧
    (raise src d s).tsq = s.tsq ∧ (raise src d s).evu = s.evu ∧ (raise src d s).pru = s.pru ∧
    (raise src d s).oln = s.oln ∧ (raise src d s).cpt.outstanding = s.cpt.outstanding ∧
    (raise src d s).cpt.checkFailures = s.cpt.checkFailures ∧
    (raise src d s).cpt.overruns = s.cpt.overruns ∧
    (raise src d s).cpt.coalesced = s.cpt.coalesced ∧
    (raise src d s).cpt.streamOn = s.cpt.streamOn ∧
    (raise src d s).cpt.decimation = s.cpt.decimation ∧ (raise src d s).cpt.count = s.cpt.count ∧
    (raise src d s).cpt.fallbackAt = s.cpt.fallbackAt ∧
    (raise src d s).cpt.session = s.cpt.session ∧ (raise src d s).ntu.nlevels = s.ntu.nlevels ∧
    (raise src d s).tst = s.tst := by
  unfold raise
  split <;> simp

/-- What `joinReply` keeps. -/
@[simp] theorem joinReply_keeps (r : Reply) :
    (joinReply r s).pending = s.pending ∧ (joinReply r s).now = s.now ∧
    (joinReply r s).sent = s.sent ∧ (joinReply r s).choices = s.choices ∧
    (joinReply r s).lif = s.lif ∧ (joinReply r s).rtb.route = s.rtb.route ∧
    (joinReply r s).lch = s.lch ∧ (joinReply r s).xhu = s.xhu ∧ (joinReply r s).exh = s.exh ∧
    (joinReply r s).tsq = s.tsq ∧ (joinReply r s).evu = s.evu ∧ (joinReply r s).pru = s.pru ∧
    (joinReply r s).oln = s.oln ∧ (joinReply r s).cpt.outstanding = s.cpt.outstanding ∧
    (joinReply r s).cpt.checkFailures = s.cpt.checkFailures ∧
    (joinReply r s).cpt.overruns = s.cpt.overruns ∧
    (joinReply r s).cpt.coalesced = s.cpt.coalesced ∧
    (joinReply r s).cpt.streamOn = s.cpt.streamOn ∧
    (joinReply r s).cpt.decimation = s.cpt.decimation ∧ (joinReply r s).cpt.count = s.cpt.count ∧
    (joinReply r s).cpt.fallbackAt = s.cpt.fallbackAt ∧
    (joinReply r s).cpt.session = s.cpt.session ∧ (joinReply r s).ntu.nlevels = s.ntu.nlevels ∧
    (joinReply r s).tst = s.tst := by
  simp [joinReply]

/-- What `answer` keeps. -/
@[simp] theorem answer_keeps (kind tag : Byte) (code : ReplyCode) (d : Option Detail) (p : Option Payload) :
    (answer kind tag code d p s).pending = s.pending ∧ (answer kind tag code d p s).now = s.now ∧
    (answer kind tag code d p s).sent = s.sent ∧ (answer kind tag code d p s).choices = s.choices ∧
    (answer kind tag code d p s).lif = s.lif ∧
    (answer kind tag code d p s).rtb.route = s.rtb.route ∧
    (answer kind tag code d p s).lch = s.lch ∧ (answer kind tag code d p s).xhu = s.xhu ∧
    (answer kind tag code d p s).exh = s.exh ∧ (answer kind tag code d p s).tsq = s.tsq ∧
    (answer kind tag code d p s).evu = s.evu ∧ (answer kind tag code d p s).pru = s.pru ∧
    (answer kind tag code d p s).oln = s.oln ∧
    (answer kind tag code d p s).cpt.checkFailures = s.cpt.checkFailures ∧
    (answer kind tag code d p s).cpt.overruns = s.cpt.overruns ∧
    (answer kind tag code d p s).cpt.coalesced = s.cpt.coalesced ∧
    (answer kind tag code d p s).cpt.streamOn = s.cpt.streamOn ∧
    (answer kind tag code d p s).cpt.decimation = s.cpt.decimation ∧
    (answer kind tag code d p s).cpt.count = s.cpt.count ∧
    (answer kind tag code d p s).cpt.fallbackAt = s.cpt.fallbackAt ∧
    (answer kind tag code d p s).cpt.session = s.cpt.session ∧
    (answer kind tag code d p s).ntu.nlevels = s.ntu.nlevels ∧
    (answer kind tag code d p s).tst = s.tst := by
  simp [answer]

/-- What `answerTare` keeps. -/
@[simp] theorem answerTare_keeps (tag : Byte) (code : ReplyCode) (d : Option Detail) (p : Option Payload) :
    (answerTare tag code d p s).pending = s.pending ∧ (answerTare tag code d p s).now = s.now ∧
    (answerTare tag code d p s).sent = s.sent ∧ (answerTare tag code d p s).choices = s.choices ∧
    (answerTare tag code d p s).lif = s.lif ∧ (answerTare tag code d p s).rtb.route = s.rtb.route ∧
    (answerTare tag code d p s).lch = s.lch ∧ (answerTare tag code d p s).xhu = s.xhu ∧
    (answerTare tag code d p s).exh = s.exh ∧ (answerTare tag code d p s).tsq = s.tsq ∧
    (answerTare tag code d p s).evu = s.evu ∧ (answerTare tag code d p s).pru = s.pru ∧
    (answerTare tag code d p s).oln = s.oln ∧
    (answerTare tag code d p s).cpt.checkFailures = s.cpt.checkFailures ∧
    (answerTare tag code d p s).cpt.overruns = s.cpt.overruns ∧
    (answerTare tag code d p s).cpt.coalesced = s.cpt.coalesced ∧
    (answerTare tag code d p s).cpt.streamOn = s.cpt.streamOn ∧
    (answerTare tag code d p s).cpt.decimation = s.cpt.decimation ∧
    (answerTare tag code d p s).cpt.count = s.cpt.count ∧
    (answerTare tag code d p s).cpt.fallbackAt = s.cpt.fallbackAt ∧
    (answerTare tag code d p s).cpt.session = s.cpt.session ∧
    (answerTare tag code d p s).ntu.nlevels = s.ntu.nlevels ∧
    (answerTare tag code d p s).tst = s.tst := by
  simp [answerTare]

/-- What `setCondition` keeps. -/
@[simp] theorem setCondition_keeps (c : TripClass) (x : Condition) :
    (setCondition c x s).pending = s.pending ∧ (setCondition c x s).now = s.now ∧
    (setCondition c x s).sent = s.sent ∧ (setCondition c x s).choices = s.choices ∧
    (setCondition c x s).lif = s.lif ∧ (setCondition c x s).rtb = s.rtb ∧
    (setCondition c x s).lch = s.lch ∧ (setCondition c x s).xhu = s.xhu ∧
    (setCondition c x s).exh = s.exh ∧ (setCondition c x s).tsq = s.tsq ∧
    (setCondition c x s).evu = s.evu ∧ (setCondition c x s).pru.loadLossAt = s.pru.loadLossAt ∧
    (setCondition c x s).pru.latch = s.pru.latch ∧
    (setCondition c x s).pru.history = s.pru.history ∧
    (setCondition c x s).pru.protset = s.pru.protset ∧ (setCondition c x s).oln = s.oln ∧
    (setCondition c x s).cpt = s.cpt ∧ (setCondition c x s).ntu = s.ntu ∧
    (setCondition c x s).tst = s.tst := by
  simp [setCondition]

/-- What `clearLoadLost` keeps. -/
@[simp] theorem clearLoadLost_keeps :
    (clearLoadLost s).pending = s.pending ∧ (clearLoadLost s).now = s.now ∧
    (clearLoadLost s).sent = s.sent ∧ (clearLoadLost s).choices = s.choices ∧
    (clearLoadLost s).lif = s.lif ∧ (clearLoadLost s).rtb = s.rtb ∧ (clearLoadLost s).lch = s.lch ∧
    (clearLoadLost s).xhu = s.xhu ∧ (clearLoadLost s).exh = s.exh ∧ (clearLoadLost s).tsq = s.tsq ∧
    (clearLoadLost s).evu = s.evu ∧ (clearLoadLost s).pru.latch = s.pru.latch ∧
    (clearLoadLost s).pru.history = s.pru.history ∧ (clearLoadLost s).pru.protset = s.pru.protset ∧
    (clearLoadLost s).oln = s.oln ∧ (clearLoadLost s).cpt = s.cpt ∧ (clearLoadLost s).ntu = s.ntu ∧
    (clearLoadLost s).tst = s.tst := by
  simp [clearLoadLost]

/-- What `settleLoadLost` keeps. -/
@[simp] theorem settleLoadLost_keeps :
    (settleLoadLost s).pending = s.pending ∧ (settleLoadLost s).now = s.now ∧
    (settleLoadLost s).sent = s.sent ∧ (settleLoadLost s).choices = s.choices ∧
    (settleLoadLost s).lif = s.lif ∧ (settleLoadLost s).rtb = s.rtb ∧
    (settleLoadLost s).lch = s.lch ∧ (settleLoadLost s).xhu = s.xhu ∧
    (settleLoadLost s).exh = s.exh ∧ (settleLoadLost s).tsq = s.tsq ∧
    (settleLoadLost s).evu = s.evu ∧ (settleLoadLost s).pru.latch = s.pru.latch ∧
    (settleLoadLost s).pru.history = s.pru.history ∧
    (settleLoadLost s).pru.protset = s.pru.protset ∧ (settleLoadLost s).oln = s.oln ∧
    (settleLoadLost s).cpt = s.cpt ∧ (settleLoadLost s).ntu = s.ntu ∧
    (settleLoadLost s).tst = s.tst := by
  unfold settleLoadLost
  split <;> simp

/-- What `enterHold` keeps. -/
@[simp] theorem enterHold_keeps :
    (enterHold s).pending = s.pending ∧ (enterHold s).now = s.now ∧ (enterHold s).sent = s.sent ∧
    (enterHold s).choices = s.choices ∧ (enterHold s).lif = s.lif ∧ (enterHold s).rtb = s.rtb ∧
    (enterHold s).lch = s.lch ∧ (enterHold s).xhu.pos = s.xhu.pos ∧
    (enterHold s).xhu.good = s.xhu.good ∧ (enterHold s).xhu.demand = s.xhu.demand ∧
    (enterHold s).xhu.drive = s.xhu.drive ∧ (enterHold s).xhu.lastEnable = s.xhu.lastEnable ∧
    (enterHold s).xhu.demandAt = s.xhu.demandAt ∧ (enterHold s).xhu.strain = s.xhu.strain ∧
    (enterHold s).xhu.xset = s.xhu.xset ∧ (enterHold s).exh = s.exh ∧ (enterHold s).tsq = s.tsq ∧
    (enterHold s).evu = s.evu ∧ (enterHold s).pru.latch = s.pru.latch ∧
    (enterHold s).pru.history = s.pru.history ∧ (enterHold s).pru.protset = s.pru.protset ∧
    (enterHold s).oln = s.oln ∧ (enterHold s).cpt = s.cpt ∧ (enterHold s).ntu = s.ntu ∧
    (enterHold s).tst = s.tst := by
  simp [enterHold]

/-- What `requestMode` keeps. -/
@[simp] theorem requestMode_keeps (m : XhuMode) :
    (requestMode m s).pending = s.pending ∧ (requestMode m s).now = s.now ∧
    (requestMode m s).sent = s.sent ∧ (requestMode m s).choices = s.choices ∧
    (requestMode m s).lif = s.lif ∧ (requestMode m s).rtb = s.rtb ∧ (requestMode m s).lch = s.lch ∧
    (requestMode m s).xhu.pos = s.xhu.pos ∧ (requestMode m s).xhu.good = s.xhu.good ∧
    (requestMode m s).xhu.demand = s.xhu.demand ∧ (requestMode m s).xhu.drive = s.xhu.drive ∧
    (requestMode m s).xhu.lastEnable = s.xhu.lastEnable ∧
    (requestMode m s).xhu.demandAt = s.xhu.demandAt ∧ (requestMode m s).xhu.strain = s.xhu.strain ∧
    (requestMode m s).xhu.xset = s.xhu.xset ∧ (requestMode m s).exh = s.exh ∧
    (requestMode m s).tsq = s.tsq ∧ (requestMode m s).evu = s.evu ∧
    (requestMode m s).pru.latch = s.pru.latch ∧ (requestMode m s).pru.history = s.pru.history ∧
    (requestMode m s).pru.protset = s.pru.protset ∧ (requestMode m s).oln = s.oln ∧
    (requestMode m s).cpt = s.cpt ∧ (requestMode m s).ntu = s.ntu ∧ (requestMode m s).tst = s.tst := by
  unfold requestMode
  (repeat' split) <;> simp

/-- What `clampDemand` keeps. -/
@[simp] theorem clampDemand_keeps :
    (clampDemand s).pending = s.pending ∧ (clampDemand s).now = s.now ∧
    (clampDemand s).sent = s.sent ∧ (clampDemand s).choices = s.choices ∧
    (clampDemand s).lif = s.lif ∧ (clampDemand s).rtb.route = s.rtb.route ∧
    (clampDemand s).lch = s.lch ∧ (clampDemand s).xhu.pos = s.xhu.pos ∧
    (clampDemand s).xhu.good = s.xhu.good ∧ (clampDemand s).xhu.drive = s.xhu.drive ∧
    (clampDemand s).xhu.lastEnable = s.xhu.lastEnable ∧
    (clampDemand s).xhu.demandAt = s.xhu.demandAt ∧ (clampDemand s).xhu.mode = s.xhu.mode ∧
    (clampDemand s).xhu.a = s.xhu.a ∧ (clampDemand s).xhu.b = s.xhu.b ∧
    (clampDemand s).xhu.target = s.xhu.target ∧ (clampDemand s).xhu.strain = s.xhu.strain ∧
    (clampDemand s).xhu.xset = s.xhu.xset ∧ (clampDemand s).exh = s.exh ∧
    (clampDemand s).tsq = s.tsq ∧ (clampDemand s).evu = s.evu ∧ (clampDemand s).pru = s.pru ∧
    (clampDemand s).oln = s.oln ∧ (clampDemand s).cpt.outstanding = s.cpt.outstanding ∧
    (clampDemand s).cpt.checkFailures = s.cpt.checkFailures ∧
    (clampDemand s).cpt.overruns = s.cpt.overruns ∧
    (clampDemand s).cpt.coalesced = s.cpt.coalesced ∧
    (clampDemand s).cpt.streamOn = s.cpt.streamOn ∧
    (clampDemand s).cpt.decimation = s.cpt.decimation ∧ (clampDemand s).cpt.count = s.cpt.count ∧
    (clampDemand s).cpt.fallbackAt = s.cpt.fallbackAt ∧
    (clampDemand s).cpt.session = s.cpt.session ∧ (clampDemand s).ntu.nlevels = s.ntu.nlevels ∧
    (clampDemand s).tst = s.tst := by
  unfold clampDemand
  simp only []
  (repeat' split) <;> simp

/-- What `initialiseDemand` keeps. -/
@[simp] theorem initialiseDemand_keeps :
    (initialiseDemand s).pending = s.pending ∧ (initialiseDemand s).now = s.now ∧
    (initialiseDemand s).sent = s.sent ∧ (initialiseDemand s).choices = s.choices ∧
    (initialiseDemand s).lif = s.lif ∧ (initialiseDemand s).rtb.route = s.rtb.route ∧
    (initialiseDemand s).lch = s.lch ∧ (initialiseDemand s).xhu.pos = s.xhu.pos ∧
    (initialiseDemand s).xhu.good = s.xhu.good ∧ (initialiseDemand s).xhu.drive = s.xhu.drive ∧
    (initialiseDemand s).xhu.lastEnable = s.xhu.lastEnable ∧
    (initialiseDemand s).xhu.demandAt = s.xhu.demandAt ∧
    (initialiseDemand s).xhu.mode = s.xhu.mode ∧ (initialiseDemand s).xhu.b = s.xhu.b ∧
    (initialiseDemand s).xhu.target = s.xhu.target ∧
    (initialiseDemand s).xhu.strain = s.xhu.strain ∧ (initialiseDemand s).xhu.xset = s.xhu.xset ∧
    (initialiseDemand s).exh = s.exh ∧ (initialiseDemand s).tsq = s.tsq ∧
    (initialiseDemand s).evu = s.evu ∧ (initialiseDemand s).pru = s.pru ∧
    (initialiseDemand s).oln = s.oln ∧ (initialiseDemand s).cpt.outstanding = s.cpt.outstanding ∧
    (initialiseDemand s).cpt.checkFailures = s.cpt.checkFailures ∧
    (initialiseDemand s).cpt.overruns = s.cpt.overruns ∧
    (initialiseDemand s).cpt.coalesced = s.cpt.coalesced ∧
    (initialiseDemand s).cpt.streamOn = s.cpt.streamOn ∧
    (initialiseDemand s).cpt.decimation = s.cpt.decimation ∧
    (initialiseDemand s).cpt.count = s.cpt.count ∧
    (initialiseDemand s).cpt.fallbackAt = s.cpt.fallbackAt ∧
    (initialiseDemand s).cpt.session = s.cpt.session ∧
    (initialiseDemand s).ntu.nlevels = s.ntu.nlevels ∧ (initialiseDemand s).tst = s.tst := by
  simp [initialiseDemand]

/-- What `recordMilestone` keeps. -/
@[simp] theorem recordMilestone_keeps (m : Milestone) :
    (recordMilestone m s).pending = s.pending ∧ (recordMilestone m s).now = s.now ∧
    (recordMilestone m s).sent = s.sent ∧ (recordMilestone m s).choices = s.choices ∧
    (recordMilestone m s).lif = s.lif ∧ (recordMilestone m s).rtb.route = s.rtb.route ∧
    (recordMilestone m s).lch = s.lch ∧ (recordMilestone m s).xhu = s.xhu ∧
    (recordMilestone m s).exh = s.exh ∧ (recordMilestone m s).tsq = s.tsq ∧
    (recordMilestone m s).evu.strain = s.evu.strain ∧ (recordMilestone m s).evu.fm = s.evu.fm ∧
    (recordMilestone m s).evu.breakArmed = s.evu.breakArmed ∧
    (recordMilestone m s).evu.window = s.evu.window ∧
    (recordMilestone m s).evu.search = s.evu.search ∧ (recordMilestone m s).evu.fy = s.evu.fy ∧
    (recordMilestone m s).evu.reh = s.evu.reh ∧
    (recordMilestone m s).evu.candidate = s.evu.candidate ∧
    (recordMilestone m s).evu.chord = s.evu.chord ∧
    (recordMilestone m s).evu.point1 = s.evu.point1 ∧
    (recordMilestone m s).evu.point2 = s.evu.point2 ∧
    (recordMilestone m s).evu.proof = s.evu.proof ∧
    (recordMilestone m s).evu.breakSeen = s.evu.breakSeen ∧
    (recordMilestone m s).evu.listOpen = s.evu.listOpen ∧
    (recordMilestone m s).evu.hasTest = s.evu.hasTest ∧
    (recordMilestone m s).evu.result = s.evu.result ∧ (recordMilestone m s).pru = s.pru ∧
    (recordMilestone m s).oln = s.oln ∧ (recordMilestone m s).cpt.outstanding = s.cpt.outstanding ∧
    (recordMilestone m s).cpt.checkFailures = s.cpt.checkFailures ∧
    (recordMilestone m s).cpt.overruns = s.cpt.overruns ∧
    (recordMilestone m s).cpt.coalesced = s.cpt.coalesced ∧
    (recordMilestone m s).cpt.streamOn = s.cpt.streamOn ∧
    (recordMilestone m s).cpt.decimation = s.cpt.decimation ∧
    (recordMilestone m s).cpt.count = s.cpt.count ∧
    (recordMilestone m s).cpt.fallbackAt = s.cpt.fallbackAt ∧
    (recordMilestone m s).cpt.session = s.cpt.session ∧
    (recordMilestone m s).ntu.nlevels = s.ntu.nlevels ∧ (recordMilestone m s).tst = s.tst := by
  unfold recordMilestone
  (repeat' split) <;> simp

/-- What `handMilestone` keeps. -/
@[simp] theorem handMilestone_keeps (m : Milestone) :
    (handMilestone m s).pending = s.pending ∧ (handMilestone m s).now = s.now ∧
    (handMilestone m s).sent = s.sent ∧ (handMilestone m s).choices = s.choices ∧
    (handMilestone m s).lif = s.lif ∧ (handMilestone m s).rtb.route = s.rtb.route ∧
    (handMilestone m s).lch = s.lch ∧ (handMilestone m s).xhu = s.xhu ∧
    (handMilestone m s).exh = s.exh ∧ (handMilestone m s).tsq = s.tsq ∧
    (handMilestone m s).evu.strain = s.evu.strain ∧
    (handMilestone m s).evu.breakArmed = s.evu.breakArmed ∧
    (handMilestone m s).evu.window = s.evu.window ∧ (handMilestone m s).evu.search = s.evu.search ∧
    (handMilestone m s).evu.fy = s.evu.fy ∧ (handMilestone m s).evu.reh = s.evu.reh ∧
    (handMilestone m s).evu.candidate = s.evu.candidate ∧
    (handMilestone m s).evu.chord = s.evu.chord ∧ (handMilestone m s).evu.point1 = s.evu.point1 ∧
    (handMilestone m s).evu.point2 = s.evu.point2 ∧ (handMilestone m s).evu.proof = s.evu.proof ∧
    (handMilestone m s).evu.breakSeen = s.evu.breakSeen ∧
    (handMilestone m s).evu.listOpen = s.evu.listOpen ∧
    (handMilestone m s).evu.hasTest = s.evu.hasTest ∧
    (handMilestone m s).evu.result = s.evu.result ∧ (handMilestone m s).pru = s.pru ∧
    (handMilestone m s).oln = s.oln ∧ (handMilestone m s).cpt.outstanding = s.cpt.outstanding ∧
    (handMilestone m s).cpt.checkFailures = s.cpt.checkFailures ∧
    (handMilestone m s).cpt.overruns = s.cpt.overruns ∧
    (handMilestone m s).cpt.coalesced = s.cpt.coalesced ∧
    (handMilestone m s).cpt.streamOn = s.cpt.streamOn ∧
    (handMilestone m s).cpt.decimation = s.cpt.decimation ∧
    (handMilestone m s).cpt.count = s.cpt.count ∧
    (handMilestone m s).cpt.fallbackAt = s.cpt.fallbackAt ∧
    (handMilestone m s).cpt.session = s.cpt.session ∧
    (handMilestone m s).ntu.nlevels = s.ntu.nlevels ∧ (handMilestone m s).tst = s.tst := by
  unfold handMilestone
  split <;> simp

/-- What `handTrip` keeps. -/
@[simp] theorem handTrip_keeps (c : TripClass) :
    (handTrip c s).pending = s.pending ∧ (handTrip c s).now = s.now ∧
    (handTrip c s).sent = s.sent ∧ (handTrip c s).choices = s.choices ∧
    (handTrip c s).lif = s.lif ∧ (handTrip c s).rtb.route = s.rtb.route ∧
    (handTrip c s).lch = s.lch ∧ (handTrip c s).xhu = s.xhu ∧ (handTrip c s).exh = s.exh ∧
    (handTrip c s).tsq = s.tsq ∧ (handTrip c s).evu.strain = s.evu.strain ∧
    (handTrip c s).evu.breakArmed = s.evu.breakArmed ∧ (handTrip c s).evu.window = s.evu.window ∧
    (handTrip c s).evu.search = s.evu.search ∧ (handTrip c s).evu.fy = s.evu.fy ∧
    (handTrip c s).evu.reh = s.evu.reh ∧ (handTrip c s).evu.candidate = s.evu.candidate ∧
    (handTrip c s).evu.chord = s.evu.chord ∧ (handTrip c s).evu.point1 = s.evu.point1 ∧
    (handTrip c s).evu.point2 = s.evu.point2 ∧ (handTrip c s).evu.proof = s.evu.proof ∧
    (handTrip c s).evu.breakSeen = s.evu.breakSeen ∧ (handTrip c s).evu.listOpen = s.evu.listOpen ∧
    (handTrip c s).evu.hasTest = s.evu.hasTest ∧ (handTrip c s).pru = s.pru ∧
    (handTrip c s).oln = s.oln ∧ (handTrip c s).cpt.outstanding = s.cpt.outstanding ∧
    (handTrip c s).cpt.checkFailures = s.cpt.checkFailures ∧
    (handTrip c s).cpt.overruns = s.cpt.overruns ∧ (handTrip c s).cpt.coalesced = s.cpt.coalesced ∧
    (handTrip c s).cpt.streamOn = s.cpt.streamOn ∧
    (handTrip c s).cpt.decimation = s.cpt.decimation ∧ (handTrip c s).cpt.count = s.cpt.count ∧
    (handTrip c s).cpt.fallbackAt = s.cpt.fallbackAt ∧ (handTrip c s).cpt.session = s.cpt.session ∧
    (handTrip c s).ntu.nlevels = s.ntu.nlevels ∧ (handTrip c s).tst = s.tst := by
  unfold handTrip
  split <;> simp

/-- What `endPlateau` keeps. -/
@[simp] theorem endPlateau_keeps (x : EvalSample) :
    (endPlateau x s).pending = s.pending ∧ (endPlateau x s).now = s.now ∧
    (endPlateau x s).sent = s.sent ∧ (endPlateau x s).choices = s.choices ∧
    (endPlateau x s).lif = s.lif ∧ (endPlateau x s).rtb.route = s.rtb.route ∧
    (endPlateau x s).lch = s.lch ∧ (endPlateau x s).xhu = s.xhu ∧ (endPlateau x s).exh = s.exh ∧
    (endPlateau x s).tsq = s.tsq ∧ (endPlateau x s).evu.strain = s.evu.strain ∧
    (endPlateau x s).evu.fm = s.evu.fm ∧ (endPlateau x s).evu.breakArmed = s.evu.breakArmed ∧
    (endPlateau x s).evu.window = s.evu.window ∧ (endPlateau x s).evu.fy = s.evu.fy ∧
    (endPlateau x s).evu.reh = s.evu.reh ∧ (endPlateau x s).evu.candidate = s.evu.candidate ∧
    (endPlateau x s).evu.chord = s.evu.chord ∧ (endPlateau x s).evu.point1 = s.evu.point1 ∧
    (endPlateau x s).evu.point2 = s.evu.point2 ∧ (endPlateau x s).evu.proof = s.evu.proof ∧
    (endPlateau x s).evu.breakSeen = s.evu.breakSeen ∧
    (endPlateau x s).evu.listOpen = s.evu.listOpen ∧ (endPlateau x s).evu.hasTest = s.evu.hasTest ∧
    (endPlateau x s).pru = s.pru ∧ (endPlateau x s).oln = s.oln ∧
    (endPlateau x s).cpt.outstanding = s.cpt.outstanding ∧
    (endPlateau x s).cpt.checkFailures = s.cpt.checkFailures ∧
    (endPlateau x s).cpt.overruns = s.cpt.overruns ∧
    (endPlateau x s).cpt.coalesced = s.cpt.coalesced ∧
    (endPlateau x s).cpt.streamOn = s.cpt.streamOn ∧
    (endPlateau x s).cpt.decimation = s.cpt.decimation ∧ (endPlateau x s).cpt.count = s.cpt.count ∧
    (endPlateau x s).cpt.fallbackAt = s.cpt.fallbackAt ∧
    (endPlateau x s).cpt.session = s.cpt.session ∧ (endPlateau x s).ntu.nlevels = s.ntu.nlevels ∧
    (endPlateau x s).tst = s.tst := by
  unfold endPlateau
  simp only []
  split <;> simp

/-- What `closeAtLimit` keeps. -/
@[simp] theorem closeAtLimit_keeps (x : EvalSample) :
    (closeAtLimit x s).pending = s.pending ∧ (closeAtLimit x s).now = s.now ∧
    (closeAtLimit x s).sent = s.sent ∧ (closeAtLimit x s).choices = s.choices ∧
    (closeAtLimit x s).lif = s.lif ∧ (closeAtLimit x s).rtb.route = s.rtb.route ∧
    (closeAtLimit x s).lch = s.lch ∧ (closeAtLimit x s).xhu = s.xhu ∧
    (closeAtLimit x s).exh = s.exh ∧ (closeAtLimit x s).tsq = s.tsq ∧
    (closeAtLimit x s).evu.strain = s.evu.strain ∧ (closeAtLimit x s).evu.fm = s.evu.fm ∧
    (closeAtLimit x s).evu.breakArmed = s.evu.breakArmed ∧
    (closeAtLimit x s).evu.window = s.evu.window ∧ (closeAtLimit x s).evu.fy = s.evu.fy ∧
    (closeAtLimit x s).evu.reh = s.evu.reh ∧ (closeAtLimit x s).evu.candidate = s.evu.candidate ∧
    (closeAtLimit x s).evu.chord = s.evu.chord ∧ (closeAtLimit x s).evu.point1 = s.evu.point1 ∧
    (closeAtLimit x s).evu.point2 = s.evu.point2 ∧ (closeAtLimit x s).evu.proof = s.evu.proof ∧
    (closeAtLimit x s).evu.breakSeen = s.evu.breakSeen ∧
    (closeAtLimit x s).evu.listOpen = s.evu.listOpen ∧
    (closeAtLimit x s).evu.hasTest = s.evu.hasTest ∧ (closeAtLimit x s).pru = s.pru ∧
    (closeAtLimit x s).oln = s.oln ∧ (closeAtLimit x s).cpt.outstanding = s.cpt.outstanding ∧
    (closeAtLimit x s).cpt.checkFailures = s.cpt.checkFailures ∧
    (closeAtLimit x s).cpt.overruns = s.cpt.overruns ∧
    (closeAtLimit x s).cpt.coalesced = s.cpt.coalesced ∧
    (closeAtLimit x s).cpt.streamOn = s.cpt.streamOn ∧
    (closeAtLimit x s).cpt.decimation = s.cpt.decimation ∧
    (closeAtLimit x s).cpt.count = s.cpt.count ∧
    (closeAtLimit x s).cpt.fallbackAt = s.cpt.fallbackAt ∧
    (closeAtLimit x s).cpt.session = s.cpt.session ∧
    (closeAtLimit x s).ntu.nlevels = s.ntu.nlevels ∧ (closeAtLimit x s).tst = s.tst := by
  unfold closeAtLimit
  split <;> simp

/-- What `evuEndOfTest` keeps. -/
@[simp] theorem evuEndOfTest_keeps (n : SeqState) (c : EndCause) (silent : Bool) :
    (evuEndOfTest n c silent s).pending = s.pending ∧ (evuEndOfTest n c silent s).now = s.now ∧
    (evuEndOfTest n c silent s).sent = s.sent ∧ (evuEndOfTest n c silent s).choices = s.choices ∧
    (evuEndOfTest n c silent s).lif = s.lif ∧ (evuEndOfTest n c silent s).rtb.route = s.rtb.route ∧
    (evuEndOfTest n c silent s).lch = s.lch ∧ (evuEndOfTest n c silent s).xhu = s.xhu ∧
    (evuEndOfTest n c silent s).exh = s.exh ∧ (evuEndOfTest n c silent s).tsq = s.tsq ∧
    (evuEndOfTest n c silent s).evu.strain = s.evu.strain ∧
    (evuEndOfTest n c silent s).evu.fm = s.evu.fm ∧
    (evuEndOfTest n c silent s).evu.breakArmed = s.evu.breakArmed ∧
    (evuEndOfTest n c silent s).evu.window = s.evu.window ∧
    (evuEndOfTest n c silent s).evu.fy = s.evu.fy ∧
    (evuEndOfTest n c silent s).evu.reh = s.evu.reh ∧
    (evuEndOfTest n c silent s).evu.candidate = s.evu.candidate ∧
    (evuEndOfTest n c silent s).evu.chord = s.evu.chord ∧
    (evuEndOfTest n c silent s).evu.point1 = s.evu.point1 ∧
    (evuEndOfTest n c silent s).evu.point2 = s.evu.point2 ∧
    (evuEndOfTest n c silent s).evu.proof = s.evu.proof ∧
    (evuEndOfTest n c silent s).evu.breakSeen = s.evu.breakSeen ∧
    (evuEndOfTest n c silent s).evu.hasTest = s.evu.hasTest ∧
    (evuEndOfTest n c silent s).pru = s.pru ∧ (evuEndOfTest n c silent s).oln = s.oln ∧
    (evuEndOfTest n c silent s).cpt.outstanding = s.cpt.outstanding ∧
    (evuEndOfTest n c silent s).cpt.checkFailures = s.cpt.checkFailures ∧
    (evuEndOfTest n c silent s).cpt.overruns = s.cpt.overruns ∧
    (evuEndOfTest n c silent s).cpt.coalesced = s.cpt.coalesced ∧
    (evuEndOfTest n c silent s).cpt.streamOn = s.cpt.streamOn ∧
    (evuEndOfTest n c silent s).cpt.decimation = s.cpt.decimation ∧
    (evuEndOfTest n c silent s).cpt.count = s.cpt.count ∧
    (evuEndOfTest n c silent s).cpt.fallbackAt = s.cpt.fallbackAt ∧
    (evuEndOfTest n c silent s).cpt.session = s.cpt.session ∧
    (evuEndOfTest n c silent s).ntu.nlevels = s.ntu.nlevels ∧
    (evuEndOfTest n c silent s).tst = s.tst := by
  unfold evuEndOfTest
  simp only []
  (repeat' split) <;> simp

/-- What `enterState` keeps. -/
@[simp] theorem enterState_keeps (n : SeqState) :
    (enterState n s).pending = s.pending ∧ (enterState n s).now = s.now ∧
    (enterState n s).sent = s.sent ∧ (enterState n s).choices = s.choices ∧
    (enterState n s).lif = s.lif ∧ (enterState n s).rtb = s.rtb ∧ (enterState n s).lch = s.lch ∧
    (enterState n s).xhu = s.xhu ∧ (enterState n s).exh = s.exh ∧
    (enterState n s).tsq.specimen = s.tsq.specimen ∧ (enterState n s).tsq.slot = s.tsq.slot ∧
    (enterState n s).tsq.phase = s.tsq.phase ∧ (enterState n s).tsq.phaseTimer = s.tsq.phaseTimer ∧
    (enterState n s).tsq.startedAt = s.tsq.startedAt ∧
    (enterState n s).tsq.limitAt = s.tsq.limitAt ∧ (enterState n s).tsq.testTime = s.tsq.testTime ∧
    (enterState n s).tsq.endCause = s.tsq.endCause ∧ (enterState n s).tsq.prog = s.tsq.prog ∧
    (enterState n s).evu = s.evu ∧ (enterState n s).pru = s.pru ∧ (enterState n s).oln = s.oln ∧
    (enterState n s).cpt = s.cpt ∧ (enterState n s).ntu = s.ntu ∧ (enterState n s).tst = s.tst := by
  simp [enterState]

/-- What `changeState` keeps. -/
@[simp] theorem changeState_keeps (n : SeqState) (c : TestCause) :
    (changeState n c s).pending = s.pending ∧ (changeState n c s).now = s.now ∧
    (changeState n c s).sent = s.sent ∧ (changeState n c s).choices = s.choices ∧
    (changeState n c s).lif = s.lif ∧ (changeState n c s).rtb.route = s.rtb.route ∧
    (changeState n c s).lch = s.lch ∧ (changeState n c s).xhu = s.xhu ∧
    (changeState n c s).exh = s.exh ∧ (changeState n c s).tsq.specimen = s.tsq.specimen ∧
    (changeState n c s).tsq.slot = s.tsq.slot ∧ (changeState n c s).tsq.phase = s.tsq.phase ∧
    (changeState n c s).tsq.phaseTimer = s.tsq.phaseTimer ∧
    (changeState n c s).tsq.startedAt = s.tsq.startedAt ∧
    (changeState n c s).tsq.limitAt = s.tsq.limitAt ∧
    (changeState n c s).tsq.testTime = s.tsq.testTime ∧
    (changeState n c s).tsq.endCause = s.tsq.endCause ∧ (changeState n c s).tsq.prog = s.tsq.prog ∧
    (changeState n c s).evu = s.evu ∧ (changeState n c s).pru.latch = s.pru.latch ∧
    (changeState n c s).pru.history = s.pru.history ∧
    (changeState n c s).pru.protset = s.pru.protset ∧ (changeState n c s).oln = s.oln ∧
    (changeState n c s).cpt.outstanding = s.cpt.outstanding ∧
    (changeState n c s).cpt.checkFailures = s.cpt.checkFailures ∧
    (changeState n c s).cpt.overruns = s.cpt.overruns ∧
    (changeState n c s).cpt.coalesced = s.cpt.coalesced ∧
    (changeState n c s).cpt.streamOn = s.cpt.streamOn ∧
    (changeState n c s).cpt.decimation = s.cpt.decimation ∧
    (changeState n c s).cpt.count = s.cpt.count ∧
    (changeState n c s).cpt.fallbackAt = s.cpt.fallbackAt ∧
    (changeState n c s).cpt.session = s.cpt.session ∧
    (changeState n c s).ntu.nlevels = s.ntu.nlevels ∧ (changeState n c s).tst = s.tst := by
  simp [changeState]

/-- What `releaseSpecimen` keeps. -/
@[simp] theorem releaseSpecimen_keeps :
    (releaseSpecimen s).pending = s.pending ∧ (releaseSpecimen s).now = s.now ∧
    (releaseSpecimen s).sent = s.sent ∧ (releaseSpecimen s).choices = s.choices ∧
    (releaseSpecimen s).lif = s.lif ∧ (releaseSpecimen s).rtb = s.rtb ∧
    (releaseSpecimen s).lch.tare = s.lch.tare ∧ (releaseSpecimen s).lch.last = s.lch.last ∧
    (releaseSpecimen s).lch.received = s.lch.received ∧
    (releaseSpecimen s).lch.requested = s.lch.requested ∧
    (releaseSpecimen s).lch.awaiting = s.lch.awaiting ∧
    (releaseSpecimen s).lch.repeatAt = s.lch.repeatAt ∧
    (releaseSpecimen s).lch.dwell = s.lch.dwell ∧ (releaseSpecimen s).lch.tareJob = s.lch.tareJob ∧
    (releaseSpecimen s).lch.cal = s.lch.cal ∧ (releaseSpecimen s).lch.loadset = s.lch.loadset ∧
    (releaseSpecimen s).xhu = s.xhu ∧ (releaseSpecimen s).exh = s.exh ∧
    (releaseSpecimen s).tsq.state = s.tsq.state ∧ (releaseSpecimen s).tsq.slot = s.tsq.slot ∧
    (releaseSpecimen s).tsq.phase = s.tsq.phase ∧
    (releaseSpecimen s).tsq.phaseBase = s.tsq.phaseBase ∧
    (releaseSpecimen s).tsq.phaseSince = s.tsq.phaseSince ∧
    (releaseSpecimen s).tsq.phaseTimer = s.tsq.phaseTimer ∧
    (releaseSpecimen s).tsq.startedAt = s.tsq.startedAt ∧
    (releaseSpecimen s).tsq.limitAt = s.tsq.limitAt ∧
    (releaseSpecimen s).tsq.testTime = s.tsq.testTime ∧
    (releaseSpecimen s).tsq.endCause = s.tsq.endCause ∧ (releaseSpecimen s).tsq.prog = s.tsq.prog ∧
    (releaseSpecimen s).evu = s.evu ∧ (releaseSpecimen s).pru = s.pru ∧
    (releaseSpecimen s).oln = s.oln ∧ (releaseSpecimen s).cpt = s.cpt ∧
    (releaseSpecimen s).ntu = s.ntu ∧ (releaseSpecimen s).tst = s.tst := by
  simp [releaseSpecimen]

/-- What `exhEndOfTest` keeps. -/
@[simp] theorem exhEndOfTest_keeps :
    (exhEndOfTest s).pending = s.pending ∧ (exhEndOfTest s).now = s.now ∧
    (exhEndOfTest s).sent = s.sent ∧ (exhEndOfTest s).choices = s.choices ∧
    (exhEndOfTest s).lif = s.lif ∧ (exhEndOfTest s).rtb = s.rtb ∧ (exhEndOfTest s).lch = s.lch ∧
    (exhEndOfTest s).xhu = s.xhu ∧ (exhEndOfTest s).exh.handler = s.exh.handler ∧
    (exhEndOfTest s).exh.latestA = s.exh.latestA ∧ (exhEndOfTest s).exh.latestB = s.exh.latestB ∧
    (exhEndOfTest s).exh.zeroA = s.exh.zeroA ∧ (exhEndOfTest s).exh.zeroB = s.exh.zeroB ∧
    (exhEndOfTest s).exh.deltaA = s.exh.deltaA ∧ (exhEndOfTest s).exh.deltaB = s.exh.deltaB ∧
    (exhEndOfTest s).exh.settleAt = s.exh.settleAt ∧
    (exhEndOfTest s).exh.averaging = s.exh.averaging ∧ (exhEndOfTest s).exh.pRef = s.exh.pRef ∧
    (exhEndOfTest s).exh.ox = s.exh.ox ∧ (exhEndOfTest s).exh.oe = s.exh.oe ∧
    (exhEndOfTest s).exh.lastExt = s.exh.lastExt ∧
    (exhEndOfTest s).exh.slipCount = s.exh.slipCount ∧ (exhEndOfTest s).exh.extset = s.exh.extset ∧
    (exhEndOfTest s).tsq = s.tsq ∧ (exhEndOfTest s).evu = s.evu ∧ (exhEndOfTest s).pru = s.pru ∧
    (exhEndOfTest s).oln = s.oln ∧ (exhEndOfTest s).cpt = s.cpt ∧ (exhEndOfTest s).ntu = s.ntu ∧
    (exhEndOfTest s).tst = s.tst := by
  unfold exhEndOfTest
  split <;> simp

/-- What `endTest` keeps. -/
@[simp] theorem endTest_keeps (n : SeqState) (c : EndCause) :
    (endTest n c s).pending = s.pending ∧ (endTest n c s).now = s.now ∧
    (endTest n c s).sent = s.sent ∧ (endTest n c s).choices = s.choices ∧
    (endTest n c s).lif = s.lif ∧ (endTest n c s).rtb.route = s.rtb.route ∧
    (endTest n c s).lch.tare = s.lch.tare ∧ (endTest n c s).lch.last = s.lch.last ∧
    (endTest n c s).lch.received = s.lch.received ∧
    (endTest n c s).lch.requested = s.lch.requested ∧
    (endTest n c s).lch.awaiting = s.lch.awaiting ∧ (endTest n c s).lch.repeatAt = s.lch.repeatAt ∧
    (endTest n c s).lch.dwell = s.lch.dwell ∧ (endTest n c s).lch.tareJob = s.lch.tareJob ∧
    (endTest n c s).lch.cal = s.lch.cal ∧ (endTest n c s).lch.loadset = s.lch.loadset ∧
    (endTest n c s).xhu.pos = s.xhu.pos ∧ (endTest n c s).xhu.good = s.xhu.good ∧
    (endTest n c s).xhu.demand = s.xhu.demand ∧ (endTest n c s).xhu.drive = s.xhu.drive ∧
    (endTest n c s).xhu.lastEnable = s.xhu.lastEnable ∧
    (endTest n c s).xhu.demandAt = s.xhu.demandAt ∧ (endTest n c s).xhu.strain = s.xhu.strain ∧
    (endTest n c s).xhu.xset = s.xhu.xset ∧ (endTest n c s).exh.handler = s.exh.handler ∧
    (endTest n c s).exh.latestA = s.exh.latestA ∧ (endTest n c s).exh.latestB = s.exh.latestB ∧
    (endTest n c s).exh.zeroA = s.exh.zeroA ∧ (endTest n c s).exh.zeroB = s.exh.zeroB ∧
    (endTest n c s).exh.deltaA = s.exh.deltaA ∧ (endTest n c s).exh.deltaB = s.exh.deltaB ∧
    (endTest n c s).exh.settleAt = s.exh.settleAt ∧
    (endTest n c s).exh.averaging = s.exh.averaging ∧ (endTest n c s).exh.pRef = s.exh.pRef ∧
    (endTest n c s).exh.ox = s.exh.ox ∧ (endTest n c s).exh.oe = s.exh.oe ∧
    (endTest n c s).exh.lastExt = s.exh.lastExt ∧ (endTest n c s).exh.slipCount = s.exh.slipCount ∧
    (endTest n c s).exh.extset = s.exh.extset ∧ (endTest n c s).tsq.slot = s.tsq.slot ∧
    (endTest n c s).tsq.phase = s.tsq.phase ∧ (endTest n c s).tsq.startedAt = s.tsq.startedAt ∧
    (endTest n c s).tsq.prog = s.tsq.prog ∧ (endTest n c s).evu.strain = s.evu.strain ∧
    (endTest n c s).evu.fm = s.evu.fm ∧ (endTest n c s).evu.breakArmed = s.evu.breakArmed ∧
    (endTest n c s).evu.window = s.evu.window ∧ (endTest n c s).evu.fy = s.evu.fy ∧
    (endTest n c s).evu.reh = s.evu.reh ∧ (endTest n c s).evu.candidate = s.evu.candidate ∧
    (endTest n c s).evu.chord = s.evu.chord ∧ (endTest n c s).evu.point1 = s.evu.point1 ∧
    (endTest n c s).evu.point2 = s.evu.point2 ∧ (endTest n c s).evu.proof = s.evu.proof ∧
    (endTest n c s).evu.breakSeen = s.evu.breakSeen ∧ (endTest n c s).evu.hasTest = s.evu.hasTest ∧
    (endTest n c s).pru.latch = s.pru.latch ∧ (endTest n c s).pru.history = s.pru.history ∧
    (endTest n c s).pru.protset = s.pru.protset ∧ (endTest n c s).oln = s.oln ∧
    (endTest n c s).cpt.outstanding = s.cpt.outstanding ∧
    (endTest n c s).cpt.checkFailures = s.cpt.checkFailures ∧
    (endTest n c s).cpt.overruns = s.cpt.overruns ∧
    (endTest n c s).cpt.coalesced = s.cpt.coalesced ∧
    (endTest n c s).cpt.streamOn = s.cpt.streamOn ∧
    (endTest n c s).cpt.decimation = s.cpt.decimation ∧ (endTest n c s).cpt.count = s.cpt.count ∧
    (endTest n c s).cpt.fallbackAt = s.cpt.fallbackAt ∧
    (endTest n c s).cpt.session = s.cpt.session ∧ (endTest n c s).ntu.nlevels = s.ntu.nlevels ∧
    (endTest n c s).tst = s.tst := by
  unfold endTest
  simp only []
  split <;> simp

/-- What `sequencerTrip` keeps. -/
@[simp] theorem sequencerTrip_keeps (c : TripClass) :
    (sequencerTrip c s).pending = s.pending ∧ (sequencerTrip c s).now = s.now ∧
    (sequencerTrip c s).sent = s.sent ∧ (sequencerTrip c s).choices = s.choices ∧
    (sequencerTrip c s).lif = s.lif ∧ (sequencerTrip c s).rtb.route = s.rtb.route ∧
    (sequencerTrip c s).lch.tare = s.lch.tare ∧ (sequencerTrip c s).lch.last = s.lch.last ∧
    (sequencerTrip c s).lch.received = s.lch.received ∧
    (sequencerTrip c s).lch.requested = s.lch.requested ∧
    (sequencerTrip c s).lch.awaiting = s.lch.awaiting ∧
    (sequencerTrip c s).lch.repeatAt = s.lch.repeatAt ∧
    (sequencerTrip c s).lch.dwell = s.lch.dwell ∧ (sequencerTrip c s).lch.tareJob = s.lch.tareJob ∧
    (sequencerTrip c s).lch.cal = s.lch.cal ∧ (sequencerTrip c s).lch.loadset = s.lch.loadset ∧
    (sequencerTrip c s).xhu = s.xhu ∧ (sequencerTrip c s).exh = s.exh ∧
    (sequencerTrip c s).tsq.phase = s.tsq.phase ∧
    (sequencerTrip c s).tsq.phaseTimer = s.tsq.phaseTimer ∧
    (sequencerTrip c s).tsq.startedAt = s.tsq.startedAt ∧
    (sequencerTrip c s).tsq.limitAt = s.tsq.limitAt ∧
    (sequencerTrip c s).tsq.testTime = s.tsq.testTime ∧
    (sequencerTrip c s).tsq.endCause = s.tsq.endCause ∧ (sequencerTrip c s).tsq.prog = s.tsq.prog ∧
    (sequencerTrip c s).evu.strain = s.evu.strain ∧
    (sequencerTrip c s).evu.breakArmed = s.evu.breakArmed ∧
    (sequencerTrip c s).evu.window = s.evu.window ∧ (sequencerTrip c s).evu.search = s.evu.search ∧
    (sequencerTrip c s).evu.fy = s.evu.fy ∧ (sequencerTrip c s).evu.reh = s.evu.reh ∧
    (sequencerTrip c s).evu.candidate = s.evu.candidate ∧
    (sequencerTrip c s).evu.chord = s.evu.chord ∧ (sequencerTrip c s).evu.point1 = s.evu.point1 ∧
    (sequencerTrip c s).evu.point2 = s.evu.point2 ∧ (sequencerTrip c s).evu.proof = s.evu.proof ∧
    (sequencerTrip c s).evu.breakSeen = s.evu.breakSeen ∧
    (sequencerTrip c s).evu.listOpen = s.evu.listOpen ∧
    (sequencerTrip c s).evu.hasTest = s.evu.hasTest ∧ (sequencerTrip c s).pru.latch = s.pru.latch ∧
    (sequencerTrip c s).pru.history = s.pru.history ∧
    (sequencerTrip c s).pru.protset = s.pru.protset ∧ (sequencerTrip c s).oln = s.oln ∧
    (sequencerTrip c s).cpt.outstanding = s.cpt.outstanding ∧
    (sequencerTrip c s).cpt.checkFailures = s.cpt.checkFailures ∧
    (sequencerTrip c s).cpt.overruns = s.cpt.overruns ∧
    (sequencerTrip c s).cpt.coalesced = s.cpt.coalesced ∧
    (sequencerTrip c s).cpt.streamOn = s.cpt.streamOn ∧
    (sequencerTrip c s).cpt.decimation = s.cpt.decimation ∧
    (sequencerTrip c s).cpt.count = s.cpt.count ∧
    (sequencerTrip c s).cpt.fallbackAt = s.cpt.fallbackAt ∧
    (sequencerTrip c s).cpt.session = s.cpt.session ∧
    (sequencerTrip c s).ntu.nlevels = s.ntu.nlevels ∧ (sequencerTrip c s).tst = s.tst := by
  unfold sequencerTrip
  split <;> simp

/-- What `updateHistory` keeps. -/
@[simp] theorem updateHistory_keeps (c : TripClass) (x : LastTrip) :
    (updateHistory c x s).pending = s.pending ∧ (updateHistory c x s).now = s.now ∧
    (updateHistory c x s).sent = s.sent ∧ (updateHistory c x s).choices = s.choices ∧
    (updateHistory c x s).lif = s.lif ∧ (updateHistory c x s).rtb = s.rtb ∧
    (updateHistory c x s).lch = s.lch ∧ (updateHistory c x s).xhu = s.xhu ∧
    (updateHistory c x s).exh = s.exh ∧ (updateHistory c x s).tsq = s.tsq ∧
    (updateHistory c x s).evu = s.evu ∧ (updateHistory c x s).pru.conditions = s.pru.conditions ∧
    (updateHistory c x s).pru.loadLossAt = s.pru.loadLossAt ∧
    (updateHistory c x s).pru.latch = s.pru.latch ∧
    (updateHistory c x s).pru.protset = s.pru.protset ∧ (updateHistory c x s).oln = s.oln ∧
    (updateHistory c x s).cpt = s.cpt ∧ (updateHistory c x s).ntu = s.ntu ∧
    (updateHistory c x s).tst = s.tst := by
  simp [updateHistory]

/-- What `trip` keeps. -/
@[simp] theorem trip_keeps (c : TripClass) :
    (trip c s).pending = s.pending ∧ (trip c s).now = s.now ∧ (trip c s).sent = s.sent ∧
    (trip c s).choices = s.choices ∧ (trip c s).lif = s.lif ∧ (trip c s).rtb.route = s.rtb.route ∧
    (trip c s).lch.tare = s.lch.tare ∧ (trip c s).lch.last = s.lch.last ∧
    (trip c s).lch.received = s.lch.received ∧ (trip c s).lch.requested = s.lch.requested ∧
    (trip c s).lch.awaiting = s.lch.awaiting ∧ (trip c s).lch.repeatAt = s.lch.repeatAt ∧
    (trip c s).lch.dwell = s.lch.dwell ∧ (trip c s).lch.tareJob = s.lch.tareJob ∧
    (trip c s).lch.cal = s.lch.cal ∧ (trip c s).lch.loadset = s.lch.loadset ∧
    (trip c s).xhu.pos = s.xhu.pos ∧ (trip c s).xhu.good = s.xhu.good ∧
    (trip c s).xhu.demand = s.xhu.demand ∧ (trip c s).xhu.drive = s.xhu.drive ∧
    (trip c s).xhu.lastEnable = s.xhu.lastEnable ∧ (trip c s).xhu.demandAt = s.xhu.demandAt ∧
    (trip c s).xhu.strain = s.xhu.strain ∧ (trip c s).xhu.xset = s.xhu.xset ∧
    (trip c s).exh = s.exh ∧ (trip c s).tsq.phase = s.tsq.phase ∧
    (trip c s).tsq.phaseTimer = s.tsq.phaseTimer ∧ (trip c s).tsq.startedAt = s.tsq.startedAt ∧
    (trip c s).tsq.limitAt = s.tsq.limitAt ∧ (trip c s).tsq.testTime = s.tsq.testTime ∧
    (trip c s).tsq.endCause = s.tsq.endCause ∧ (trip c s).tsq.prog = s.tsq.prog ∧
    (trip c s).evu.strain = s.evu.strain ∧ (trip c s).evu.breakArmed = s.evu.breakArmed ∧
    (trip c s).evu.window = s.evu.window ∧ (trip c s).evu.search = s.evu.search ∧
    (trip c s).evu.fy = s.evu.fy ∧ (trip c s).evu.reh = s.evu.reh ∧
    (trip c s).evu.candidate = s.evu.candidate ∧ (trip c s).evu.chord = s.evu.chord ∧
    (trip c s).evu.point1 = s.evu.point1 ∧ (trip c s).evu.point2 = s.evu.point2 ∧
    (trip c s).evu.proof = s.evu.proof ∧ (trip c s).evu.breakSeen = s.evu.breakSeen ∧
    (trip c s).evu.listOpen = s.evu.listOpen ∧ (trip c s).evu.hasTest = s.evu.hasTest ∧
    (trip c s).pru.protset = s.pru.protset ∧ (trip c s).oln = s.oln ∧
    (trip c s).cpt.outstanding = s.cpt.outstanding ∧
    (trip c s).cpt.checkFailures = s.cpt.checkFailures ∧ (trip c s).cpt.overruns = s.cpt.overruns ∧
    (trip c s).cpt.coalesced = s.cpt.coalesced ∧ (trip c s).cpt.streamOn = s.cpt.streamOn ∧
    (trip c s).cpt.decimation = s.cpt.decimation ∧ (trip c s).cpt.count = s.cpt.count ∧
    (trip c s).cpt.fallbackAt = s.cpt.fallbackAt ∧ (trip c s).cpt.session = s.cpt.session ∧
    (trip c s).ntu.nlevels = s.ntu.nlevels ∧ (trip c s).tst = s.tst := by
  unfold trip
  split <;> simp

/-- What `spend` keeps. -/
@[simp] theorem spend_keeps (c : TripClass) :
    (spend c s).pending = s.pending ∧ (spend c s).now = s.now ∧ (spend c s).sent = s.sent ∧
    (spend c s).choices = s.choices ∧ (spend c s).lif = s.lif ∧
    (spend c s).rtb.route = s.rtb.route ∧ (spend c s).lch.tare = s.lch.tare ∧
    (spend c s).lch.last = s.lch.last ∧ (spend c s).lch.received = s.lch.received ∧
    (spend c s).lch.requested = s.lch.requested ∧ (spend c s).lch.awaiting = s.lch.awaiting ∧
    (spend c s).lch.repeatAt = s.lch.repeatAt ∧ (spend c s).lch.dwell = s.lch.dwell ∧
    (spend c s).lch.tareJob = s.lch.tareJob ∧ (spend c s).lch.cal = s.lch.cal ∧
    (spend c s).lch.loadset = s.lch.loadset ∧ (spend c s).xhu.pos = s.xhu.pos ∧
    (spend c s).xhu.good = s.xhu.good ∧ (spend c s).xhu.demand = s.xhu.demand ∧
    (spend c s).xhu.drive = s.xhu.drive ∧ (spend c s).xhu.lastEnable = s.xhu.lastEnable ∧
    (spend c s).xhu.demandAt = s.xhu.demandAt ∧ (spend c s).xhu.strain = s.xhu.strain ∧
    (spend c s).xhu.xset = s.xhu.xset ∧ (spend c s).exh = s.exh ∧
    (spend c s).tsq.phase = s.tsq.phase ∧ (spend c s).tsq.phaseTimer = s.tsq.phaseTimer ∧
    (spend c s).tsq.startedAt = s.tsq.startedAt ∧ (spend c s).tsq.limitAt = s.tsq.limitAt ∧
    (spend c s).tsq.testTime = s.tsq.testTime ∧ (spend c s).tsq.endCause = s.tsq.endCause ∧
    (spend c s).tsq.prog = s.tsq.prog ∧ (spend c s).evu.strain = s.evu.strain ∧
    (spend c s).evu.breakArmed = s.evu.breakArmed ∧ (spend c s).evu.window = s.evu.window ∧
    (spend c s).evu.search = s.evu.search ∧ (spend c s).evu.fy = s.evu.fy ∧
    (spend c s).evu.reh = s.evu.reh ∧ (spend c s).evu.candidate = s.evu.candidate ∧
    (spend c s).evu.chord = s.evu.chord ∧ (spend c s).evu.point1 = s.evu.point1 ∧
    (spend c s).evu.point2 = s.evu.point2 ∧ (spend c s).evu.proof = s.evu.proof ∧
    (spend c s).evu.breakSeen = s.evu.breakSeen ∧ (spend c s).evu.listOpen = s.evu.listOpen ∧
    (spend c s).evu.hasTest = s.evu.hasTest ∧ (spend c s).pru.protset = s.pru.protset ∧
    (spend c s).oln = s.oln ∧ (spend c s).cpt.outstanding = s.cpt.outstanding ∧
    (spend c s).cpt.checkFailures = s.cpt.checkFailures ∧
    (spend c s).cpt.overruns = s.cpt.overruns ∧ (spend c s).cpt.coalesced = s.cpt.coalesced ∧
    (spend c s).cpt.streamOn = s.cpt.streamOn ∧ (spend c s).cpt.decimation = s.cpt.decimation ∧
    (spend c s).cpt.count = s.cpt.count ∧ (spend c s).cpt.fallbackAt = s.cpt.fallbackAt ∧
    (spend c s).cpt.session = s.cpt.session ∧ (spend c s).ntu.nlevels = s.ntu.nlevels ∧
    (spend c s).tst = s.tst := by
  simp [spend]

/-- What `judgeDelayed` keeps. -/
@[simp] theorem judgeDelayed_keeps (c : TripClass) (h : Bool) (d : Nat) :
    (judgeDelayed c h d s).pending = s.pending ∧ (judgeDelayed c h d s).now = s.now ∧
    (judgeDelayed c h d s).sent = s.sent ∧ (judgeDelayed c h d s).choices = s.choices ∧
    (judgeDelayed c h d s).lif = s.lif ∧ (judgeDelayed c h d s).rtb.route = s.rtb.route ∧
    (judgeDelayed c h d s).lch.tare = s.lch.tare ∧ (judgeDelayed c h d s).lch.last = s.lch.last ∧
    (judgeDelayed c h d s).lch.received = s.lch.received ∧
    (judgeDelayed c h d s).lch.requested = s.lch.requested ∧
    (judgeDelayed c h d s).lch.awaiting = s.lch.awaiting ∧
    (judgeDelayed c h d s).lch.repeatAt = s.lch.repeatAt ∧
    (judgeDelayed c h d s).lch.dwell = s.lch.dwell ∧
    (judgeDelayed c h d s).lch.tareJob = s.lch.tareJob ∧
    (judgeDelayed c h d s).lch.cal = s.lch.cal ∧
    (judgeDelayed c h d s).lch.loadset = s.lch.loadset ∧
    (judgeDelayed c h d s).xhu.pos = s.xhu.pos ∧ (judgeDelayed c h d s).xhu.good = s.xhu.good ∧
    (judgeDelayed c h d s).xhu.demand = s.xhu.demand ∧
    (judgeDelayed c h d s).xhu.drive = s.xhu.drive ∧
    (judgeDelayed c h d s).xhu.lastEnable = s.xhu.lastEnable ∧
    (judgeDelayed c h d s).xhu.demandAt = s.xhu.demandAt ∧
    (judgeDelayed c h d s).xhu.strain = s.xhu.strain ∧
    (judgeDelayed c h d s).xhu.xset = s.xhu.xset ∧ (judgeDelayed c h d s).exh = s.exh ∧
    (judgeDelayed c h d s).tsq.phase = s.tsq.phase ∧
    (judgeDelayed c h d s).tsq.phaseTimer = s.tsq.phaseTimer ∧
    (judgeDelayed c h d s).tsq.startedAt = s.tsq.startedAt ∧
    (judgeDelayed c h d s).tsq.limitAt = s.tsq.limitAt ∧
    (judgeDelayed c h d s).tsq.testTime = s.tsq.testTime ∧
    (judgeDelayed c h d s).tsq.endCause = s.tsq.endCause ∧
    (judgeDelayed c h d s).tsq.prog = s.tsq.prog ∧
    (judgeDelayed c h d s).evu.strain = s.evu.strain ∧
    (judgeDelayed c h d s).evu.breakArmed = s.evu.breakArmed ∧
    (judgeDelayed c h d s).evu.window = s.evu.window ∧
    (judgeDelayed c h d s).evu.search = s.evu.search ∧ (judgeDelayed c h d s).evu.fy = s.evu.fy ∧
    (judgeDelayed c h d s).evu.reh = s.evu.reh ∧
    (judgeDelayed c h d s).evu.candidate = s.evu.candidate ∧
    (judgeDelayed c h d s).evu.chord = s.evu.chord ∧
    (judgeDelayed c h d s).evu.point1 = s.evu.point1 ∧
    (judgeDelayed c h d s).evu.point2 = s.evu.point2 ∧
    (judgeDelayed c h d s).evu.proof = s.evu.proof ∧
    (judgeDelayed c h d s).evu.breakSeen = s.evu.breakSeen ∧
    (judgeDelayed c h d s).evu.listOpen = s.evu.listOpen ∧
    (judgeDelayed c h d s).evu.hasTest = s.evu.hasTest ∧
    (judgeDelayed c h d s).pru.protset = s.pru.protset ∧ (judgeDelayed c h d s).oln = s.oln ∧
    (judgeDelayed c h d s).cpt.outstanding = s.cpt.outstanding ∧
    (judgeDelayed c h d s).cpt.checkFailures = s.cpt.checkFailures ∧
    (judgeDelayed c h d s).cpt.overruns = s.cpt.overruns ∧
    (judgeDelayed c h d s).cpt.coalesced = s.cpt.coalesced ∧
    (judgeDelayed c h d s).cpt.streamOn = s.cpt.streamOn ∧
    (judgeDelayed c h d s).cpt.decimation = s.cpt.decimation ∧
    (judgeDelayed c h d s).cpt.count = s.cpt.count ∧
    (judgeDelayed c h d s).cpt.fallbackAt = s.cpt.fallbackAt ∧
    (judgeDelayed c h d s).cpt.session = s.cpt.session ∧
    (judgeDelayed c h d s).ntu.nlevels = s.ntu.nlevels ∧ (judgeDelayed c h d s).tst = s.tst := by
  unfold judgeDelayed
  (repeat' split) <;> simp

/-- What `judgeAtOnce` keeps. -/
@[simp] theorem judgeAtOnce_keeps (c : TripClass) (h : Bool) :
    (judgeAtOnce c h s).pending = s.pending ∧ (judgeAtOnce c h s).now = s.now ∧
    (judgeAtOnce c h s).sent = s.sent ∧ (judgeAtOnce c h s).choices = s.choices ∧
    (judgeAtOnce c h s).lif = s.lif ∧ (judgeAtOnce c h s).rtb.route = s.rtb.route ∧
    (judgeAtOnce c h s).lch.tare = s.lch.tare ∧ (judgeAtOnce c h s).lch.last = s.lch.last ∧
    (judgeAtOnce c h s).lch.received = s.lch.received ∧
    (judgeAtOnce c h s).lch.requested = s.lch.requested ∧
    (judgeAtOnce c h s).lch.awaiting = s.lch.awaiting ∧
    (judgeAtOnce c h s).lch.repeatAt = s.lch.repeatAt ∧
    (judgeAtOnce c h s).lch.dwell = s.lch.dwell ∧ (judgeAtOnce c h s).lch.tareJob = s.lch.tareJob ∧
    (judgeAtOnce c h s).lch.cal = s.lch.cal ∧ (judgeAtOnce c h s).lch.loadset = s.lch.loadset ∧
    (judgeAtOnce c h s).xhu.pos = s.xhu.pos ∧ (judgeAtOnce c h s).xhu.good = s.xhu.good ∧
    (judgeAtOnce c h s).xhu.demand = s.xhu.demand ∧ (judgeAtOnce c h s).xhu.drive = s.xhu.drive ∧
    (judgeAtOnce c h s).xhu.lastEnable = s.xhu.lastEnable ∧
    (judgeAtOnce c h s).xhu.demandAt = s.xhu.demandAt ∧
    (judgeAtOnce c h s).xhu.strain = s.xhu.strain ∧ (judgeAtOnce c h s).xhu.xset = s.xhu.xset ∧
    (judgeAtOnce c h s).exh = s.exh ∧ (judgeAtOnce c h s).tsq.phase = s.tsq.phase ∧
    (judgeAtOnce c h s).tsq.phaseTimer = s.tsq.phaseTimer ∧
    (judgeAtOnce c h s).tsq.startedAt = s.tsq.startedAt ∧
    (judgeAtOnce c h s).tsq.limitAt = s.tsq.limitAt ∧
    (judgeAtOnce c h s).tsq.testTime = s.tsq.testTime ∧
    (judgeAtOnce c h s).tsq.endCause = s.tsq.endCause ∧ (judgeAtOnce c h s).tsq.prog = s.tsq.prog ∧
    (judgeAtOnce c h s).evu.strain = s.evu.strain ∧
    (judgeAtOnce c h s).evu.breakArmed = s.evu.breakArmed ∧
    (judgeAtOnce c h s).evu.window = s.evu.window ∧ (judgeAtOnce c h s).evu.search = s.evu.search ∧
    (judgeAtOnce c h s).evu.fy = s.evu.fy ∧ (judgeAtOnce c h s).evu.reh = s.evu.reh ∧
    (judgeAtOnce c h s).evu.candidate = s.evu.candidate ∧
    (judgeAtOnce c h s).evu.chord = s.evu.chord ∧ (judgeAtOnce c h s).evu.point1 = s.evu.point1 ∧
    (judgeAtOnce c h s).evu.point2 = s.evu.point2 ∧ (judgeAtOnce c h s).evu.proof = s.evu.proof ∧
    (judgeAtOnce c h s).evu.breakSeen = s.evu.breakSeen ∧
    (judgeAtOnce c h s).evu.listOpen = s.evu.listOpen ∧
    (judgeAtOnce c h s).evu.hasTest = s.evu.hasTest ∧
    (judgeAtOnce c h s).pru.protset = s.pru.protset ∧ (judgeAtOnce c h s).oln = s.oln ∧
    (judgeAtOnce c h s).cpt.outstanding = s.cpt.outstanding ∧
    (judgeAtOnce c h s).cpt.checkFailures = s.cpt.checkFailures ∧
    (judgeAtOnce c h s).cpt.overruns = s.cpt.overruns ∧
    (judgeAtOnce c h s).cpt.coalesced = s.cpt.coalesced ∧
    (judgeAtOnce c h s).cpt.streamOn = s.cpt.streamOn ∧
    (judgeAtOnce c h s).cpt.decimation = s.cpt.decimation ∧
    (judgeAtOnce c h s).cpt.count = s.cpt.count ∧
    (judgeAtOnce c h s).cpt.fallbackAt = s.cpt.fallbackAt ∧
    (judgeAtOnce c h s).cpt.session = s.cpt.session ∧
    (judgeAtOnce c h s).ntu.nlevels = s.ntu.nlevels ∧ (judgeAtOnce c h s).tst = s.tst := by
  unfold judgeAtOnce
  (repeat' split) <;> simp

/-- What `judgeTension2` keeps. -/
@[simp] theorem judgeTension2_keeps (h : Bool) (n : Nat) :
    (judgeTension2 h n s).pending = s.pending ∧ (judgeTension2 h n s).now = s.now ∧
    (judgeTension2 h n s).sent = s.sent ∧ (judgeTension2 h n s).choices = s.choices ∧
    (judgeTension2 h n s).lif = s.lif ∧ (judgeTension2 h n s).rtb.route = s.rtb.route ∧
    (judgeTension2 h n s).lch.tare = s.lch.tare ∧ (judgeTension2 h n s).lch.last = s.lch.last ∧
    (judgeTension2 h n s).lch.received = s.lch.received ∧
    (judgeTension2 h n s).lch.requested = s.lch.requested ∧
    (judgeTension2 h n s).lch.awaiting = s.lch.awaiting ∧
    (judgeTension2 h n s).lch.repeatAt = s.lch.repeatAt ∧
    (judgeTension2 h n s).lch.dwell = s.lch.dwell ∧
    (judgeTension2 h n s).lch.tareJob = s.lch.tareJob ∧ (judgeTension2 h n s).lch.cal = s.lch.cal ∧
    (judgeTension2 h n s).lch.loadset = s.lch.loadset ∧ (judgeTension2 h n s).xhu.pos = s.xhu.pos ∧
    (judgeTension2 h n s).xhu.good = s.xhu.good ∧ (judgeTension2 h n s).xhu.demand = s.xhu.demand ∧
    (judgeTension2 h n s).xhu.drive = s.xhu.drive ∧
    (judgeTension2 h n s).xhu.lastEnable = s.xhu.lastEnable ∧
    (judgeTension2 h n s).xhu.demandAt = s.xhu.demandAt ∧
    (judgeTension2 h n s).xhu.strain = s.xhu.strain ∧ (judgeTension2 h n s).xhu.xset = s.xhu.xset ∧
    (judgeTension2 h n s).exh = s.exh ∧ (judgeTension2 h n s).tsq.phase = s.tsq.phase ∧
    (judgeTension2 h n s).tsq.phaseTimer = s.tsq.phaseTimer ∧
    (judgeTension2 h n s).tsq.startedAt = s.tsq.startedAt ∧
    (judgeTension2 h n s).tsq.limitAt = s.tsq.limitAt ∧
    (judgeTension2 h n s).tsq.testTime = s.tsq.testTime ∧
    (judgeTension2 h n s).tsq.endCause = s.tsq.endCause ∧
    (judgeTension2 h n s).tsq.prog = s.tsq.prog ∧ (judgeTension2 h n s).evu.strain = s.evu.strain ∧
    (judgeTension2 h n s).evu.breakArmed = s.evu.breakArmed ∧
    (judgeTension2 h n s).evu.window = s.evu.window ∧
    (judgeTension2 h n s).evu.search = s.evu.search ∧ (judgeTension2 h n s).evu.fy = s.evu.fy ∧
    (judgeTension2 h n s).evu.reh = s.evu.reh ∧
    (judgeTension2 h n s).evu.candidate = s.evu.candidate ∧
    (judgeTension2 h n s).evu.chord = s.evu.chord ∧
    (judgeTension2 h n s).evu.point1 = s.evu.point1 ∧
    (judgeTension2 h n s).evu.point2 = s.evu.point2 ∧
    (judgeTension2 h n s).evu.proof = s.evu.proof ∧
    (judgeTension2 h n s).evu.breakSeen = s.evu.breakSeen ∧
    (judgeTension2 h n s).evu.listOpen = s.evu.listOpen ∧
    (judgeTension2 h n s).evu.hasTest = s.evu.hasTest ∧
    (judgeTension2 h n s).pru.protset = s.pru.protset ∧ (judgeTension2 h n s).oln = s.oln ∧
    (judgeTension2 h n s).cpt.outstanding = s.cpt.outstanding ∧
    (judgeTension2 h n s).cpt.checkFailures = s.cpt.checkFailures ∧
    (judgeTension2 h n s).cpt.overruns = s.cpt.overruns ∧
    (judgeTension2 h n s).cpt.coalesced = s.cpt.coalesced ∧
    (judgeTension2 h n s).cpt.streamOn = s.cpt.streamOn ∧
    (judgeTension2 h n s).cpt.decimation = s.cpt.decimation ∧
    (judgeTension2 h n s).cpt.count = s.cpt.count ∧
    (judgeTension2 h n s).cpt.fallbackAt = s.cpt.fallbackAt ∧
    (judgeTension2 h n s).cpt.session = s.cpt.session ∧
    (judgeTension2 h n s).ntu.nlevels = s.ntu.nlevels ∧ (judgeTension2 h n s).tst = s.tst := by
  unfold judgeTension2
  (repeat' split) <;> simp

/-- What `clearForceConditions` keeps. -/
@[simp] theorem clearForceConditions_keeps :
    (clearForceConditions s).pending = s.pending ∧ (clearForceConditions s).now = s.now ∧
    (clearForceConditions s).sent = s.sent ∧ (clearForceConditions s).choices = s.choices ∧
    (clearForceConditions s).lif = s.lif ∧ (clearForceConditions s).rtb = s.rtb ∧
    (clearForceConditions s).lch = s.lch ∧ (clearForceConditions s).xhu = s.xhu ∧
    (clearForceConditions s).exh = s.exh ∧ (clearForceConditions s).tsq = s.tsq ∧
    (clearForceConditions s).evu = s.evu ∧
    (clearForceConditions s).pru.loadLossAt = s.pru.loadLossAt ∧
    (clearForceConditions s).pru.latch = s.pru.latch ∧
    (clearForceConditions s).pru.history = s.pru.history ∧
    (clearForceConditions s).pru.protset = s.pru.protset ∧ (clearForceConditions s).oln = s.oln ∧
    (clearForceConditions s).cpt = s.cpt ∧ (clearForceConditions s).ntu = s.ntu ∧
    (clearForceConditions s).tst = s.tst := by
  simp [clearForceConditions]

/-- What `protectDemand` keeps. -/
@[simp] theorem protectDemand_keeps (d : Int) (e : Bool) :
    (protectDemand d e s).pending = s.pending ∧ (protectDemand d e s).now = s.now ∧
    (protectDemand d e s).sent = s.sent ∧ (protectDemand d e s).choices = s.choices ∧
    (protectDemand d e s).lif = s.lif ∧ (protectDemand d e s).rtb.route = s.rtb.route ∧
    (protectDemand d e s).lch.tare = s.lch.tare ∧ (protectDemand d e s).lch.last = s.lch.last ∧
    (protectDemand d e s).lch.received = s.lch.received ∧
    (protectDemand d e s).lch.requested = s.lch.requested ∧
    (protectDemand d e s).lch.awaiting = s.lch.awaiting ∧
    (protectDemand d e s).lch.repeatAt = s.lch.repeatAt ∧
    (protectDemand d e s).lch.dwell = s.lch.dwell ∧
    (protectDemand d e s).lch.tareJob = s.lch.tareJob ∧ (protectDemand d e s).lch.cal = s.lch.cal ∧
    (protectDemand d e s).lch.loadset = s.lch.loadset ∧ (protectDemand d e s).xhu.pos = s.xhu.pos ∧
    (protectDemand d e s).xhu.good = s.xhu.good ∧ (protectDemand d e s).xhu.demand = s.xhu.demand ∧
    (protectDemand d e s).xhu.drive = s.xhu.drive ∧
    (protectDemand d e s).xhu.lastEnable = s.xhu.lastEnable ∧
    (protectDemand d e s).xhu.demandAt = s.xhu.demandAt ∧
    (protectDemand d e s).xhu.strain = s.xhu.strain ∧ (protectDemand d e s).xhu.xset = s.xhu.xset ∧
    (protectDemand d e s).exh = s.exh ∧ (protectDemand d e s).tsq.phase = s.tsq.phase ∧
    (protectDemand d e s).tsq.phaseTimer = s.tsq.phaseTimer ∧
    (protectDemand d e s).tsq.startedAt = s.tsq.startedAt ∧
    (protectDemand d e s).tsq.limitAt = s.tsq.limitAt ∧
    (protectDemand d e s).tsq.testTime = s.tsq.testTime ∧
    (protectDemand d e s).tsq.endCause = s.tsq.endCause ∧
    (protectDemand d e s).tsq.prog = s.tsq.prog ∧ (protectDemand d e s).evu.strain = s.evu.strain ∧
    (protectDemand d e s).evu.breakArmed = s.evu.breakArmed ∧
    (protectDemand d e s).evu.window = s.evu.window ∧
    (protectDemand d e s).evu.search = s.evu.search ∧ (protectDemand d e s).evu.fy = s.evu.fy ∧
    (protectDemand d e s).evu.reh = s.evu.reh ∧
    (protectDemand d e s).evu.candidate = s.evu.candidate ∧
    (protectDemand d e s).evu.chord = s.evu.chord ∧
    (protectDemand d e s).evu.point1 = s.evu.point1 ∧
    (protectDemand d e s).evu.point2 = s.evu.point2 ∧
    (protectDemand d e s).evu.proof = s.evu.proof ∧
    (protectDemand d e s).evu.breakSeen = s.evu.breakSeen ∧
    (protectDemand d e s).evu.listOpen = s.evu.listOpen ∧
    (protectDemand d e s).evu.hasTest = s.evu.hasTest ∧
    (protectDemand d e s).pru.protset = s.pru.protset ∧ (protectDemand d e s).oln = s.oln ∧
    (protectDemand d e s).cpt.outstanding = s.cpt.outstanding ∧
    (protectDemand d e s).cpt.checkFailures = s.cpt.checkFailures ∧
    (protectDemand d e s).cpt.overruns = s.cpt.overruns ∧
    (protectDemand d e s).cpt.coalesced = s.cpt.coalesced ∧
    (protectDemand d e s).cpt.streamOn = s.cpt.streamOn ∧
    (protectDemand d e s).cpt.decimation = s.cpt.decimation ∧
    (protectDemand d e s).cpt.count = s.cpt.count ∧
    (protectDemand d e s).cpt.fallbackAt = s.cpt.fallbackAt ∧
    (protectDemand d e s).cpt.session = s.cpt.session ∧
    (protectDemand d e s).ntu.nlevels = s.ntu.nlevels ∧ (protectDemand d e s).tst = s.tst := by
  unfold protectDemand
  split <;> simp

/-- What `protectPosition` keeps. -/
@[simp] theorem protectPosition_keeps :
    (protectPosition s).pending = s.pending ∧ (protectPosition s).now = s.now ∧
    (protectPosition s).sent = s.sent ∧ (protectPosition s).choices = s.choices ∧
    (protectPosition s).lif = s.lif ∧ (protectPosition s).rtb.route = s.rtb.route ∧
    (protectPosition s).lch.tare = s.lch.tare ∧ (protectPosition s).lch.last = s.lch.last ∧
    (protectPosition s).lch.received = s.lch.received ∧
    (protectPosition s).lch.requested = s.lch.requested ∧
    (protectPosition s).lch.awaiting = s.lch.awaiting ∧
    (protectPosition s).lch.repeatAt = s.lch.repeatAt ∧
    (protectPosition s).lch.dwell = s.lch.dwell ∧ (protectPosition s).lch.tareJob = s.lch.tareJob ∧
    (protectPosition s).lch.cal = s.lch.cal ∧ (protectPosition s).lch.loadset = s.lch.loadset ∧
    (protectPosition s).xhu.pos = s.xhu.pos ∧ (protectPosition s).xhu.good = s.xhu.good ∧
    (protectPosition s).xhu.demand = s.xhu.demand ∧ (protectPosition s).xhu.drive = s.xhu.drive ∧
    (protectPosition s).xhu.lastEnable = s.xhu.lastEnable ∧
    (protectPosition s).xhu.demandAt = s.xhu.demandAt ∧
    (protectPosition s).xhu.strain = s.xhu.strain ∧ (protectPosition s).xhu.xset = s.xhu.xset ∧
    (protectPosition s).exh = s.exh ∧ (protectPosition s).tsq.phase = s.tsq.phase ∧
    (protectPosition s).tsq.phaseTimer = s.tsq.phaseTimer ∧
    (protectPosition s).tsq.startedAt = s.tsq.startedAt ∧
    (protectPosition s).tsq.limitAt = s.tsq.limitAt ∧
    (protectPosition s).tsq.testTime = s.tsq.testTime ∧
    (protectPosition s).tsq.endCause = s.tsq.endCause ∧ (protectPosition s).tsq.prog = s.tsq.prog ∧
    (protectPosition s).evu.strain = s.evu.strain ∧
    (protectPosition s).evu.breakArmed = s.evu.breakArmed ∧
    (protectPosition s).evu.window = s.evu.window ∧ (protectPosition s).evu.search = s.evu.search ∧
    (protectPosition s).evu.fy = s.evu.fy ∧ (protectPosition s).evu.reh = s.evu.reh ∧
    (protectPosition s).evu.candidate = s.evu.candidate ∧
    (protectPosition s).evu.chord = s.evu.chord ∧ (protectPosition s).evu.point1 = s.evu.point1 ∧
    (protectPosition s).evu.point2 = s.evu.point2 ∧ (protectPosition s).evu.proof = s.evu.proof ∧
    (protectPosition s).evu.breakSeen = s.evu.breakSeen ∧
    (protectPosition s).evu.listOpen = s.evu.listOpen ∧
    (protectPosition s).evu.hasTest = s.evu.hasTest ∧
    (protectPosition s).pru.protset = s.pru.protset ∧ (protectPosition s).oln = s.oln ∧
    (protectPosition s).cpt.outstanding = s.cpt.outstanding ∧
    (protectPosition s).cpt.checkFailures = s.cpt.checkFailures ∧
    (protectPosition s).cpt.overruns = s.cpt.overruns ∧
    (protectPosition s).cpt.coalesced = s.cpt.coalesced ∧
    (protectPosition s).cpt.streamOn = s.cpt.streamOn ∧
    (protectPosition s).cpt.decimation = s.cpt.decimation ∧
    (protectPosition s).cpt.count = s.cpt.count ∧
    (protectPosition s).cpt.fallbackAt = s.cpt.fallbackAt ∧
    (protectPosition s).cpt.session = s.cpt.session ∧
    (protectPosition s).ntu.nlevels = s.ntu.nlevels ∧ (protectPosition s).tst = s.tst := by
  unfold protectPosition
  split <;> simp

/-- What `judgeLoadLost` keeps. -/
@[simp] theorem judgeLoadLost_keeps (up : Bool) :
    (judgeLoadLost up s).pending = s.pending ∧ (judgeLoadLost up s).now = s.now ∧
    (judgeLoadLost up s).sent = s.sent ∧ (judgeLoadLost up s).choices = s.choices ∧
    (judgeLoadLost up s).lif = s.lif ∧ (judgeLoadLost up s).rtb.route = s.rtb.route ∧
    (judgeLoadLost up s).lch.tare = s.lch.tare ∧ (judgeLoadLost up s).lch.last = s.lch.last ∧
    (judgeLoadLost up s).lch.received = s.lch.received ∧
    (judgeLoadLost up s).lch.requested = s.lch.requested ∧
    (judgeLoadLost up s).lch.awaiting = s.lch.awaiting ∧
    (judgeLoadLost up s).lch.repeatAt = s.lch.repeatAt ∧
    (judgeLoadLost up s).lch.dwell = s.lch.dwell ∧
    (judgeLoadLost up s).lch.tareJob = s.lch.tareJob ∧ (judgeLoadLost up s).lch.cal = s.lch.cal ∧
    (judgeLoadLost up s).lch.loadset = s.lch.loadset ∧ (judgeLoadLost up s).xhu.pos = s.xhu.pos ∧
    (judgeLoadLost up s).xhu.good = s.xhu.good ∧ (judgeLoadLost up s).xhu.demand = s.xhu.demand ∧
    (judgeLoadLost up s).xhu.drive = s.xhu.drive ∧
    (judgeLoadLost up s).xhu.lastEnable = s.xhu.lastEnable ∧
    (judgeLoadLost up s).xhu.demandAt = s.xhu.demandAt ∧
    (judgeLoadLost up s).xhu.strain = s.xhu.strain ∧ (judgeLoadLost up s).xhu.xset = s.xhu.xset ∧
    (judgeLoadLost up s).exh = s.exh ∧ (judgeLoadLost up s).tsq.phase = s.tsq.phase ∧
    (judgeLoadLost up s).tsq.phaseTimer = s.tsq.phaseTimer ∧
    (judgeLoadLost up s).tsq.startedAt = s.tsq.startedAt ∧
    (judgeLoadLost up s).tsq.limitAt = s.tsq.limitAt ∧
    (judgeLoadLost up s).tsq.testTime = s.tsq.testTime ∧
    (judgeLoadLost up s).tsq.endCause = s.tsq.endCause ∧
    (judgeLoadLost up s).tsq.prog = s.tsq.prog ∧ (judgeLoadLost up s).evu.strain = s.evu.strain ∧
    (judgeLoadLost up s).evu.breakArmed = s.evu.breakArmed ∧
    (judgeLoadLost up s).evu.window = s.evu.window ∧
    (judgeLoadLost up s).evu.search = s.evu.search ∧ (judgeLoadLost up s).evu.fy = s.evu.fy ∧
    (judgeLoadLost up s).evu.reh = s.evu.reh ∧
    (judgeLoadLost up s).evu.candidate = s.evu.candidate ∧
    (judgeLoadLost up s).evu.chord = s.evu.chord ∧ (judgeLoadLost up s).evu.point1 = s.evu.point1 ∧
    (judgeLoadLost up s).evu.point2 = s.evu.point2 ∧ (judgeLoadLost up s).evu.proof = s.evu.proof ∧
    (judgeLoadLost up s).evu.breakSeen = s.evu.breakSeen ∧
    (judgeLoadLost up s).evu.listOpen = s.evu.listOpen ∧
    (judgeLoadLost up s).evu.hasTest = s.evu.hasTest ∧
    (judgeLoadLost up s).pru.protset = s.pru.protset ∧ (judgeLoadLost up s).oln = s.oln ∧
    (judgeLoadLost up s).cpt.outstanding = s.cpt.outstanding ∧
    (judgeLoadLost up s).cpt.checkFailures = s.cpt.checkFailures ∧
    (judgeLoadLost up s).cpt.overruns = s.cpt.overruns ∧
    (judgeLoadLost up s).cpt.coalesced = s.cpt.coalesced ∧
    (judgeLoadLost up s).cpt.streamOn = s.cpt.streamOn ∧
    (judgeLoadLost up s).cpt.decimation = s.cpt.decimation ∧
    (judgeLoadLost up s).cpt.count = s.cpt.count ∧
    (judgeLoadLost up s).cpt.fallbackAt = s.cpt.fallbackAt ∧
    (judgeLoadLost up s).cpt.session = s.cpt.session ∧
    (judgeLoadLost up s).ntu.nlevels = s.ntu.nlevels ∧ (judgeLoadLost up s).tst = s.tst := by
  unfold judgeLoadLost
  simp only []
  (repeat' split) <;> simp

/-- What `changeStateArming` keeps. -/
@[simp] theorem changeStateArming_keeps (n : SeqState) (c : TestCause) :
    (changeStateArming n c s).pending = s.pending ∧ (changeStateArming n c s).now = s.now ∧
    (changeStateArming n c s).sent = s.sent ∧ (changeStateArming n c s).choices = s.choices ∧
    (changeStateArming n c s).lif = s.lif ∧ (changeStateArming n c s).rtb.route = s.rtb.route ∧
    (changeStateArming n c s).lch.tare = s.lch.tare ∧
    (changeStateArming n c s).lch.last = s.lch.last ∧
    (changeStateArming n c s).lch.received = s.lch.received ∧
    (changeStateArming n c s).lch.requested = s.lch.requested ∧
    (changeStateArming n c s).lch.awaiting = s.lch.awaiting ∧
    (changeStateArming n c s).lch.repeatAt = s.lch.repeatAt ∧
    (changeStateArming n c s).lch.dwell = s.lch.dwell ∧
    (changeStateArming n c s).lch.tareJob = s.lch.tareJob ∧
    (changeStateArming n c s).lch.cal = s.lch.cal ∧
    (changeStateArming n c s).lch.loadset = s.lch.loadset ∧
    (changeStateArming n c s).xhu.pos = s.xhu.pos ∧
    (changeStateArming n c s).xhu.good = s.xhu.good ∧
    (changeStateArming n c s).xhu.demand = s.xhu.demand ∧
    (changeStateArming n c s).xhu.drive = s.xhu.drive ∧
    (changeStateArming n c s).xhu.lastEnable = s.xhu.lastEnable ∧
    (changeStateArming n c s).xhu.demandAt = s.xhu.demandAt ∧
    (changeStateArming n c s).xhu.strain = s.xhu.strain ∧
    (changeStateArming n c s).xhu.xset = s.xhu.xset ∧ (changeStateArming n c s).exh = s.exh ∧
    (changeStateArming n c s).tsq.phase = s.tsq.phase ∧
    (changeStateArming n c s).tsq.phaseTimer = s.tsq.phaseTimer ∧
    (changeStateArming n c s).tsq.startedAt = s.tsq.startedAt ∧
    (changeStateArming n c s).tsq.limitAt = s.tsq.limitAt ∧
    (changeStateArming n c s).tsq.testTime = s.tsq.testTime ∧
    (changeStateArming n c s).tsq.endCause = s.tsq.endCause ∧
    (changeStateArming n c s).tsq.prog = s.tsq.prog ∧
    (changeStateArming n c s).evu.strain = s.evu.strain ∧
    (changeStateArming n c s).evu.breakArmed = s.evu.breakArmed ∧
    (changeStateArming n c s).evu.window = s.evu.window ∧
    (changeStateArming n c s).evu.search = s.evu.search ∧
    (changeStateArming n c s).evu.fy = s.evu.fy ∧ (changeStateArming n c s).evu.reh = s.evu.reh ∧
    (changeStateArming n c s).evu.candidate = s.evu.candidate ∧
    (changeStateArming n c s).evu.chord = s.evu.chord ∧
    (changeStateArming n c s).evu.point1 = s.evu.point1 ∧
    (changeStateArming n c s).evu.point2 = s.evu.point2 ∧
    (changeStateArming n c s).evu.proof = s.evu.proof ∧
    (changeStateArming n c s).evu.breakSeen = s.evu.breakSeen ∧
    (changeStateArming n c s).evu.listOpen = s.evu.listOpen ∧
    (changeStateArming n c s).evu.hasTest = s.evu.hasTest ∧
    (changeStateArming n c s).pru.protset = s.pru.protset ∧ (changeStateArming n c s).oln = s.oln ∧
    (changeStateArming n c s).cpt.outstanding = s.cpt.outstanding ∧
    (changeStateArming n c s).cpt.checkFailures = s.cpt.checkFailures ∧
    (changeStateArming n c s).cpt.overruns = s.cpt.overruns ∧
    (changeStateArming n c s).cpt.coalesced = s.cpt.coalesced ∧
    (changeStateArming n c s).cpt.streamOn = s.cpt.streamOn ∧
    (changeStateArming n c s).cpt.decimation = s.cpt.decimation ∧
    (changeStateArming n c s).cpt.count = s.cpt.count ∧
    (changeStateArming n c s).cpt.fallbackAt = s.cpt.fallbackAt ∧
    (changeStateArming n c s).cpt.session = s.cpt.session ∧
    (changeStateArming n c s).ntu.nlevels = s.ntu.nlevels ∧ (changeStateArming n c s).tst = s.tst := by
  simp [changeStateArming]

/-- What `losePosition` keeps. -/
@[simp] theorem losePosition_keeps :
    (losePosition s).pending = s.pending ∧ (losePosition s).now = s.now ∧
    (losePosition s).sent = s.sent ∧ (losePosition s).choices = s.choices ∧
    (losePosition s).lif = s.lif ∧ (losePosition s).rtb.route = s.rtb.route ∧
    (losePosition s).lch.tare = s.lch.tare ∧ (losePosition s).lch.last = s.lch.last ∧
    (losePosition s).lch.received = s.lch.received ∧
    (losePosition s).lch.requested = s.lch.requested ∧
    (losePosition s).lch.awaiting = s.lch.awaiting ∧
    (losePosition s).lch.repeatAt = s.lch.repeatAt ∧ (losePosition s).lch.dwell = s.lch.dwell ∧
    (losePosition s).lch.tareJob = s.lch.tareJob ∧ (losePosition s).lch.cal = s.lch.cal ∧
    (losePosition s).lch.loadset = s.lch.loadset ∧ (losePosition s).xhu.pos = s.xhu.pos ∧
    (losePosition s).xhu.demand = s.xhu.demand ∧ (losePosition s).xhu.drive = s.xhu.drive ∧
    (losePosition s).xhu.lastEnable = s.xhu.lastEnable ∧
    (losePosition s).xhu.demandAt = s.xhu.demandAt ∧ (losePosition s).xhu.strain = s.xhu.strain ∧
    (losePosition s).xhu.xset = s.xhu.xset ∧ (losePosition s).exh = s.exh ∧
    (losePosition s).tsq.phase = s.tsq.phase ∧ (losePosition s).tsq.phaseTimer = s.tsq.phaseTimer ∧
    (losePosition s).tsq.startedAt = s.tsq.startedAt ∧
    (losePosition s).tsq.limitAt = s.tsq.limitAt ∧ (losePosition s).tsq.testTime = s.tsq.testTime ∧
    (losePosition s).tsq.endCause = s.tsq.endCause ∧ (losePosition s).tsq.prog = s.tsq.prog ∧
    (losePosition s).evu.strain = s.evu.strain ∧
    (losePosition s).evu.breakArmed = s.evu.breakArmed ∧
    (losePosition s).evu.window = s.evu.window ∧ (losePosition s).evu.search = s.evu.search ∧
    (losePosition s).evu.fy = s.evu.fy ∧ (losePosition s).evu.reh = s.evu.reh ∧
    (losePosition s).evu.candidate = s.evu.candidate ∧ (losePosition s).evu.chord = s.evu.chord ∧
    (losePosition s).evu.point1 = s.evu.point1 ∧ (losePosition s).evu.point2 = s.evu.point2 ∧
    (losePosition s).evu.proof = s.evu.proof ∧ (losePosition s).evu.breakSeen = s.evu.breakSeen ∧
    (losePosition s).evu.listOpen = s.evu.listOpen ∧ (losePosition s).evu.hasTest = s.evu.hasTest ∧
    (losePosition s).pru.protset = s.pru.protset ∧ (losePosition s).oln = s.oln ∧
    (losePosition s).cpt.outstanding = s.cpt.outstanding ∧
    (losePosition s).cpt.checkFailures = s.cpt.checkFailures ∧
    (losePosition s).cpt.overruns = s.cpt.overruns ∧
    (losePosition s).cpt.coalesced = s.cpt.coalesced ∧
    (losePosition s).cpt.streamOn = s.cpt.streamOn ∧
    (losePosition s).cpt.decimation = s.cpt.decimation ∧ (losePosition s).cpt.count = s.cpt.count ∧
    (losePosition s).cpt.fallbackAt = s.cpt.fallbackAt ∧
    (losePosition s).cpt.session = s.cpt.session ∧ (losePosition s).ntu.nlevels = s.ntu.nlevels ∧
    (losePosition s).tst = s.tst := by
  unfold losePosition
  simp only []
  (repeat' split) <;> simp

/-- What `protectDriveStatus` keeps. -/
@[simp] theorem protectDriveStatus_keeps :
    (protectDriveStatus s).pending = s.pending ∧ (protectDriveStatus s).now = s.now ∧
    (protectDriveStatus s).sent = s.sent ∧ (protectDriveStatus s).choices = s.choices ∧
    (protectDriveStatus s).lif = s.lif ∧ (protectDriveStatus s).rtb.route = s.rtb.route ∧
    (protectDriveStatus s).lch.tare = s.lch.tare ∧ (protectDriveStatus s).lch.last = s.lch.last ∧
    (protectDriveStatus s).lch.received = s.lch.received ∧
    (protectDriveStatus s).lch.requested = s.lch.requested ∧
    (protectDriveStatus s).lch.awaiting = s.lch.awaiting ∧
    (protectDriveStatus s).lch.repeatAt = s.lch.repeatAt ∧
    (protectDriveStatus s).lch.dwell = s.lch.dwell ∧
    (protectDriveStatus s).lch.tareJob = s.lch.tareJob ∧
    (protectDriveStatus s).lch.cal = s.lch.cal ∧
    (protectDriveStatus s).lch.loadset = s.lch.loadset ∧
    (protectDriveStatus s).xhu.pos = s.xhu.pos ∧ (protectDriveStatus s).xhu.good = s.xhu.good ∧
    (protectDriveStatus s).xhu.demand = s.xhu.demand ∧
    (protectDriveStatus s).xhu.drive = s.xhu.drive ∧
    (protectDriveStatus s).xhu.lastEnable = s.xhu.lastEnable ∧
    (protectDriveStatus s).xhu.demandAt = s.xhu.demandAt ∧
    (protectDriveStatus s).xhu.strain = s.xhu.strain ∧
    (protectDriveStatus s).xhu.xset = s.xhu.xset ∧ (protectDriveStatus s).exh = s.exh ∧
    (protectDriveStatus s).tsq.phase = s.tsq.phase ∧
    (protectDriveStatus s).tsq.phaseTimer = s.tsq.phaseTimer ∧
    (protectDriveStatus s).tsq.startedAt = s.tsq.startedAt ∧
    (protectDriveStatus s).tsq.limitAt = s.tsq.limitAt ∧
    (protectDriveStatus s).tsq.testTime = s.tsq.testTime ∧
    (protectDriveStatus s).tsq.endCause = s.tsq.endCause ∧
    (protectDriveStatus s).tsq.prog = s.tsq.prog ∧
    (protectDriveStatus s).evu.strain = s.evu.strain ∧
    (protectDriveStatus s).evu.breakArmed = s.evu.breakArmed ∧
    (protectDriveStatus s).evu.window = s.evu.window ∧
    (protectDriveStatus s).evu.search = s.evu.search ∧ (protectDriveStatus s).evu.fy = s.evu.fy ∧
    (protectDriveStatus s).evu.reh = s.evu.reh ∧
    (protectDriveStatus s).evu.candidate = s.evu.candidate ∧
    (protectDriveStatus s).evu.chord = s.evu.chord ∧
    (protectDriveStatus s).evu.point1 = s.evu.point1 ∧
    (protectDriveStatus s).evu.point2 = s.evu.point2 ∧
    (protectDriveStatus s).evu.proof = s.evu.proof ∧
    (protectDriveStatus s).evu.breakSeen = s.evu.breakSeen ∧
    (protectDriveStatus s).evu.listOpen = s.evu.listOpen ∧
    (protectDriveStatus s).evu.hasTest = s.evu.hasTest ∧
    (protectDriveStatus s).pru.protset = s.pru.protset ∧ (protectDriveStatus s).oln = s.oln ∧
    (protectDriveStatus s).cpt.outstanding = s.cpt.outstanding ∧
    (protectDriveStatus s).cpt.checkFailures = s.cpt.checkFailures ∧
    (protectDriveStatus s).cpt.overruns = s.cpt.overruns ∧
    (protectDriveStatus s).cpt.coalesced = s.cpt.coalesced ∧
    (protectDriveStatus s).cpt.streamOn = s.cpt.streamOn ∧
    (protectDriveStatus s).cpt.decimation = s.cpt.decimation ∧
    (protectDriveStatus s).cpt.count = s.cpt.count ∧
    (protectDriveStatus s).cpt.fallbackAt = s.cpt.fallbackAt ∧
    (protectDriveStatus s).cpt.session = s.cpt.session ∧
    (protectDriveStatus s).ntu.nlevels = s.ntu.nlevels ∧ (protectDriveStatus s).tst = s.tst := by
  simp [protectDriveStatus]

/-- What `loseDriveLane` keeps. -/
@[simp] theorem loseDriveLane_keeps :
    (loseDriveLane s).pending = s.pending ∧ (loseDriveLane s).now = s.now ∧
    (loseDriveLane s).sent = s.sent ∧ (loseDriveLane s).choices = s.choices ∧
    (loseDriveLane s).lif = s.lif ∧ (loseDriveLane s).rtb.route = s.rtb.route ∧
    (loseDriveLane s).lch.tare = s.lch.tare ∧ (loseDriveLane s).lch.last = s.lch.last ∧
    (loseDriveLane s).lch.received = s.lch.received ∧
    (loseDriveLane s).lch.requested = s.lch.requested ∧
    (loseDriveLane s).lch.awaiting = s.lch.awaiting ∧
    (loseDriveLane s).lch.repeatAt = s.lch.repeatAt ∧ (loseDriveLane s).lch.dwell = s.lch.dwell ∧
    (loseDriveLane s).lch.tareJob = s.lch.tareJob ∧ (loseDriveLane s).lch.cal = s.lch.cal ∧
    (loseDriveLane s).lch.loadset = s.lch.loadset ∧ (loseDriveLane s).xhu.pos = s.xhu.pos ∧
    (loseDriveLane s).xhu.good = s.xhu.good ∧ (loseDriveLane s).xhu.demand = s.xhu.demand ∧
    (loseDriveLane s).xhu.lastEnable = s.xhu.lastEnable ∧
    (loseDriveLane s).xhu.demandAt = s.xhu.demandAt ∧ (loseDriveLane s).xhu.strain = s.xhu.strain ∧
    (loseDriveLane s).xhu.xset = s.xhu.xset ∧ (loseDriveLane s).exh = s.exh ∧
    (loseDriveLane s).tsq.phase = s.tsq.phase ∧
    (loseDriveLane s).tsq.phaseTimer = s.tsq.phaseTimer ∧
    (loseDriveLane s).tsq.startedAt = s.tsq.startedAt ∧
    (loseDriveLane s).tsq.limitAt = s.tsq.limitAt ∧
    (loseDriveLane s).tsq.testTime = s.tsq.testTime ∧
    (loseDriveLane s).tsq.endCause = s.tsq.endCause ∧ (loseDriveLane s).tsq.prog = s.tsq.prog ∧
    (loseDriveLane s).evu.strain = s.evu.strain ∧
    (loseDriveLane s).evu.breakArmed = s.evu.breakArmed ∧
    (loseDriveLane s).evu.window = s.evu.window ∧ (loseDriveLane s).evu.search = s.evu.search ∧
    (loseDriveLane s).evu.fy = s.evu.fy ∧ (loseDriveLane s).evu.reh = s.evu.reh ∧
    (loseDriveLane s).evu.candidate = s.evu.candidate ∧ (loseDriveLane s).evu.chord = s.evu.chord ∧
    (loseDriveLane s).evu.point1 = s.evu.point1 ∧ (loseDriveLane s).evu.point2 = s.evu.point2 ∧
    (loseDriveLane s).evu.proof = s.evu.proof ∧ (loseDriveLane s).evu.breakSeen = s.evu.breakSeen ∧
    (loseDriveLane s).evu.listOpen = s.evu.listOpen ∧
    (loseDriveLane s).evu.hasTest = s.evu.hasTest ∧ (loseDriveLane s).pru.protset = s.pru.protset ∧
    (loseDriveLane s).oln = s.oln ∧ (loseDriveLane s).cpt.outstanding = s.cpt.outstanding ∧
    (loseDriveLane s).cpt.checkFailures = s.cpt.checkFailures ∧
    (loseDriveLane s).cpt.overruns = s.cpt.overruns ∧
    (loseDriveLane s).cpt.coalesced = s.cpt.coalesced ∧
    (loseDriveLane s).cpt.streamOn = s.cpt.streamOn ∧
    (loseDriveLane s).cpt.decimation = s.cpt.decimation ∧
    (loseDriveLane s).cpt.count = s.cpt.count ∧
    (loseDriveLane s).cpt.fallbackAt = s.cpt.fallbackAt ∧
    (loseDriveLane s).cpt.session = s.cpt.session ∧ (loseDriveLane s).ntu.nlevels = s.ntu.nlevels ∧
    (loseDriveLane s).tst = s.tst := by
  unfold loseDriveLane
  simp only []
  split <;> simp

/-- What `clearConditions` keeps. -/
@[simp] theorem clearConditions_keeps :
    (clearConditions s).pending = s.pending ∧ (clearConditions s).now = s.now ∧
    (clearConditions s).sent = s.sent ∧ (clearConditions s).choices = s.choices ∧
    (clearConditions s).lif = s.lif ∧ (clearConditions s).rtb = s.rtb ∧
    (clearConditions s).lch = s.lch ∧ (clearConditions s).xhu = s.xhu ∧
    (clearConditions s).exh = s.exh ∧ (clearConditions s).tsq = s.tsq ∧
    (clearConditions s).evu = s.evu ∧ (clearConditions s).pru.latch = s.pru.latch ∧
    (clearConditions s).pru.history = s.pru.history ∧
    (clearConditions s).pru.protset = s.pru.protset ∧ (clearConditions s).oln = s.oln ∧
    (clearConditions s).cpt = s.cpt ∧ (clearConditions s).ntu = s.ntu ∧
    (clearConditions s).tst = s.tst := by
  simp [clearConditions]

/-- What `keepStrain` keeps. -/
@[simp] theorem keepStrain_keeps (st : Strain) :
    (keepStrain st s).pending = s.pending ∧ (keepStrain st s).now = s.now ∧
    (keepStrain st s).sent = s.sent ∧ (keepStrain st s).choices = s.choices ∧
    (keepStrain st s).lif = s.lif ∧ (keepStrain st s).rtb = s.rtb ∧ (keepStrain st s).lch = s.lch ∧
    (keepStrain st s).xhu.pos = s.xhu.pos ∧ (keepStrain st s).xhu.good = s.xhu.good ∧
    (keepStrain st s).xhu.demand = s.xhu.demand ∧ (keepStrain st s).xhu.drive = s.xhu.drive ∧
    (keepStrain st s).xhu.lastEnable = s.xhu.lastEnable ∧
    (keepStrain st s).xhu.demandAt = s.xhu.demandAt ∧ (keepStrain st s).xhu.mode = s.xhu.mode ∧
    (keepStrain st s).xhu.a = s.xhu.a ∧ (keepStrain st s).xhu.b = s.xhu.b ∧
    (keepStrain st s).xhu.target = s.xhu.target ∧ (keepStrain st s).xhu.xset = s.xhu.xset ∧
    (keepStrain st s).exh.handler = s.exh.handler ∧ (keepStrain st s).exh.latestA = s.exh.latestA ∧
    (keepStrain st s).exh.latestB = s.exh.latestB ∧ (keepStrain st s).exh.zeroA = s.exh.zeroA ∧
    (keepStrain st s).exh.zeroB = s.exh.zeroB ∧ (keepStrain st s).exh.deltaA = s.exh.deltaA ∧
    (keepStrain st s).exh.deltaB = s.exh.deltaB ∧ (keepStrain st s).exh.settleAt = s.exh.settleAt ∧
    (keepStrain st s).exh.averaging = s.exh.averaging ∧ (keepStrain st s).exh.pRef = s.exh.pRef ∧
    (keepStrain st s).exh.ox = s.exh.ox ∧ (keepStrain st s).exh.oe = s.exh.oe ∧
    (keepStrain st s).exh.lastExt = s.exh.lastExt ∧
    (keepStrain st s).exh.slipCount = s.exh.slipCount ∧
    (keepStrain st s).exh.extset = s.exh.extset ∧ (keepStrain st s).tsq = s.tsq ∧
    (keepStrain st s).evu.fm = s.evu.fm ∧ (keepStrain st s).evu.breakArmed = s.evu.breakArmed ∧
    (keepStrain st s).evu.window = s.evu.window ∧ (keepStrain st s).evu.search = s.evu.search ∧
    (keepStrain st s).evu.fy = s.evu.fy ∧ (keepStrain st s).evu.reh = s.evu.reh ∧
    (keepStrain st s).evu.candidate = s.evu.candidate ∧ (keepStrain st s).evu.chord = s.evu.chord ∧
    (keepStrain st s).evu.point1 = s.evu.point1 ∧ (keepStrain st s).evu.point2 = s.evu.point2 ∧
    (keepStrain st s).evu.proof = s.evu.proof ∧ (keepStrain st s).evu.breakSeen = s.evu.breakSeen ∧
    (keepStrain st s).evu.list = s.evu.list ∧ (keepStrain st s).evu.listOpen = s.evu.listOpen ∧
    (keepStrain st s).evu.overflow = s.evu.overflow ∧
    (keepStrain st s).evu.hasTest = s.evu.hasTest ∧ (keepStrain st s).evu.result = s.evu.result ∧
    (keepStrain st s).pru = s.pru ∧ (keepStrain st s).oln = s.oln ∧ (keepStrain st s).cpt = s.cpt ∧
    (keepStrain st s).ntu = s.ntu ∧ (keepStrain st s).tst = s.tst := by
  unfold keepStrain
  simp only []
  split <;> simp

/-- What `raiseExt` keeps. -/
@[simp] theorem raiseExt_keeps (d : ExtDetail) :
    (raiseExt d s).pending = s.pending ∧ (raiseExt d s).now = s.now ∧
    (raiseExt d s).sent = s.sent ∧ (raiseExt d s).choices = s.choices ∧
    (raiseExt d s).lif = s.lif ∧ (raiseExt d s).rtb.route = s.rtb.route ∧
    (raiseExt d s).lch = s.lch ∧ (raiseExt d s).xhu = s.xhu ∧ (raiseExt d s).exh = s.exh ∧
    (raiseExt d s).tsq = s.tsq ∧ (raiseExt d s).evu = s.evu ∧ (raiseExt d s).pru = s.pru ∧
    (raiseExt d s).oln = s.oln ∧ (raiseExt d s).cpt.outstanding = s.cpt.outstanding ∧
    (raiseExt d s).cpt.checkFailures = s.cpt.checkFailures ∧
    (raiseExt d s).cpt.overruns = s.cpt.overruns ∧ (raiseExt d s).cpt.coalesced = s.cpt.coalesced ∧
    (raiseExt d s).cpt.streamOn = s.cpt.streamOn ∧
    (raiseExt d s).cpt.decimation = s.cpt.decimation ∧ (raiseExt d s).cpt.count = s.cpt.count ∧
    (raiseExt d s).cpt.fallbackAt = s.cpt.fallbackAt ∧ (raiseExt d s).cpt.session = s.cpt.session ∧
    (raiseExt d s).ntu.nlevels = s.ntu.nlevels ∧ (raiseExt d s).tst = s.tst := by
  simp [raiseExt]

/-- What `spliceToCrosshead` keeps. -/
@[simp] theorem spliceToCrosshead_keeps :
    (spliceToCrosshead s).pending = s.pending ∧ (spliceToCrosshead s).now = s.now ∧
    (spliceToCrosshead s).sent = s.sent ∧ (spliceToCrosshead s).choices = s.choices ∧
    (spliceToCrosshead s).lif = s.lif ∧ (spliceToCrosshead s).rtb = s.rtb ∧
    (spliceToCrosshead s).lch = s.lch ∧ (spliceToCrosshead s).xhu.pos = s.xhu.pos ∧
    (spliceToCrosshead s).xhu.good = s.xhu.good ∧ (spliceToCrosshead s).xhu.demand = s.xhu.demand ∧
    (spliceToCrosshead s).xhu.drive = s.xhu.drive ∧
    (spliceToCrosshead s).xhu.lastEnable = s.xhu.lastEnable ∧
    (spliceToCrosshead s).xhu.demandAt = s.xhu.demandAt ∧
    (spliceToCrosshead s).xhu.mode = s.xhu.mode ∧ (spliceToCrosshead s).xhu.a = s.xhu.a ∧
    (spliceToCrosshead s).xhu.b = s.xhu.b ∧ (spliceToCrosshead s).xhu.target = s.xhu.target ∧
    (spliceToCrosshead s).xhu.xset = s.xhu.xset ∧
    (spliceToCrosshead s).exh.handler = s.exh.handler ∧
    (spliceToCrosshead s).exh.latestA = s.exh.latestA ∧
    (spliceToCrosshead s).exh.latestB = s.exh.latestB ∧
    (spliceToCrosshead s).exh.zeroA = s.exh.zeroA ∧ (spliceToCrosshead s).exh.zeroB = s.exh.zeroB ∧
    (spliceToCrosshead s).exh.deltaA = s.exh.deltaA ∧
    (spliceToCrosshead s).exh.deltaB = s.exh.deltaB ∧
    (spliceToCrosshead s).exh.settleAt = s.exh.settleAt ∧
    (spliceToCrosshead s).exh.averaging = s.exh.averaging ∧
    (spliceToCrosshead s).exh.pRef = s.exh.pRef ∧ (spliceToCrosshead s).exh.oe = s.exh.oe ∧
    (spliceToCrosshead s).exh.lastExt = s.exh.lastExt ∧
    (spliceToCrosshead s).exh.slipCount = s.exh.slipCount ∧
    (spliceToCrosshead s).exh.extset = s.exh.extset ∧ (spliceToCrosshead s).tsq = s.tsq ∧
    (spliceToCrosshead s).evu.fm = s.evu.fm ∧
    (spliceToCrosshead s).evu.breakArmed = s.evu.breakArmed ∧
    (spliceToCrosshead s).evu.window = s.evu.window ∧
    (spliceToCrosshead s).evu.search = s.evu.search ∧ (spliceToCrosshead s).evu.fy = s.evu.fy ∧
    (spliceToCrosshead s).evu.reh = s.evu.reh ∧
    (spliceToCrosshead s).evu.candidate = s.evu.candidate ∧
    (spliceToCrosshead s).evu.chord = s.evu.chord ∧
    (spliceToCrosshead s).evu.point1 = s.evu.point1 ∧
    (spliceToCrosshead s).evu.point2 = s.evu.point2 ∧
    (spliceToCrosshead s).evu.proof = s.evu.proof ∧
    (spliceToCrosshead s).evu.breakSeen = s.evu.breakSeen ∧
    (spliceToCrosshead s).evu.list = s.evu.list ∧
    (spliceToCrosshead s).evu.listOpen = s.evu.listOpen ∧
    (spliceToCrosshead s).evu.overflow = s.evu.overflow ∧
    (spliceToCrosshead s).evu.hasTest = s.evu.hasTest ∧
    (spliceToCrosshead s).evu.result = s.evu.result ∧ (spliceToCrosshead s).pru = s.pru ∧
    (spliceToCrosshead s).oln = s.oln ∧ (spliceToCrosshead s).cpt = s.cpt ∧
    (spliceToCrosshead s).ntu = s.ntu ∧ (spliceToCrosshead s).tst = s.tst := by
  simp [spliceToCrosshead]

/-- What `noteRemovalStrain` keeps. -/
@[simp] theorem noteRemovalStrain_keeps (v : Int) :
    (noteRemovalStrain v s).pending = s.pending ∧ (noteRemovalStrain v s).now = s.now ∧
    (noteRemovalStrain v s).sent = s.sent ∧ (noteRemovalStrain v s).choices = s.choices ∧
    (noteRemovalStrain v s).lif = s.lif ∧ (noteRemovalStrain v s).rtb = s.rtb ∧
    (noteRemovalStrain v s).lch = s.lch ∧ (noteRemovalStrain v s).xhu = s.xhu ∧
    (noteRemovalStrain v s).exh = s.exh ∧ (noteRemovalStrain v s).tsq = s.tsq ∧
    (noteRemovalStrain v s).evu.strain = s.evu.strain ∧ (noteRemovalStrain v s).evu.fm = s.evu.fm ∧
    (noteRemovalStrain v s).evu.breakArmed = s.evu.breakArmed ∧
    (noteRemovalStrain v s).evu.window = s.evu.window ∧
    (noteRemovalStrain v s).evu.search = s.evu.search ∧ (noteRemovalStrain v s).evu.fy = s.evu.fy ∧
    (noteRemovalStrain v s).evu.reh = s.evu.reh ∧
    (noteRemovalStrain v s).evu.candidate = s.evu.candidate ∧
    (noteRemovalStrain v s).evu.chord = s.evu.chord ∧
    (noteRemovalStrain v s).evu.point1 = s.evu.point1 ∧
    (noteRemovalStrain v s).evu.point2 = s.evu.point2 ∧
    (noteRemovalStrain v s).evu.proof = s.evu.proof ∧
    (noteRemovalStrain v s).evu.breakSeen = s.evu.breakSeen ∧
    (noteRemovalStrain v s).evu.list = s.evu.list ∧
    (noteRemovalStrain v s).evu.listOpen = s.evu.listOpen ∧
    (noteRemovalStrain v s).evu.overflow = s.evu.overflow ∧
    (noteRemovalStrain v s).evu.hasTest = s.evu.hasTest ∧ (noteRemovalStrain v s).pru = s.pru ∧
    (noteRemovalStrain v s).oln = s.oln ∧ (noteRemovalStrain v s).cpt = s.cpt ∧
    (noteRemovalStrain v s).ntu = s.ntu ∧ (noteRemovalStrain v s).tst = s.tst := by
  unfold noteRemovalStrain
  split <;> simp

/-- What `failAttach` keeps. -/
@[simp] theorem failAttach_keeps (c : AttachFailure) (n : HandlerState) :
    (failAttach c n s).pending = s.pending ∧ (failAttach c n s).now = s.now ∧
    (failAttach c n s).sent = s.sent ∧ (failAttach c n s).choices = s.choices ∧
    (failAttach c n s).lif = s.lif ∧ (failAttach c n s).rtb.route = s.rtb.route ∧
    (failAttach c n s).lch = s.lch ∧ (failAttach c n s).xhu = s.xhu ∧
    (failAttach c n s).exh.latestA = s.exh.latestA ∧
    (failAttach c n s).exh.latestB = s.exh.latestB ∧ (failAttach c n s).exh.zeroA = s.exh.zeroA ∧
    (failAttach c n s).exh.zeroB = s.exh.zeroB ∧ (failAttach c n s).exh.deltaA = s.exh.deltaA ∧
    (failAttach c n s).exh.deltaB = s.exh.deltaB ∧ (failAttach c n s).exh.pRef = s.exh.pRef ∧
    (failAttach c n s).exh.ox = s.exh.ox ∧ (failAttach c n s).exh.oe = s.exh.oe ∧
    (failAttach c n s).exh.reported = s.exh.reported ∧
    (failAttach c n s).exh.lastExt = s.exh.lastExt ∧
    (failAttach c n s).exh.slipCount = s.exh.slipCount ∧
    (failAttach c n s).exh.extset = s.exh.extset ∧ (failAttach c n s).tsq = s.tsq ∧
    (failAttach c n s).evu = s.evu ∧ (failAttach c n s).pru = s.pru ∧
    (failAttach c n s).oln = s.oln ∧ (failAttach c n s).cpt.outstanding = s.cpt.outstanding ∧
    (failAttach c n s).cpt.checkFailures = s.cpt.checkFailures ∧
    (failAttach c n s).cpt.overruns = s.cpt.overruns ∧
    (failAttach c n s).cpt.coalesced = s.cpt.coalesced ∧
    (failAttach c n s).cpt.streamOn = s.cpt.streamOn ∧
    (failAttach c n s).cpt.decimation = s.cpt.decimation ∧
    (failAttach c n s).cpt.count = s.cpt.count ∧
    (failAttach c n s).cpt.fallbackAt = s.cpt.fallbackAt ∧
    (failAttach c n s).cpt.session = s.cpt.session ∧
    (failAttach c n s).ntu.nlevels = s.ntu.nlevels ∧ (failAttach c n s).tst = s.tst := by
  simp [failAttach]

/-- What `evuStrainLimit` keeps. -/
@[simp] theorem evuStrainLimit_keeps (st : Strain) :
    (evuStrainLimit st s).pending = s.pending ∧ (evuStrainLimit st s).now = s.now ∧
    (evuStrainLimit st s).sent = s.sent ∧ (evuStrainLimit st s).choices = s.choices ∧
    (evuStrainLimit st s).lif = s.lif ∧ (evuStrainLimit st s).rtb.route = s.rtb.route ∧
    (evuStrainLimit st s).lch = s.lch ∧ (evuStrainLimit st s).xhu = s.xhu ∧
    (evuStrainLimit st s).exh = s.exh ∧ (evuStrainLimit st s).tsq = s.tsq ∧
    (evuStrainLimit st s).evu.strain = s.evu.strain ∧ (evuStrainLimit st s).evu.fm = s.evu.fm ∧
    (evuStrainLimit st s).evu.breakArmed = s.evu.breakArmed ∧
    (evuStrainLimit st s).evu.window = s.evu.window ∧ (evuStrainLimit st s).evu.fy = s.evu.fy ∧
    (evuStrainLimit st s).evu.reh = s.evu.reh ∧
    (evuStrainLimit st s).evu.candidate = s.evu.candidate ∧
    (evuStrainLimit st s).evu.chord = s.evu.chord ∧
    (evuStrainLimit st s).evu.point1 = s.evu.point1 ∧
    (evuStrainLimit st s).evu.point2 = s.evu.point2 ∧
    (evuStrainLimit st s).evu.proof = s.evu.proof ∧
    (evuStrainLimit st s).evu.breakSeen = s.evu.breakSeen ∧
    (evuStrainLimit st s).evu.listOpen = s.evu.listOpen ∧
    (evuStrainLimit st s).evu.hasTest = s.evu.hasTest ∧ (evuStrainLimit st s).pru = s.pru ∧
    (evuStrainLimit st s).oln = s.oln ∧ (evuStrainLimit st s).cpt.outstanding = s.cpt.outstanding ∧
    (evuStrainLimit st s).cpt.checkFailures = s.cpt.checkFailures ∧
    (evuStrainLimit st s).cpt.overruns = s.cpt.overruns ∧
    (evuStrainLimit st s).cpt.coalesced = s.cpt.coalesced ∧
    (evuStrainLimit st s).cpt.streamOn = s.cpt.streamOn ∧
    (evuStrainLimit st s).cpt.decimation = s.cpt.decimation ∧
    (evuStrainLimit st s).cpt.count = s.cpt.count ∧
    (evuStrainLimit st s).cpt.fallbackAt = s.cpt.fallbackAt ∧
    (evuStrainLimit st s).cpt.session = s.cpt.session ∧
    (evuStrainLimit st s).ntu.nlevels = s.ntu.nlevels ∧ (evuStrainLimit st s).tst = s.tst := by
  unfold evuStrainLimit
  split <;> simp

/-- What `requestPhaseMode` keeps. -/
@[simp] theorem requestPhaseMode_keeps :
    (requestPhaseMode s).pending = s.pending ∧ (requestPhaseMode s).now = s.now ∧
    (requestPhaseMode s).sent = s.sent ∧ (requestPhaseMode s).choices = s.choices ∧
    (requestPhaseMode s).lif = s.lif ∧ (requestPhaseMode s).rtb = s.rtb ∧
    (requestPhaseMode s).lch = s.lch ∧ (requestPhaseMode s).xhu.pos = s.xhu.pos ∧
    (requestPhaseMode s).xhu.good = s.xhu.good ∧ (requestPhaseMode s).xhu.demand = s.xhu.demand ∧
    (requestPhaseMode s).xhu.drive = s.xhu.drive ∧
    (requestPhaseMode s).xhu.lastEnable = s.xhu.lastEnable ∧
    (requestPhaseMode s).xhu.demandAt = s.xhu.demandAt ∧
    (requestPhaseMode s).xhu.strain = s.xhu.strain ∧ (requestPhaseMode s).xhu.xset = s.xhu.xset ∧
    (requestPhaseMode s).exh = s.exh ∧ (requestPhaseMode s).tsq = s.tsq ∧
    (requestPhaseMode s).evu = s.evu ∧ (requestPhaseMode s).pru.latch = s.pru.latch ∧
    (requestPhaseMode s).pru.history = s.pru.history ∧
    (requestPhaseMode s).pru.protset = s.pru.protset ∧ (requestPhaseMode s).oln = s.oln ∧
    (requestPhaseMode s).cpt = s.cpt ∧ (requestPhaseMode s).ntu = s.ntu ∧
    (requestPhaseMode s).tst = s.tst := by
  unfold requestPhaseMode
  split <;> simp

/-- What `beginPhase` keeps. -/
@[simp] theorem beginPhase_keeps (k : Nat) :
    (beginPhase k s).pending = s.pending ∧ (beginPhase k s).now = s.now ∧
    (beginPhase k s).sent = s.sent ∧ (beginPhase k s).choices = s.choices ∧
    (beginPhase k s).lif = s.lif ∧ (beginPhase k s).rtb = s.rtb ∧ (beginPhase k s).lch = s.lch ∧
    (beginPhase k s).xhu.pos = s.xhu.pos ∧ (beginPhase k s).xhu.good = s.xhu.good ∧
    (beginPhase k s).xhu.demand = s.xhu.demand ∧ (beginPhase k s).xhu.drive = s.xhu.drive ∧
    (beginPhase k s).xhu.lastEnable = s.xhu.lastEnable ∧
    (beginPhase k s).xhu.demandAt = s.xhu.demandAt ∧ (beginPhase k s).xhu.strain = s.xhu.strain ∧
    (beginPhase k s).xhu.xset = s.xhu.xset ∧ (beginPhase k s).exh = s.exh ∧
    (beginPhase k s).tsq.state = s.tsq.state ∧ (beginPhase k s).tsq.specimen = s.tsq.specimen ∧
    (beginPhase k s).tsq.slot = s.tsq.slot ∧ (beginPhase k s).tsq.startedAt = s.tsq.startedAt ∧
    (beginPhase k s).tsq.limitAt = s.tsq.limitAt ∧ (beginPhase k s).tsq.testTime = s.tsq.testTime ∧
    (beginPhase k s).tsq.endCause = s.tsq.endCause ∧ (beginPhase k s).tsq.prog = s.tsq.prog ∧
    (beginPhase k s).evu = s.evu ∧ (beginPhase k s).pru.latch = s.pru.latch ∧
    (beginPhase k s).pru.history = s.pru.history ∧ (beginPhase k s).pru.protset = s.pru.protset ∧
    (beginPhase k s).oln = s.oln ∧ (beginPhase k s).cpt = s.cpt ∧ (beginPhase k s).ntu = s.ntu ∧
    (beginPhase k s).tst = s.tst := by
  simp [beginPhase]

/-- What `sendDemand` keeps. -/
@[simp] theorem sendDemand_keeps :
    (sendDemand s).pending = s.pending ∧ (sendDemand s).now = s.now ∧
    (sendDemand s).choices = s.choices ∧ (sendDemand s).lif = s.lif ∧ (sendDemand s).rtb = s.rtb ∧
    (sendDemand s).lch = s.lch ∧ (sendDemand s).xhu.pos = s.xhu.pos ∧
    (sendDemand s).xhu.good = s.xhu.good ∧ (sendDemand s).xhu.demand = s.xhu.demand ∧
    (sendDemand s).xhu.drive = s.xhu.drive ∧ (sendDemand s).xhu.demandAt = s.xhu.demandAt ∧
    (sendDemand s).xhu.mode = s.xhu.mode ∧ (sendDemand s).xhu.a = s.xhu.a ∧
    (sendDemand s).xhu.b = s.xhu.b ∧ (sendDemand s).xhu.target = s.xhu.target ∧
    (sendDemand s).xhu.strain = s.xhu.strain ∧ (sendDemand s).xhu.xset = s.xhu.xset ∧
    (sendDemand s).exh = s.exh ∧ (sendDemand s).tsq = s.tsq ∧ (sendDemand s).evu = s.evu ∧
    (sendDemand s).pru = s.pru ∧ (sendDemand s).oln = s.oln ∧ (sendDemand s).cpt = s.cpt ∧
    (sendDemand s).ntu = s.ntu ∧ (sendDemand s).tst = s.tst := by
  simp [sendDemand]

/-- What `sendRequest` keeps. -/
@[simp] theorem sendRequest_keeps :
    (sendRequest s).pending = s.pending ∧ (sendRequest s).now = s.now ∧
    (sendRequest s).choices = s.choices ∧ (sendRequest s).lif = s.lif ∧
    (sendRequest s).rtb = s.rtb ∧ (sendRequest s).lch = s.lch ∧ (sendRequest s).xhu = s.xhu ∧
    (sendRequest s).exh = s.exh ∧ (sendRequest s).tsq = s.tsq ∧ (sendRequest s).evu = s.evu ∧
    (sendRequest s).pru = s.pru ∧ (sendRequest s).oln = s.oln ∧ (sendRequest s).cpt = s.cpt ∧
    (sendRequest s).ntu = s.ntu ∧ (sendRequest s).tst = s.tst := by
  unfold sendRequest
  split <;> simp

/-- What `makeRequest` keeps. -/
@[simp] theorem makeRequest_keeps (h : Fin 4) :
    (makeRequest h s).pending = s.pending ∧ (makeRequest h s).now = s.now ∧
    (makeRequest h s).choices = s.choices ∧ (makeRequest h s).lif = s.lif ∧
    (makeRequest h s).rtb = s.rtb ∧ (makeRequest h s).lch.tare = s.lch.tare ∧
    (makeRequest h s).lch.last = s.lch.last ∧ (makeRequest h s).lch.received = s.lch.received ∧
    (makeRequest h s).lch.tareJob = s.lch.tareJob ∧ (makeRequest h s).lch.stress = s.lch.stress ∧
    (makeRequest h s).lch.cal = s.lch.cal ∧ (makeRequest h s).lch.loadset = s.lch.loadset ∧
    (makeRequest h s).xhu = s.xhu ∧ (makeRequest h s).exh = s.exh ∧ (makeRequest h s).tsq = s.tsq ∧
    (makeRequest h s).evu = s.evu ∧ (makeRequest h s).pru = s.pru ∧ (makeRequest h s).oln = s.oln ∧
    (makeRequest h s).cpt = s.cpt ∧ (makeRequest h s).ntu = s.ntu ∧ (makeRequest h s).tst = s.tst := by
  simp [makeRequest]

/-- What `repeatRequest` keeps. -/
@[simp] theorem repeatRequest_keeps :
    (repeatRequest s).pending = s.pending ∧ (repeatRequest s).now = s.now ∧
    (repeatRequest s).choices = s.choices ∧ (repeatRequest s).lif = s.lif ∧
    (repeatRequest s).rtb = s.rtb ∧ (repeatRequest s).lch.tare = s.lch.tare ∧
    (repeatRequest s).lch.last = s.lch.last ∧ (repeatRequest s).lch.received = s.lch.received ∧
    (repeatRequest s).lch.requested = s.lch.requested ∧
    (repeatRequest s).lch.awaiting = s.lch.awaiting ∧ (repeatRequest s).lch.dwell = s.lch.dwell ∧
    (repeatRequest s).lch.tareJob = s.lch.tareJob ∧ (repeatRequest s).lch.stress = s.lch.stress ∧
    (repeatRequest s).lch.cal = s.lch.cal ∧ (repeatRequest s).lch.loadset = s.lch.loadset ∧
    (repeatRequest s).xhu = s.xhu ∧ (repeatRequest s).exh = s.exh ∧ (repeatRequest s).tsq = s.tsq ∧
    (repeatRequest s).evu = s.evu ∧ (repeatRequest s).pru = s.pru ∧ (repeatRequest s).oln = s.oln ∧
    (repeatRequest s).cpt = s.cpt ∧ (repeatRequest s).ntu = s.ntu ∧ (repeatRequest s).tst = s.tst := by
  simp [repeatRequest]

/-- What `failTare` keeps. -/
@[simp] theorem failTare_keeps (c : TareFailure) :
    (failTare c s).pending = s.pending ∧ (failTare c s).now = s.now ∧
    (failTare c s).sent = s.sent ∧ (failTare c s).choices = s.choices ∧
    (failTare c s).lif = s.lif ∧ (failTare c s).rtb.route = s.rtb.route ∧
    (failTare c s).lch.tare = s.lch.tare ∧ (failTare c s).lch.last = s.lch.last ∧
    (failTare c s).lch.received = s.lch.received ∧ (failTare c s).lch.requested = s.lch.requested ∧
    (failTare c s).lch.awaiting = s.lch.awaiting ∧ (failTare c s).lch.repeatAt = s.lch.repeatAt ∧
    (failTare c s).lch.dwell = s.lch.dwell ∧ (failTare c s).lch.stress = s.lch.stress ∧
    (failTare c s).lch.cal = s.lch.cal ∧ (failTare c s).lch.loadset = s.lch.loadset ∧
    (failTare c s).xhu = s.xhu ∧ (failTare c s).exh = s.exh ∧ (failTare c s).tsq = s.tsq ∧
    (failTare c s).evu = s.evu ∧ (failTare c s).pru = s.pru ∧ (failTare c s).oln = s.oln ∧
    (failTare c s).cpt.checkFailures = s.cpt.checkFailures ∧
    (failTare c s).cpt.overruns = s.cpt.overruns ∧ (failTare c s).cpt.coalesced = s.cpt.coalesced ∧
    (failTare c s).cpt.streamOn = s.cpt.streamOn ∧
    (failTare c s).cpt.decimation = s.cpt.decimation ∧ (failTare c s).cpt.count = s.cpt.count ∧
    (failTare c s).cpt.fallbackAt = s.cpt.fallbackAt ∧ (failTare c s).cpt.session = s.cpt.session ∧
    (failTare c s).ntu.nlevels = s.ntu.nlevels ∧ (failTare c s).tst = s.tst := by
  unfold failTare
  split <;> simp

/-- What `makeDue` keeps. -/
@[simp] theorem makeDue_keeps :
    (makeDue s).pending = s.pending ∧ (makeDue s).now = s.now ∧ (makeDue s).sent = s.sent ∧
    (makeDue s).choices = s.choices ∧ (makeDue s).lif = s.lif ∧
    (makeDue s).rtb.route = s.rtb.route ∧ (makeDue s).lch = s.lch ∧ (makeDue s).xhu = s.xhu ∧
    (makeDue s).exh = s.exh ∧ (makeDue s).tsq = s.tsq ∧ (makeDue s).evu = s.evu ∧
    (makeDue s).pru = s.pru ∧ (makeDue s).oln = s.oln ∧
    (makeDue s).cpt.outstanding = s.cpt.outstanding ∧
    (makeDue s).cpt.checkFailures = s.cpt.checkFailures ∧
    (makeDue s).cpt.overruns = s.cpt.overruns ∧ (makeDue s).cpt.streamOn = s.cpt.streamOn ∧
    (makeDue s).cpt.decimation = s.cpt.decimation ∧ (makeDue s).cpt.count = s.cpt.count ∧
    (makeDue s).cpt.fallbackAt = s.cpt.fallbackAt ∧ (makeDue s).cpt.session = s.cpt.session ∧
    (makeDue s).ntu.nlevels = s.ntu.nlevels ∧ (makeDue s).tst = s.tst := by
  unfold makeDue
  split <;> simp

/-- What `startFallback` keeps. -/
@[simp] theorem startFallback_keeps :
    (startFallback s).pending = s.pending ∧ (startFallback s).now = s.now ∧
    (startFallback s).sent = s.sent ∧ (startFallback s).choices = s.choices ∧
    (startFallback s).lif = s.lif ∧ (startFallback s).rtb = s.rtb ∧ (startFallback s).lch = s.lch ∧
    (startFallback s).xhu = s.xhu ∧ (startFallback s).exh = s.exh ∧ (startFallback s).tsq = s.tsq ∧
    (startFallback s).evu = s.evu ∧ (startFallback s).pru = s.pru ∧ (startFallback s).oln = s.oln ∧
    (startFallback s).cpt.outstanding = s.cpt.outstanding ∧
    (startFallback s).cpt.replies = s.cpt.replies ∧ (startFallback s).cpt.link = s.cpt.link ∧
    (startFallback s).cpt.checkFailures = s.cpt.checkFailures ∧
    (startFallback s).cpt.overruns = s.cpt.overruns ∧
    (startFallback s).cpt.coalesced = s.cpt.coalesced ∧
    (startFallback s).cpt.streamOn = s.cpt.streamOn ∧
    (startFallback s).cpt.decimation = s.cpt.decimation ∧
    (startFallback s).cpt.count = s.cpt.count ∧ (startFallback s).cpt.due = s.cpt.due ∧
    (startFallback s).cpt.peak = s.cpt.peak ∧ (startFallback s).cpt.sequence = s.cpt.sequence ∧
    (startFallback s).cpt.session = s.cpt.session ∧ (startFallback s).ntu = s.ntu ∧
    (startFallback s).tst = s.tst := by
  unfold startFallback
  split <;> simp

/-- What `closeSession` keeps. -/
@[simp] theorem closeSession_keeps :
    (closeSession s).pending = s.pending ∧ (closeSession s).now = s.now ∧
    (closeSession s).sent = s.sent ∧ (closeSession s).choices = s.choices ∧
    (closeSession s).lif = s.lif ∧ (closeSession s).rtb = s.rtb ∧ (closeSession s).lch = s.lch ∧
    (closeSession s).xhu = s.xhu ∧ (closeSession s).exh = s.exh ∧ (closeSession s).tsq = s.tsq ∧
    (closeSession s).evu = s.evu ∧ (closeSession s).pru = s.pru ∧ (closeSession s).oln = s.oln ∧
    (closeSession s).cpt.outstanding = s.cpt.outstanding ∧
    (closeSession s).cpt.replies = s.cpt.replies ∧ (closeSession s).cpt.link = s.cpt.link ∧
    (closeSession s).cpt.checkFailures = s.cpt.checkFailures ∧
    (closeSession s).cpt.overruns = s.cpt.overruns ∧
    (closeSession s).cpt.coalesced = s.cpt.coalesced ∧
    (closeSession s).cpt.streamOn = s.cpt.streamOn ∧
    (closeSession s).cpt.decimation = s.cpt.decimation ∧ (closeSession s).cpt.count = s.cpt.count ∧
    (closeSession s).cpt.fallbackAt = s.cpt.fallbackAt ∧ (closeSession s).cpt.due = s.cpt.due ∧
    (closeSession s).cpt.peak = s.cpt.peak ∧ (closeSession s).cpt.sequence = s.cpt.sequence ∧
    (closeSession s).ntu = s.ntu ∧ (closeSession s).tst = s.tst := by
  simp [closeSession]

/-- What `joinOutstanding` keeps. -/
@[simp] theorem joinOutstanding_keeps (kind tag : Byte) :
    (joinOutstanding kind tag s).pending = s.pending ∧ (joinOutstanding kind tag s).now = s.now ∧
    (joinOutstanding kind tag s).sent = s.sent ∧ (joinOutstanding kind tag s).choices = s.choices ∧
    (joinOutstanding kind tag s).lif = s.lif ∧ (joinOutstanding kind tag s).rtb = s.rtb ∧
    (joinOutstanding kind tag s).lch = s.lch ∧ (joinOutstanding kind tag s).xhu = s.xhu ∧
    (joinOutstanding kind tag s).exh = s.exh ∧ (joinOutstanding kind tag s).tsq = s.tsq ∧
    (joinOutstanding kind tag s).evu = s.evu ∧ (joinOutstanding kind tag s).pru = s.pru ∧
    (joinOutstanding kind tag s).oln = s.oln ∧
    (joinOutstanding kind tag s).cpt.replies = s.cpt.replies ∧
    (joinOutstanding kind tag s).cpt.link = s.cpt.link ∧
    (joinOutstanding kind tag s).cpt.checkFailures = s.cpt.checkFailures ∧
    (joinOutstanding kind tag s).cpt.overruns = s.cpt.overruns ∧
    (joinOutstanding kind tag s).cpt.coalesced = s.cpt.coalesced ∧
    (joinOutstanding kind tag s).cpt.streamOn = s.cpt.streamOn ∧
    (joinOutstanding kind tag s).cpt.decimation = s.cpt.decimation ∧
    (joinOutstanding kind tag s).cpt.count = s.cpt.count ∧
    (joinOutstanding kind tag s).cpt.fallbackAt = s.cpt.fallbackAt ∧
    (joinOutstanding kind tag s).cpt.due = s.cpt.due ∧
    (joinOutstanding kind tag s).cpt.peak = s.cpt.peak ∧
    (joinOutstanding kind tag s).cpt.sequence = s.cpt.sequence ∧
    (joinOutstanding kind tag s).cpt.session = s.cpt.session ∧
    (joinOutstanding kind tag s).ntu = s.ntu ∧ (joinOutstanding kind tag s).tst = s.tst := by
  simp [joinOutstanding]

/-- What `overrun` keeps. -/
@[simp] theorem overrun_keeps (kind tag : Byte) :
    (overrun kind tag s).pending = s.pending ∧ (overrun kind tag s).now = s.now ∧
    (overrun kind tag s).sent = s.sent ∧ (overrun kind tag s).choices = s.choices ∧
    (overrun kind tag s).lif = s.lif ∧ (overrun kind tag s).rtb.route = s.rtb.route ∧
    (overrun kind tag s).lch = s.lch ∧ (overrun kind tag s).xhu = s.xhu ∧
    (overrun kind tag s).exh = s.exh ∧ (overrun kind tag s).tsq = s.tsq ∧
    (overrun kind tag s).evu = s.evu ∧ (overrun kind tag s).pru = s.pru ∧
    (overrun kind tag s).oln = s.oln ∧ (overrun kind tag s).cpt.outstanding = s.cpt.outstanding ∧
    (overrun kind tag s).cpt.checkFailures = s.cpt.checkFailures ∧
    (overrun kind tag s).cpt.coalesced = s.cpt.coalesced ∧
    (overrun kind tag s).cpt.streamOn = s.cpt.streamOn ∧
    (overrun kind tag s).cpt.decimation = s.cpt.decimation ∧
    (overrun kind tag s).cpt.count = s.cpt.count ∧
    (overrun kind tag s).cpt.fallbackAt = s.cpt.fallbackAt ∧
    (overrun kind tag s).cpt.session = s.cpt.session ∧
    (overrun kind tag s).ntu.nlevels = s.ntu.nlevels ∧ (overrun kind tag s).tst = s.tst := by
  simp [overrun]

/-- What `reply` keeps. -/
@[simp] theorem reply_keeps (o : OrderName) (tag : Byte) (code : ReplyCode) (d : Option Detail) (p : Option Payload) :
    (reply o tag code d p s).pending = s.pending ∧ (reply o tag code d p s).now = s.now ∧
    (reply o tag code d p s).sent = s.sent ∧ (reply o tag code d p s).choices = s.choices ∧
    (reply o tag code d p s).lif = s.lif ∧ (reply o tag code d p s).rtb.route = s.rtb.route ∧
    (reply o tag code d p s).lch = s.lch ∧ (reply o tag code d p s).xhu = s.xhu ∧
    (reply o tag code d p s).exh = s.exh ∧ (reply o tag code d p s).tsq = s.tsq ∧
    (reply o tag code d p s).evu = s.evu ∧ (reply o tag code d p s).pru = s.pru ∧
    (reply o tag code d p s).oln = s.oln ∧
    (reply o tag code d p s).cpt.checkFailures = s.cpt.checkFailures ∧
    (reply o tag code d p s).cpt.overruns = s.cpt.overruns ∧
    (reply o tag code d p s).cpt.coalesced = s.cpt.coalesced ∧
    (reply o tag code d p s).cpt.streamOn = s.cpt.streamOn ∧
    (reply o tag code d p s).cpt.decimation = s.cpt.decimation ∧
    (reply o tag code d p s).cpt.count = s.cpt.count ∧
    (reply o tag code d p s).cpt.fallbackAt = s.cpt.fallbackAt ∧
    (reply o tag code d p s).cpt.session = s.cpt.session ∧
    (reply o tag code d p s).ntu.nlevels = s.ntu.nlevels ∧ (reply o tag code d p s).tst = s.tst := by
  simp [reply]

end Sys2Proof.Machine
end

