-- ==== Sys2Proof/Laws/Backbone.lean ====
section
/-!
SUPPORT. What the consequences of a strain, force or position update never touch, whatever blocks take
it and in whatever order: one view of the state, and one lemma per operation that the view is kept.
-/

namespace Sys2Proof.Machine

/-- The state with everything put to a fixed value that the consequences of an update may move: a phase
end, a removal, a trip, a break and the end of a test, with their notices and frames. -/
def backbone (s : State) : State :=
  { s with
    choices := 0
    rtb := { s.rtb with holdings := Vector.replicate 10 none }
    lch := { s.lch with stress := none }
    xhu := { s.xhu with mode := .hold, a := 0, b := 0, target := none, strain := 0 }
    exh := { s.exh with
      handler := .detached, settleAt := none, averaging := none, ox := 0, reported := none
      lastExt := none, slipCount := 0 }
    tsq := { s.tsq with
      state := .idle, specimen := none, slot := none, phase := none, phaseBase := 0, phaseSince := 0
      phaseTimer := none, limitAt := none, testTime := 0, endCause := none }
    evu := State.reset.evu
    pru := { State.reset.pru with protset := s.pru.protset }
    cpt := { s.cpt with replies := [], link := none, due := false, peak := none, sequence := none }
    ntu := { s.ntu with records := Vector.replicate 10 none } }

variable (s : State)

/-- Acts that each keep the view keep it together. -/
theorem inOpenOrder_backbone (acts : List (State → State))
    (h : ∀ act ∈ acts, ∀ t, backbone (act t) = backbone t) :
    backbone (inOpenOrder acts s) = backbone s :=
  inOpenOrder_eq backbone acts s (fun _ _ => rfl) h

@[simp] theorem raise_backbone (src : Source) (d : NoticeDetail) :
    backbone (raise src d s) = backbone s := by simp [backbone]

@[simp] theorem enterHold_backbone : backbone (enterHold s) = backbone s := by simp [backbone]

@[simp] theorem endTest_backbone (n : SeqState) (c : EndCause) :
    backbone (endTest n c s) = backbone s := by simp [backbone]

@[simp] theorem beginPhase_backbone (k : Nat) : backbone (beginPhase k s) = backbone s := by
  simp [backbone]

@[simp] theorem recordMilestone_backbone (m : Milestone) :
    backbone (recordMilestone m s) = backbone s := by simp [backbone]

@[simp] theorem handMilestone_backbone (m : Milestone) :
    backbone (handMilestone m s) = backbone s := by simp [backbone]

@[simp] theorem closeAtLimit_backbone (x : EvalSample) :
    backbone (closeAtLimit x s) = backbone s := by simp [backbone]

@[simp] theorem endPlateau_backbone (x : EvalSample) :
    backbone (endPlateau x s) = backbone s := by simp [backbone]

@[simp] theorem raiseExt_backbone (d : ExtDetail) : backbone (raiseExt d s) = backbone s := by
  simp [backbone]

@[simp] theorem failAttach_backbone (c : AttachFailure) (n : HandlerState) :
    backbone (failAttach c n s) = backbone s := by simp [backbone]

@[simp] theorem noteRemovalStrain_backbone (v : Int) :
    backbone (noteRemovalStrain v s) = backbone s := by simp [backbone]

@[simp] theorem keepStrain_backbone (st : Strain) : backbone (keepStrain st s) = backbone s := by
  simp [backbone]

@[simp] theorem spliceToCrosshead_backbone : backbone (spliceToCrosshead s) = backbone s := by
  simp [backbone]

@[simp] theorem evuStrainLimit_backbone (st : Strain) :
    backbone (evuStrainLimit st s) = backbone s := by simp [backbone]

@[simp] theorem setEvu_backbone (x : Evu) : backbone (s.setEvu x) = backbone s := rfl

theorem removeArms_backbone (react : Strain → State → State) (cause : RemovalCause)
    (h : ∀ st t, backbone (react st t) = backbone t) :
    backbone (removeArms react cause s) = backbone s := by
  unfold removeArms
  simp only []
  split
  · rw [inOpenOrder_backbone]
    · simp [backbone]
    · simp [h]
  · simp [backbone]

theorem requestRemoval_backbone (react : Strain → State → State) (cause : RemovalCause)
    (h : ∀ st t, backbone (react st t) = backbone t) :
    backbone (requestRemoval react cause s) = backbone s := by
  unfold requestRemoval
  split
  · simp [backbone]
  · simp
  · exact removeArms_backbone s react cause h
  · split <;> simp [backbone]
  · rfl

@[simp] theorem endPhase_backbone (k : Nat) (p : Phase) :
    backbone (endPhase k p s) = backbone s := by
  have h : backbone (s.setTsq { s.tsq with phaseTimer := none }) = backbone s := rfl
  unfold endPhase
  simp only []
  split <;> split <;>
    simp [h, requestRemoval_backbone]

@[simp] theorem judgeEnd_backbone (met : EndKind → Int → Bool) :
    backbone (judgeEnd met s) = backbone s := by
  unfold judgeEnd
  split
  · split <;> simp
  · rfl

@[simp] theorem evuStrain_backbone (st : Strain) : backbone (evuStrain st s) = backbone s := by
  unfold evuStrain
  split <;> simp

@[simp] theorem tsqStrain_backbone (st : Strain) : backbone (tsqStrain st s) = backbone s := by
  simp [tsqStrain]

@[simp] theorem offerStrain_backbone (st : Strain) : backbone (offerStrain st s) = backbone s := by
  unfold offerStrain
  rw [inOpenOrder_backbone]
  simp

@[simp] theorem judgeSlip_backbone (x : ExtSet) (v : Int) :
    backbone (judgeSlip x v s) = backbone s := by
  unfold judgeSlip
  (repeat' split) <;> simp [keepLastExt, backbone]

theorem judgeRemoval_backbone (react : Strain → State → State) (rangeEnd : Bool) (st : Strain)
    (h : ∀ st t, backbone (react st t) = backbone t) :
    backbone (judgeRemoval react rangeEnd st s) = backbone s := by
  unfold judgeRemoval
  (repeat' split) <;> simp [removeArms_backbone, h]

theorem exhStrain_backbone (react : Strain → State → State) (rangeEnd : Bool) (st : Strain)
    (h : ∀ st t, backbone (react st t) = backbone t) :
    backbone (exhStrain react rangeEnd st s) = backbone s := by
  unfold exhStrain
  (repeat' split) <;> simp [judgeRemoval_backbone, h]

@[simp] theorem publishExt_backbone (rangeEnd : Bool) (st : Strain) :
    backbone (publishExt rangeEnd st s) = backbone s := by
  unfold publishExt
  rw [inOpenOrder_backbone]
  · simp
  · simp [exhStrain_backbone]

@[simp] theorem publishCrosshead_backbone : backbone (publishCrosshead s) = backbone s := by
  simp [publishCrosshead]

@[simp] theorem judgePlateau_backbone (r : Specimen) (strain : Int) (x : EvalSample) :
    backbone (judgePlateau r strain x s) = backbone s := by
  unfold judgePlateau
  simp only []
  (repeat' split) <;> simp

@[simp] theorem foundUpperYield_backbone (fy : EvalSample) :
    backbone (foundUpperYield fy s) = backbone s := by
  simp [foundUpperYield]

@[simp] theorem searchYield_backbone (r : Specimen) (strain : Int) (x : EvalSample) :
    backbone (searchYield r strain x s) = backbone s := by
  unfold searchYield
  simp only []
  (repeat' split) <;> simp

@[simp] theorem judgeChord_backbone (x : EvalSample) (r : Specimen) (strain : Int) :
    backbone (judgeChord x r strain s) = backbone s := by
  unfold judgeChord
  simp only []
  (repeat' split) <;> simp

@[simp] theorem judgeProof_backbone (x : EvalSample) (r : Specimen) (strain : Int) :
    backbone (judgeProof x r strain s) = backbone s := by
  unfold judgeProof
  simp only []
  (repeat' split) <;> simp

theorem whileRunning_backbone (f : Specimen → Int → State → State) (x : EvalSample)
    (h : ∀ r v t, backbone (f r v t) = backbone t) :
    backbone (whileRunning f x s) = backbone s := by
  unfold whileRunning
  (repeat' split) <;> simp [h]

@[simp] theorem takeBreak_backbone (x : EvalSample) : backbone (takeBreak x s) = backbone s := by
  unfold takeBreak
  simp only []
  split <;> simp [requestRemoval_backbone]

@[simp] theorem detectBreak_backbone (x : EvalSample) :
    backbone (detectBreak x s) = backbone s := by
  unfold detectBreak
  (repeat' split) <;> simp

@[simp] theorem evaluateRest_backbone (x : EvalSample) :
    backbone (evaluateRest x s) = backbone s := by
  unfold evaluateRest
  simp only []
  split <;> simp [whileRunning_backbone]

@[simp] theorem evuForce_backbone : backbone (evuForce s) = backbone s := by
  unfold evuForce
  simp only []
  split
  · split
    · rw [inOpenOrder_backbone]
      · simp [whileRunning_backbone, takeForce, trackMaximum]
      · simp
    · simp [whileRunning_backbone, takeForce, trackMaximum]
  · rfl

@[simp] theorem sequencerForce_backbone : backbone (sequencerForce s) = backbone s := by
  simp [sequencerForce]

@[simp] theorem sequencerPosition_backbone : backbone (sequencerPosition s) = backbone s := by
  simp [sequencerPosition]

@[simp] theorem exhForce_backbone : backbone (exhForce s) = backbone s := by
  unfold exhForce
  split <;> simp [removeArms_backbone]

@[simp] theorem exhPosition_backbone : backbone (exhPosition s) = backbone s := by
  unfold exhPosition
  split <;> simp

@[simp] theorem spend_backbone (c : TripClass) : backbone (spend c s) = backbone s := by
  simp [backbone]

@[simp] theorem judgeDelayed_backbone (c : TripClass) (h : Bool) (d : Nat) :
    backbone (judgeDelayed c h d s) = backbone s := by simp [backbone]

@[simp] theorem setCondition_backbone (c : TripClass) (x : Condition) :
    backbone (setCondition c x s) = backbone s := by simp [backbone]

@[simp] theorem judgeTension2_backbone (h : Bool) (n : Nat) :
    backbone (judgeTension2 h n s) = backbone s := by
  unfold judgeTension2
  (repeat' split) <;> simp

@[simp] theorem protectForce_backbone : backbone (protectForce s) = backbone s := by
  unfold protectForce
  split
  · rfl
  · rw [inOpenOrder_backbone]
    simp

@[simp] theorem protectPosition_backbone : backbone (protectPosition s) = backbone s := by
  simp [backbone]

@[simp] theorem judgeLoadLost_backbone (up : Bool) :
    backbone (judgeLoadLost up s) = backbone s := by simp [backbone]

end Sys2Proof.Machine
end

