-- ==== Sys2Proof/Laws/PerInstr.lean ====
section
/-!
SUPPORT. Laws of the commands as syntax, one lemma for each constructor of `Instr`.
-/

namespace Sys2Proof.Laws

open Sys2Proof.Machine

/-- A command that is an order of the catalogue is well formed exactly when its arguments fit in a C-port
frame (R196, R198). -/
def OrdersFit.Statement (i : Instr) : Prop :=
  ∀ (o : OrderName) (dt : Nat) (tag : Byte) (args : List Byte), i = orderCommand o dt tag args →
    (WellFormed i = true ↔ args.length ≤ 510)

/-- The law, whatever the command. -/
theorem ordersFit (i : Instr) : OrdersFit.Statement i := by
  rintro o dt tag args rfl
  cases o <;> simp [orderCommand, WellFormed, argumentsFit]

theorem OrdersFit.powerOn : OrdersFit.Statement (.powerOn) :=
  ordersFit _

theorem OrdersFit.sample (dt : Nat) (lane : Lane) (rx : Reception) : OrdersFit.Statement (.sample dt lane rx) :=
  ordersFit _

theorem OrdersFit.driveStatus (dt : Nat) (lane : Lane) (rx : Reception) : OrdersFit.Statement (.driveStatus dt lane rx) :=
  ordersFit _

theorem OrdersFit.silenceTimerExpiry (lane : Lane) : OrdersFit.Statement (.silenceTimerExpiry lane) :=
  ordersFit _

theorem OrdersFit.demandTimerExpiry : OrdersFit.Statement (.demandTimerExpiry) :=
  ordersFit _

theorem OrdersFit.repeatTimerExpiry : OrdersFit.Statement (.repeatTimerExpiry) :=
  ordersFit _

theorem OrdersFit.dwellTimerExpiry : OrdersFit.Statement (.dwellTimerExpiry) :=
  ordersFit _

theorem OrdersFit.tareSampleTimerExpiry : OrdersFit.Statement (.tareSampleTimerExpiry) :=
  ordersFit _

theorem OrdersFit.settleTimerExpiry : OrdersFit.Statement (.settleTimerExpiry) :=
  ordersFit _

theorem OrdersFit.zeroAveragingTimeout : OrdersFit.Statement (.zeroAveragingTimeout) :=
  ordersFit _

theorem OrdersFit.jogDeadlineExpiry : OrdersFit.Statement (.jogDeadlineExpiry) :=
  ordersFit _

theorem OrdersFit.phaseTimerExpiry : OrdersFit.Statement (.phaseTimerExpiry) :=
  ordersFit _

theorem OrdersFit.timeLimitExpiry : OrdersFit.Statement (.timeLimitExpiry) :=
  ordersFit _

theorem OrdersFit.loadLossTimerExpiry : OrdersFit.Statement (.loadLossTimerExpiry) :=
  ordersFit _

theorem OrdersFit.streamFallbackExpiry : OrdersFit.Statement (.streamFallbackExpiry) :=
  ordersFit _

theorem OrdersFit.sessionTimerExpiry : OrdersFit.Statement (.sessionTimerExpiry) :=
  ordersFit _

theorem OrdersFit.storeSaveWriteComplete (dt : Nat) (good : Bool) : OrdersFit.Statement (.storeSaveWriteComplete dt good) :=
  ordersFit _

theorem OrdersFit.storeRecallReadComplete (dt : Nat) (intact : Bool) : OrdersFit.Statement (.storeRecallReadComplete dt intact) :=
  ordersFit _

theorem OrdersFit.startUpTableRead (dt : Nat) (intact : Bool) : OrdersFit.Statement (.startUpTableRead dt intact) :=
  ordersFit _

theorem OrdersFit.transmissionComplete (dt : Nat) : OrdersFit.Statement (.transmissionComplete dt) :=
  ordersFit _

theorem OrdersFit.cportBadFrame (dt : Nat) (rx : Reception) : OrdersFit.Statement (.cportBadFrame dt rx) :=
  ordersFit _

theorem OrdersFit.unknownOrder (dt : Nat) (kind tag : Byte) (args : List Byte) : OrdersFit.Statement (.unknownOrder dt kind tag args) :=
  ordersFit _

theorem OrdersFit.tableOpen (dt : Nat) (tag : Byte) (args : List Byte) : OrdersFit.Statement (.tableOpen dt tag args) :=
  ordersFit _

theorem OrdersFit.tableData (dt : Nat) (tag : Byte) (args : List Byte) : OrdersFit.Statement (.tableData dt tag args) :=
  ordersFit _

theorem OrdersFit.tableCommit (dt : Nat) (tag : Byte) (args : List Byte) : OrdersFit.Statement (.tableCommit dt tag args) :=
  ordersFit _

theorem OrdersFit.tableDiscard (dt : Nat) (tag : Byte) (args : List Byte) : OrdersFit.Statement (.tableDiscard dt tag args) :=
  ordersFit _

theorem OrdersFit.tableRead (dt : Nat) (tag : Byte) (args : List Byte) : OrdersFit.Statement (.tableRead dt tag args) :=
  ordersFit _

theorem OrdersFit.storeSave (dt : Nat) (tag : Byte) (args : List Byte) : OrdersFit.Statement (.storeSave dt tag args) :=
  ordersFit _

theorem OrdersFit.storeRecall (dt : Nat) (tag : Byte) (args : List Byte) : OrdersFit.Statement (.storeRecall dt tag args) :=
  ordersFit _

theorem OrdersFit.arm (dt : Nat) (tag : Byte) (args : List Byte) : OrdersFit.Statement (.arm dt tag args) :=
  ordersFit _

theorem OrdersFit.disarm (dt : Nat) (tag : Byte) (args : List Byte) : OrdersFit.Statement (.disarm dt tag args) :=
  ordersFit _

theorem OrdersFit.start (dt : Nat) (tag : Byte) (args : List Byte) : OrdersFit.Statement (.start dt tag args) :=
  ordersFit _

theorem OrdersFit.hold (dt : Nat) (tag : Byte) (args : List Byte) : OrdersFit.Statement (.hold dt tag args) :=
  ordersFit _

theorem OrdersFit.resume (dt : Nat) (tag : Byte) (args : List Byte) : OrdersFit.Statement (.resume dt tag args) :=
  ordersFit _

theorem OrdersFit.abort (dt : Nat) (tag : Byte) (args : List Byte) : OrdersFit.Statement (.abort dt tag args) :=
  ordersFit _

theorem OrdersFit.release (dt : Nat) (tag : Byte) (args : List Byte) : OrdersFit.Statement (.release dt tag args) :=
  ordersFit _

theorem OrdersFit.resultRead (dt : Nat) (tag : Byte) (args : List Byte) : OrdersFit.Statement (.resultRead dt tag args) :=
  ordersFit _

theorem OrdersFit.milestoneRead (dt : Nat) (tag : Byte) (args : List Byte) : OrdersFit.Statement (.milestoneRead dt tag args) :=
  ordersFit _

theorem OrdersFit.tare (dt : Nat) (tag : Byte) (args : List Byte) : OrdersFit.Statement (.tare dt tag args) :=
  ordersFit _

theorem OrdersFit.extAttach (dt : Nat) (tag : Byte) (args : List Byte) : OrdersFit.Statement (.extAttach dt tag args) :=
  ordersFit _

theorem OrdersFit.extRemove (dt : Nat) (tag : Byte) (args : List Byte) : OrdersFit.Statement (.extRemove dt tag args) :=
  ordersFit _

theorem OrdersFit.jog (dt : Nat) (tag : Byte) (args : List Byte) : OrdersFit.Statement (.jog dt tag args) :=
  ordersFit _

theorem OrdersFit.jogStop (dt : Nat) (tag : Byte) (args : List Byte) : OrdersFit.Statement (.jogStop dt tag args) :=
  ordersFit _

theorem OrdersFit.clearTrip (dt : Nat) (tag : Byte) (args : List Byte) : OrdersFit.Statement (.clearTrip dt tag args) :=
  ordersFit _

theorem OrdersFit.tripHistoryRead (dt : Nat) (tag : Byte) (args : List Byte) : OrdersFit.Statement (.tripHistoryRead dt tag args) :=
  ordersFit _

theorem OrdersFit.tripHistoryReset (dt : Nat) (tag : Byte) (args : List Byte) : OrdersFit.Statement (.tripHistoryReset dt tag args) :=
  ordersFit _

theorem OrdersFit.lineSet (dt : Nat) (tag : Byte) (args : List Byte) : OrdersFit.Statement (.lineSet dt tag args) :=
  ordersFit _

theorem OrdersFit.streamSet (dt : Nat) (tag : Byte) (args : List Byte) : OrdersFit.Statement (.streamSet dt tag args) :=
  ordersFit _

theorem OrdersFit.statusRead (dt : Nat) (tag : Byte) (args : List Byte) : OrdersFit.Statement (.statusRead dt tag args) :=
  ordersFit _

theorem OrdersFit.restart (dt : Nat) (tag : Byte) (args : List Byte) : OrdersFit.Statement (.restart dt tag args) :=
  ordersFit _

end Sys2Proof.Laws
end

