-- ==== Sys2Proof/Laws/Port.lean ====
section
/-!
SUPPORT. What the arbiter, an occurrence and an answered order do on a settled link, each said once.
-/

namespace Sys2Proof.Machine

/-- On a busy link the arbiter waits. -/
theorem arbitrate_busy {s : State} {f : OutFrame} (h : s.cpt.link = some f) : arbitrate s = s := by
  simp [arbitrate, h]

/-- No source has a pending notice when no record is held. -/
theorem pendingAt_none {s : State} (h : ∀ k : Fin 10, s.ntu.records[k] = none) (level : Level) :
    pendingAt level s = none := by
  simp only [pendingAt, List.find?_eq_none]
  intro src _
  simp only [Fin.getElem_fin] at h
  simp [h]

/-- With nothing waiting the arbiter starts nothing. -/
theorem arbitrate_settled {s : State} (h : Settled s) : arbitrate s = s := by
  cases hl : s.cpt.link with
  | some f => exact arbitrate_busy hl
  | none =>
    obtain ⟨hd, hr, hn⟩ := h hl
    simp [arbitrate, hl, hd, hr, pendingAt_none hn]

/-- Taking the record of a source out again. -/
theorem set_set_none {records : Vector (Option NoticeRecord) 10}
    (h : ∀ k : Fin 10, records[k] = none) (k : Fin 10) (x : Option NoticeRecord) :
    (records.set k x).set k none = records := by
  ext i hi
  have := h ⟨i, hi⟩
  simp only [Fin.getElem_fin] at this
  simp [Vector.getElem_set, this]

/-- The arbiter with one pending record on an otherwise settled, FREE link: its notice starts. -/
theorem arbitrate_single {s : State} (src : Source) (r : NoticeRecord) (hl : s.cpt.link = none)
    (hd : s.cpt.due = false) (hr : s.cpt.replies = [])
    (hn : ∀ k : Fin 10, s.ntu.records[k] = none) (hoff : noticeLevel s src ≠ .off) :
    arbitrate (s.setNtu { s.ntu with records := s.ntu.records.set (sourceNumber src) (some r) }) =
      { s with cpt := { s.cpt with
          link := some (.notice
            { source := src, level := noticeLevel s src, detail := r.detail, count := r.count
              time := r.time.setWidth 32 }) } } := by
  have hlevel : ∀ x src', noticeLevel
      (s.setNtu { s.ntu with records := x }) src' = noticeLevel s src' := fun _ _ => rfl
  have hfind : ∀ level, pendingAt level (s.setNtu
      { s.ntu with records := s.ntu.records.set (sourceNumber src) (some r) }) =
        if noticeLevel s src = level then some src else none := by
    intro level
    simp only [pendingAt, hlevel]
    simp only [Fin.getElem_fin] at hn
    have hb : ∀ a b : Source, ((sourceNumber a).val = (sourceNumber b).val) ↔ a = b := by
      intro a b; cases a <;> cases b <;> decide
    have hp : ∀ a : Source, ((s.ntu.records.set (sourceNumber src) (some r))[sourceNumber a].isSome
        && decide (noticeLevel s a = level)) =
        (decide (a = src) && decide (noticeLevel s src = level)) := by
      intro a
      by_cases ha : a = src
      · subst ha; simp
      · have : (sourceNumber src).val ≠ (sourceNumber a).val := fun h => ha ((hb _ _).1 h).symm
        simp [this, hn, ha]
    simp only [State.setNtu_ntu, hp]
    by_cases hlv : noticeLevel s src = level
    · simp only [hlv, decide_true, Bool.and_true, if_true]
      cases src <;> rfl
    · simp [hlv]
  have hstart : startNotice src (s.setNtu
      { s.ntu with records := s.ntu.records.set (sourceNumber src) (some r) }) =
      { s with cpt := { s.cpt with
          link := some (.notice
            { source := src, level := noticeLevel s src, detail := r.detail, count := r.count
              time := r.time.setWidth 32 }) } } := by
    simp [startNotice, State.setNtu, State.setCpt, set_set_none hn]
    rfl
  rw [← hstart]
  cases hv : noticeLevel s src with
  | off => exact absurd hv hoff
  | one => simp [arbitrate, hl, hd, hr, hfind, hv]
  | two => simp [arbitrate, hl, hd, hr, hfind, hv]
  | three => simp [arbitrate, hl, hd, hfind, hv]

/-- An occurrence on a settled link. -/
theorem raise_settled {s : State} (h : Settled s) (src : Source) (d : NoticeDetail) :
    raise src d s = noticed src d s := by
  unfold raise noticed
  cases hl : s.cpt.link with
  | some f =>
    split
    · simp [*]
    · rw [arbitrate_busy (f := f) (by simpa using hl)]
      cases hv : noticeLevel s src <;> simp_all [State.setNtu]
  | none =>
    obtain ⟨hd, hr, hn⟩ := h hl
    split
    · simp [*]
    · rename_i hoff
      rw [arbitrate_single src _ hl hd hr hn hoff]
      have := hn (sourceNumber src)
      simp only [Fin.getElem_fin] at this
      cases hv : noticeLevel s src <;> simp_all [countOccurrence]

/-- The newest order is the one answered. -/
@[simp] theorem answerLast_append (os : List Outstanding) (o : Outstanding) :
    answerLast (os ++ [o]) = os ++ [{ o with answered := true }] := by
  induction os with
  | nil => rfl
  | cons a rest ih =>
    cases rest with
    | nil => rfl
    | cons b more => simpa [answerLast] using ih

/-- A reply that joins the queue on a settled link. -/
theorem joinReply_settled {s : State} (h : Settled s) (r : Reply) :
    joinReply r s = { s with cpt := { s.cpt with
      link := some (s.cpt.link.getD (.reply r))
      replies :=
        match s.cpt.link with
        | none => []
        | some _ => s.cpt.replies ++ [r] } } := by
  unfold joinReply
  cases hl : s.cpt.link with
  | some f =>
    rw [arbitrate_busy (f := f) (by simpa using hl)]
    simp [State.setCpt, hl]
  | none =>
    obtain ⟨hd, hr, hn⟩ := h hl
    rw [arbitrate]
    simp only [State.setCpt_cpt, hl, hd, hr, Bool.false_eq_true, if_false, List.nil_append]
    rw [pendingAt_none (by exact hn)]
    rfl

/-- The newest order in the outstanding set is answered on a settled link. -/
theorem answer_settled {s : State} (h : Settled s) (os : List Outstanding) (kind tag : Byte)
    (ho : s.cpt.outstanding = os ++ [{ tag := tag, kind := kind, answered := false }])
    (code : ReplyCode) (d : Option Detail) (p : Option Payload) :
    answer kind tag code d p s =
      answered { tag := tag, kind := kind, code := code, detail := d, payload := p }
        { s with cpt := { s.cpt with outstanding := os } } := by
  unfold answer
  rw [joinReply_settled (by exact h), ho, answerLast_append]
  rfl

/-- A ready part takes a well-formed order to its owner. -/
theorem takeOrder_ready {s : State} {o : OrderName} {own : Byte → List Byte → State → State}
    {tag : Byte} {args : List Byte} {dt : Nat} (h : Ready s)
    (hw : wellFormedArguments o args = true) :
    takeOrder o own tag args (elapse dt s) =
      own tag args (joinOutstanding (orderCode o) tag (later dt s)) := by
  obtain ⟨-, ho, hst⟩ := h
  have h1 : ¬ 4 ≤ (elapse dt s).cpt.outstanding.length := by
    show ¬ 4 ≤ s.cpt.outstanding.length
    omega
  have h2 : storeStarting (joinOutstanding (orderCode o) tag (elapse dt s)) = false := hst
  unfold takeOrder
  rw [if_neg h1, dispatch, hw, h2]
  rfl

/-- An order answered as soon as it has joined the outstanding set. -/
theorem reply_join {s : State} (h : Settled s) (o : OrderName) (tag : Byte) (code : ReplyCode)
    (d : Option Detail) (p : Option Payload) :
    reply o tag code d p (joinOutstanding (orderCode o) tag s) =
      answered { tag := tag, kind := orderCode o, code := code, detail := d, payload := p } s := by
  unfold reply
  rw [answer_settled (os := s.cpt.outstanding) (by exact h) _ _ rfl]
  rfl

end Sys2Proof.Machine
end

