-- ==== Sys2Proof/Tests/Slice0.lean ====
section
/-!
SUPPORT. Tests on small states: the figures of the manual's worked cases, the well-formedness checks, and
for each statement with hypotheses a state that meets them.
-/

namespace Sys2Proof.Tests

set_option Elab.async false

open Sys2Proof Sys2Proof.Machine

/-! ## A small cell (sections 1.12, 2.4, 4.2.1, 5.12 and 12.1) -/

/-- The four-module route table of section 1.12. -/
def cellRoute : RouteTable :=
  Vector.ofFn fun k : Fin 10 =>
    { channel :=
        if k = 0 then .load else if k = 2 then .xhead else if k = 4 then .extA
        else if k = 6 then .extB else .unused
      tap := k = 1 }

/-- CAL2 of section 2.4. -/
def cal2 : CalTable :=
  [{ count := 0, force := 0 }, { count := 4000000, force := 1000000 },
   { count := 8000000, force := 2004000 }]

/-- EXTSET of section 12.1. -/
def cellExtSet : ExtSet :=
  { twoArm := true, scaleA := 2048, scaleB := 2047, settleMs := 500, rangeEnd := 500000, slipStep := 200
    setupLength := 50000 }

/-- XSET of section 12.1, with a resolution of 100 nm and no offset. -/
def cellXSet : XSet :=
  { resolution := 100, offset := 0, softLower := 50000000, softUpper := 450000000
    hardMargin := 5000000, jogMaximum := 5000000 }

/-- PROTSET of section 12.1. -/
def cellProtSet : ProtSet :=
  { tension1 := 1400000, delay1Ms := 10, tension2 := 1600000, count2 := 2, compression := 50000
    delayCMs := 10, followLimit := 200000, followDelayMs := 50, loadLossMs := 20, recovery := 9000 }

/-- The rebar program of section 5.12. -/
def rebarProgram : Program :=
  { timeLimit := 900
    phases :=
      [ { mode := .strainRate, rate := 2500, direction := 1, gain := 512, vmax := 30000
          feedforward := 0, end1 := .yieldClosed, threshold1 := 0, end2 := some .strainAtLeast
          threshold2 := 60000, removeExt := true },
        { mode := .positionRate, rate := 400000, direction := 1, gain := 0, vmax := 0
          feedforward := 0, end1 := .never, threshold1 := 0, end2 := none, threshold2 := 0
          removeExt := false } ] }

/-- The specimen record of section 12.1. -/
def rebar : Specimen :=
  { slot := 0, s0 := 201062, l0 := 50000, lc := 60000, yieldDrop := 100, searchLimit := 60000
    transient := 2000, riseMargin := 100, yieldMinForce := 500000, sigmaLow := 10000
    sigmaHigh := 30000, proofOffset := 20000, removalStrain := none, removalDrop := none
    breakFraction := 5000, breakDrop := 50000, breakArm := 500000 }

/-- After power-on and a start-up recall that found every stored copy empty. -/
def idle : State :=
  { State.reset with tst := { State.reset.tst with op := .idle } }

/-- The cell in IDLE: five lanes UP, its tables VALID, a GOOD position with the demand on it, and the
drive ready and enabled. -/
def cell : State :=
  { idle with
    now := 1000000
    lif :=
      { lanes := Vector.replicate 5
          { status := .up, silence := some 1000900, checkFailures := 0, moduleFaults := 0
            unmapped := 0 } }
    rtb := { idle.rtb with route := some cellRoute }
    lch := { idle.lch with
      cal := #v[none, none, some cal2, none], received := some 2, requested := some 2, tare := 1250 }
    xhu := { idle.xhu with
      pos := 152400000, good := true, demand := some 152400000
      drive := { ready := true, fault := false, saturated := false }
      lastEnable := true, demandAt := some 1000100, xset := some cellXSet }
    exh := { idle.exh with extset := some cellExtSet }
    pru := { idle.pru with protset := some cellProtSet }
    tsq := { idle.tsq with prog := #v[some rebarProgram, none, none, none] } }

/-- The cell ARMED with the bar. -/
def armed : State :=
  { cell with tsq := { cell.tsq with state := .armed, specimen := some rebar, slot := some 0 } }

/-- The cell RUNNING phase 1, POSITION-RATE, with the handler OPENED. -/
def running : State :=
  { cell with
    tsq := { cell.tsq with
      state := .running, specimen := some rebar, slot := some 0, phase := some 1
      startedAt := 900000, limitAt := some 900900000, phaseSince := 950000 }
    xhu := { cell.xhu with mode := .positionRate 400000 1 }
    exh := { cell.exh with handler := .opened, pRef := 152000000 }
    evu := { cell.evu with
      fm := some { time := 0, force := 1310000, stress := 65154, strain := none, pos := 152400000 }
      breakArmed := true, listOpen := true, hasTest := true } }

/-- The cell HELD in the same test. -/
def heldTest : State :=
  { running with
    tsq := { running.tsq with state := .held }
    xhu := { running.xhu with mode := .hold } }

/-- The cell with the extensometer ATTACHED (zeros of section 4.3.1). -/
def attached : State :=
  { cell with exh := { cell.exh with
      handler := .attached, zeroA := some 1205, zeroB := some (-201), latestB := some 61302 } }

/-- A state with a class in the trip latch. -/
def latching (c : TripClass) (s : State) : State :=
  { s with pru := { s.pru with latch := s.pru.latch.set (tripNumber c) true } }

/-- A state with LOAD lost and a loss delay of 0: LOAD-LOST trips on the spot where it is judged. -/
def deaf (s : State) : State :=
  { s with
    lif := { lanes := s.lif.lanes.set 0 { s.lif.lanes[0] with status := .stale, silence := none } }
    pru := { s.pru with protset := some { cellProtSet with loadLossMs := 0 } } }

/-- A state with a jog active. -/
def jogging (s : State) : State :=
  { s with xhu := { s.xhu with mode := .jog 1000000 1200000 } }

/-- The bytes of a sample as received. -/
def received (f : SampleFrame) : Reception :=
  { bytes := sampleFrameBytes f, clean := true }

/-- A sample on range 2 with a count. -/
def count (v : Int) : SampleFrame :=
  { moduleFault := false, overrange := false, range := 2, sub := 0, value := v }

/-- What is seen in the state after a command; none where it does not go on. -/
def seen {α : Type} (i : Instr) (s : State) (f : State → α) : Option α :=
  (nextOf (exec i s)).map f

/-! ## The words of the links (chapter 11) -/

/-- "123456789" in ASCII. The check values of the two CRCs of R194 and R196 over it are those published for
their parameters (CRC-16/IBM-3740 and CRC-32/BZIP2). -/
def checkString : List Byte :=
  [0x31, 0x32, 0x33, 0x34, 0x35, 0x36, 0x37, 0x38, 0x39]

theorem test_crc16_check_value : crc16 checkString = 0x29B1#16 := by decide +kernel

theorem test_crc32_check_value : crc32 checkString = 0xFC891918#32 := by decide +kernel

/-- SAMPLE on range 2 with count −400,000 (F9 E5 80), bit 5 of byte 1 the high range bit (R194). -/
theorem test_sample_frame_bytes :
    (sampleFrameBytes (count (-400000))).take 6 = [0x01, 0x20, 0xF9, 0xE5, 0x80, 0x00] := by decide +kernel

theorem test_sample_frame_read : readLaneFrame 0 (received (count 4500000)) = .sample (count 4500000) := by
  decide +kernel

/-- DRIVE-STATUS with ready set is kind 2 with bit 0 of byte 1, on L4 alone (R194, R195). -/
theorem test_drive_status_on_l4_only :
    let rx : Reception :=
      { bytes := driveFrameBytes { ready := true, fault := false, saturated := false }, clean := true }
    rx.bytes.take 6 = [0x02, 0x01, 0, 0, 0, 0] ∧
      readLaneFrame 4 rx = .driveStatus { ready := true, fault := false, saturated := false } ∧
      readLaneFrame 3 rx = .bad := by decide +kernel

/-- TABLE-OPEN of CAL2 with tag 7: kind 1, length 3, body 01 07 03, CRC-32 (R196, R198, section 10.1). -/
theorem test_table_open_frame :
    cportCommand 5
      { bytes := [0x01, 0x00, 0x03, 0x01, 0x07, 0x03]
          ++ bytesOf 4 (crc32 [0x01, 0x00, 0x03, 0x01, 0x07, 0x03]).toNat
        clean := true } = .tableOpen 5 7 [3] := by
  decide +kernel

/-- A RANGE-REQUEST for range 3 on sub-channel 1 (R194). -/
theorem test_range_request_bytes :
    (laneOutBytes (.rangeRequest 3 1)).take 6 = [0x03, 0x31, 0, 0, 0, 0] := by decide +kernel

/-! ## Worked figures: force, tare, stress (sections 2.4 and 2.5.1) -/

/-- The eight rows of section 2.4: net and gross force and quality. -/
theorem test_worked_conversions :
    let row (f : SampleFrame) := ((convertForce cell f).gross, (convertForce cell f).net,
      (convertForce cell f).quality)
    row (count 4500000) = (1125500, 1124250, .good) ∧
    row (count 8000000) = (2004000, 2002750, .good) ∧
    row (count 9000000) = (2255000, 2253750, .beyondCal) ∧
    row (count (-400000)) = (-100000, -101250, .beyondCal) ∧
    row (count 2) = (1, -1249, .good) ∧
    row (count (-2)) = (-1, -1251, .beyondCal) ∧
    row { count 3000000 with overrange := true } = (2004000, 2002750, .overrange) ∧
    row { count (-5) with overrange := true } = (-2004000, -2005250, .overrange) := by
  decide +kernel

/-- The stress of the first row, and the clamp of section 2.4. -/
theorem test_worked_stress :
    stressOf 1124250 201062 = 55916 ∧ stressOf 2147483647 1000 = 2147483647 := by decide +kernel

/-- The sixteenth sample of section 2.5.1: 19,992 / 16 rounds to 1,250, and the reply carries it. -/
theorem test_tare_completes :
    let s := { idle with
      lch := { idle.lch with
        tareJob := some { tag := 41, count := 15, sum := 18741, deadline := 500 }
        last := { net := 1251, gross := 1251, quality := .good, range := some 2 } } }
    (tareSample s).lch.tare = 1250 ∧ (tareSample s).lch.tareJob = none ∧
      (tareSample s).cpt.link = some (.reply
        { tag := 41, kind := 17, code := .done, detail := none, payload := some (.tare 1250) }) := by
  decide +kernel

/-- An up-switch at a gross force of 475,000 dN or more on a range of 500,000 dN (section 12.4). -/
theorem test_up_switch_threshold :
    let scale : CalTable := [{ count := 0, force := 0 }, { count := 1, force := 500000 }]
    upSwitch (loadSettings cell) scale 475150 = true ∧
      upSwitch (loadSettings cell) scale 474999 = false := by
  decide +kernel

/-! ## Worked figures: the crosshead (section 3.13) -/

/-- The five expiries of section 3.13: D after each, and the target and accumulators at the end. -/
theorem test_closed_loop_worked :
    let x0 : Xhu := { cell.xhu with demand := some 1000000, target := some 4000, a := 0, b := 0 }
    let x1 := closedLoop 2500 512 30000 15000 4000 x0
    let x2 := closedLoop 2500 512 30000 15000 4000 x1
    let x3 := closedLoop 2500 512 30000 15000 4001 x2
    let x4 := closedLoop 2500 512 30000 15000 4001 x3
    let x5 := closedLoop 2500 512 30000 15000 4002 x4
    [x1, x2, x3, x4, x5].map Xhu.demand =
        [some 1000003, some 1000007, some 1000011, some 1000015, some 1000018] ∧
      x5.target = some 4003 ∧ x5.a = 3006 ∧ x5.b = 500 := by
  decide +kernel

/-- The capped expiry of section 3.13: the advance is undone, and D steps at 15,050 nm/s. -/
theorem test_closed_loop_capped :
    let x : Xhu := { cell.xhu with demand := some 0, target := some 5000, a := 0, b := 3000 }
    let y := closedLoop 2500 512 15050 15000 4961 x
    y.target = some 5000 ∧ y.b = 3000 ∧ y.a = 3050 ∧ y.demand = some 3 := by
  decide +kernel

/-- POSITION-RATE at 400,000 nm/s adds 100 nm at an expiry, and the frame carries the new D with drive
enable 1 and MOVING (sections 3.4 and 12.6). -/
theorem test_demand_expiry_steps :
    seen .demandTimerExpiry running (fun t => (t.xhu.demand, t.xhu.a, t.sent, t.xhu.demandAt)) =
      some (some 152400100, 0, [(4, .demand true true 152400100)], some 1000350) := by
  decide +kernel

/-! ## Worked figures: the extensometer (sections 4.2.1 and 4.3.1) -/

/-- The arm strain of section 4.2.1, L0 taken from the specimen record, in both modes. -/
theorem test_worked_arm_strain :
    let s := { armed with exh := { attached.exh with latestA := some 62705 } }
    extensometerStrain cellExtSet s = 24595 ∧
      extensometerStrain { cellExtSet with twoArm := false } s = 24600 := by
  decide +kernel

/-- The zeros of section 4.3.1. -/
theorem test_worked_zeros :
    let t := setZeros cellExtSet
      { armA := { count := 16, sum := 19272 }, armB := { count := 16, sum := -3208 }, openedAt := 0 }
      cell
    t.exh.zeroA = some 1205 ∧ t.exh.zeroB = some (-201) ∧ t.exh.handler = .attached := by
  decide +kernel

/-- The splice of section 12.6: O_x is 45,200 less the raw crosshead strain 73,000 of 438,000 nm, and
438,300 nm then reads 45,250 su. -/
theorem test_worked_splice :
    let s := { running with
      xhu := { running.xhu with pos := 152438000, strain := 45200 } }
    (spliceToCrosshead s).exh.ox = -27800 ∧
      (spliceToCrosshead s).exh.reported = some { value := 45200, source := .crosshead } ∧
      crossheadStrain { s with
        xhu := { s.xhu with pos := 152438300 }, exh := { s.exh with ox := -27800 } } =
          { value := 45250, source := .crosshead } := by
  decide +kernel

/-! ## Worked figures: yield, modulus, proof and break (sections 6.3.1 to 6.6.1) -/

/-- A sample of section 6.3.1 with its force. -/
def yieldSample (force strain : Int) : EvalSample :=
  { time := 0, force := force, stress := stressOf force 201062
    strain := some { value := strain, source := .ext }, pos := 0 }

/-- The search on sample 3 of section 6.3.1, in RISING. -/
def rising3 : State :=
  { running with
    evu := { running.evu with search := .rising, fy := some (yieldSample 1126300 28050) } }

/-- Sample 4 of section 6.3.1 stays in RISING; sample 5 finds the upper yield point, ReH being sample 3
with stress 56,018. -/
theorem test_upper_yield :
    (searchYield rebar 28200 (yieldSample 1119000 28200) rising3).evu.search = .rising ∧
      (searchYield rebar 28400 (yieldSample 1110400 28400) rising3).evu.search = .plateau ∧
      (searchYield rebar 28400 (yieldSample 1110400 28400) rising3).evu.result.reh =
        some { force := 1126300, stress := 56018 } := by
  decide +kernel

/-- Samples 10 and 11 of section 6.3.1: the first falls short of the plateau's end, the second meets it
with ReL 1,096,200 (54,520) and Ae 17,150. -/
theorem test_lower_yield :
    let s := { rising3 with evu := { rising3.evu with
      search := .plateau, reh := some (yieldSample 1126300 28050)
      candidate := some (yieldSample 1096200 31800) } }
    let t := searchYield rebar 45200 (yieldSample 1108500 45200) s
    (searchYield rebar 38000 (yieldSample 1099900 38000) s).evu.search = .plateau ∧
      t.evu.search = .closed ∧ t.evu.result.rel = some { force := 1096200, stress := 54520 } ∧
      t.evu.result.ae = some 17150 := by
  decide +kernel

/-- The modulus of R118 and the proof samples a and b of section 6.5.1. -/
theorem test_modulus_and_proof :
    let p1 : ChordPoint := { stress := 10000, strain := 4900 }
    let p2 : ChordPoint := { stress := 30000, strain := 14800 }
    chordModulus p1 p2 = some 202020 ∧ proofMet p1 p2 20000 55916 47600 = false ∧
      proofMet p1 p2 20000 55920 47650 = true := by
  decide +kernel

/-- The last two samples of section 6.6.1. -/
theorem test_break_by_drop :
    breakFound rebar running.evu.fm
        (pushForce [1265000, 1262000, 1250000, 1240000] 1215000) 1215000 = false ∧
      breakFound rebar running.evu.fm
        (pushForce [1262000, 1250000, 1240000, 1215000] 1185000) 1185000 = true := by
  decide +kernel

/-! ## One step of each kind of event -/

/-- Power-on from a running test: IDLE, HOLD, N = 16, and the store STARTING (R61, R107, R169, R191). -/
theorem test_power_on :
    seen .powerOn running
        (fun t => (t.tsq.state, t.xhu.mode, t.cpt.decimation, storeStarting t, t.now)) =
      some (.idle, .hold, 16, true, 0) := by
  decide +kernel

/-- The second bad frame of section 1.13: counted, the timer untouched (R1). -/
theorem test_bad_frame_counted :
    seen (.sample 250 2 { bytes := [1, 2, 3], clean := true }) cell
        (fun t => (t.lif.lanes[2].checkFailures, t.lif.lanes[2].status, t.lif.lanes[2].silence)) =
      some (1, .up, some 1000900) := by
  decide +kernel

/-- The excitation monitor of section 1.12: held raw and fresh, and counted as unmapped (R12, R13). -/
theorem test_tapped_sample :
    seen (.sample 10 0 (received { count 77 with sub := 1 })) cell
        (fun t => (t.rtb.holdings[1], t.lif.lanes[0].unmapped, t.lif.lanes[0].silence)) =
      some (some { value := 77, fresh := true }, 1, some 1001010) := by
  decide +kernel

/-- A drive fault in a running test: DRIVE-FAULT latches and the test is TRIPPED in HOLD (R141, R142). -/
theorem test_drive_fault_trips :
    seen (.driveStatus 10 4
        { bytes := driveFrameBytes { ready := true, fault := true, saturated := false }, clean := true })
        running (fun t => (latched t .driveFault, t.tsq.state, t.xhu.mode, t.xhu.demand)) =
      some (true, .tripped, .hold, some 152400000) := by
  decide +kernel

/-- Section 1.13: the silence timer of L2 makes it STALE, the handler LOST, and starts the level-3 LANE
notice (R4, R5, R79). -/
theorem test_lane_falls_silent :
    seen (.silenceTimerExpiry 2) attached
        (fun t => (t.lif.lanes[2].status, t.exh.handler, t.cpt.link)) =
      some (.stale, .lost, some (.notice
        { source := .lane, level := .three, detail := .lane 2 false, count := 1, time := 1000900 })) := by
  decide +kernel

/-- Section 2.9: the repeat timer sends RANGE-REQUEST 2 again (R33). -/
theorem test_repeat_timer :
    seen .repeatTimerExpiry { cell with lch := { cell.lch with repeatAt := some 1000200 } }
        (fun t => (t.sent, t.lch.repeatAt)) =
      some ([(0, .rangeRequest 2 0)], some 1010200) := by
  decide +kernel

/-- Section 2.9: the dwell timer on range 0 requests range 1 (R36). -/
theorem test_dwell_timer :
    seen .dwellTimerExpiry
        { cell with lch := { cell.lch with
          received := some 0, requested := some 0, dwell := some { deadline := 1100000, range := 0 } } }
        (fun t => (t.sent, t.lch.requested, t.lch.dwell)) =
      some ([(0, .rangeRequest 1 0)], some 1, none) := by
  decide +kernel

/-- Section 5.13 at 38 s: the phase timer ends phase 0 and phase 1 begins in HOLD with 5,000 ms
(R91, R93, R94). -/
theorem test_phase_timer :
    let phase (mode : PhaseMode) (ms : Int) : Phase :=
      { mode := mode, rate := 15000, direction := 1, gain := 0, vmax := 0, feedforward := 0
        end1 := .phaseTime, threshold1 := ms, end2 := none, threshold2 := 0, removeExt := false }
    let s : State := { running with
      now := 38900000
      tsq := { running.tsq with
        startedAt := 900000, limitAt := some 60900000, phase := some 0, phaseBase := 12000000
        phaseSince := 20900000, phaseTimer := some 30000000
        prog := #v[some { timeLimit := 60, phases := [phase .positionRate 30000, phase .hold 5000] },
          none, none, none] } }
    seen .phaseTimerExpiry s
        (fun t => (t.tsq.phase, t.tsq.phaseTimer, t.xhu.mode)) = some (some 1, some 5000000, .hold) ∧
      seen .phaseTimerExpiry s (fun t => t.evu.list.map fun m => (m.kind, m.index, m.sample.time)) =
        some [(.phaseEnd, some 0, 38000000)] := by
  decide +kernel

/-- The 900 s limit of section 12.3: ENDED with cause TIME-LIMIT, test time standing at the limit, FMAX
recorded (R97, R98). -/
theorem test_time_limit :
    seen .timeLimitExpiry heldTest
        (fun t => (t.tsq.state, t.tsq.endCause, testTime t, t.evu.list.map Milestone.kind)) =
      some (.ended, some .timeLimit, 900000000, [.fmax]) := by
  decide +kernel

/-- LOAD-LOST in a running test: latched, TRIPPED, in HOLD, TRIP in the list (R139, R142). -/
theorem test_load_loss :
    seen .loadLossTimerExpiry { running with pru := { running.pru with loadLossAt := some 1020000 } }
        (fun t => (latchedClasses t, t.tsq.state, t.xhu.mode, t.evu.list.map Milestone.kind)) =
      some ([.loadLost], .tripped, .hold, [.trip]) := by
  decide +kernel

/-- Section 8.9: a fallback expiry at N = 4 on a FREE link sends the next sequence with the peak repeating
the force, and restarts 1,000 µs ahead (R162, R165). -/
theorem test_stream_fallback :
    seen .streamFallbackExpiry
        { cell with
          lch := { cell.lch with last := { cell.lch.last with net := 813900 } }
          cpt := { cell.cpt with
            streamOn := true, decimation := 4, fallbackAt := some 1000500, sequence := some 102 } }
        (fun t => (t.cpt.fallbackAt, match t.cpt.link with
          | some (.measurement m) => some (m.sequence, m.force, m.peak)
          | _ => none)) =
      some (some 1001500, some (103, 813900, 813900)) := by
  decide +kernel

/-- The seventh expiry of section 3.14: D is clamped at the lower limit, with a LIMIT occurrence. -/
theorem test_jog_against_limit :
    seen .demandTimerExpiry
        { cell with xhu := { cell.xhu with
          pos := 50000000, demand := some 50000000, mode := .jog (-2000000) 1200000 } }
        (fun t => (t.xhu.demand, match t.cpt.link with
          | some (.notice n) => some (n.source, n.detail)
          | _ => none)) =
      some (some 50000000, some (.limit, .limit false .jog)) := by
  decide +kernel

/-- A failed write of the last table of a save: IDLE, the stored copy kept, STORE with the table
(R189). -/
theorem test_save_write_fails :
    seen (.storeSaveWriteComplete 5 false)
        { cell with tst := { cell.tst with op := .saving .all (workingCopies cell) [.xset] [] } }
        (fun t => (t.tst.op, t.tst.stored.xset, match t.cpt.link with
          | some (.notice n) => some n.detail
          | _ => none)) =
      some (.idle, none, some (.store .save .all true [.xset] [])) := by
  decide +kernel

/-- Section 10.7: PROTSET in use is kept by the recall, its edition unchanged (R190). -/
theorem test_recall_keeps_in_use :
    seen (.storeRecallReadComplete 5 true)
        { armed with tst := { armed.tst with op := .recalling .all [.protset, .lineset] [.cal 1] [] } }
        (fun t => (t.pru.protset, t.tst.editions[8], t.tst.op)) =
      some (some cellProtSet, 0, .recalling .all [.lineset] [.cal 1] [.protset]) := by
  decide +kernel

/-- The start-up recall's last table: BLANK as nothing is stored, IDLE (R191). -/
theorem test_start_up_last_table :
    seen (.startUpTableRead 5 true)
        { State.reset with tst := { State.reset.tst with op := .starting [.prog 3] [] } }
        (fun t => (t.tsq.prog[3], t.tst.editions[14], t.tst.op)) =
      some (none, 1, .idle) := by
  decide +kernel

/-- Section 8.8: when reply 11 completes with a measurement frame due, a reply queued and LINK pending, the
measurement frame goes first and order 11 leaves the outstanding set (R157, R159). -/
theorem test_reply_completes :
    let o (tag : Byte) : Outstanding := { tag := tag, kind := 27, answered := true }
    let r (tag : Byte) : Reply :=
      { tag := tag, kind := 27, code := .done, detail := none, payload := none }
    seen (.transmissionComplete 5)
        { cell with cpt := { cell.cpt with
          outstanding := [o 11, o 12], link := some (.reply (r 11)), replies := [r 12], due := true } }
        (fun t => (t.cpt.outstanding.map Outstanding.tag, t.cpt.replies, t.cpt.due,
          t.cpt.link.map frameClass)) =
      some ([12], [r 12], false, some 1) := by
  decide +kernel

/-! ## Orders -/

/-- The code and detail of the newest reply: the last in the queue, else the one in transmission. -/
def replySent (t : State) : Option (ReplyCode × Option Detail) :=
  match t.cpt.replies.getLast?, t.cpt.link with
  | some r, _ => some (r.code, r.detail)
  | none, some (.reply r) => some (r.code, r.detail)
  | none, _ => none

/-- The argument bytes of ARM for a specimen record (R199, section 5.2). -/
def armArguments (r : Specimen) : List Byte :=
  [r.slot, r.s0, r.l0, r.lc, r.yieldDrop, r.searchLimit, r.transient, r.riseMargin, r.yieldMinForce,
    r.sigmaLow, r.sigmaHigh, r.proofOffset].flatMap quantityBytes
  ++ [0] ++ quantityBytes 0 ++ [0] ++ quantityBytes 0
  ++ [r.breakFraction, r.breakDrop, r.breakArm].flatMap quantityBytes

/-- Section 12.2: ARM with the bar's record is accepted, and the record is held as sent (R87, R88). -/
theorem test_arm :
    seen (.arm 10 1 (armArguments rebar)) cell
        (fun t => (replySent t, t.tsq.state, t.tsq.specimen, t.tsq.slot)) =
      some (some (.done, none), .armed, some rebar, some 0) := by
  decide +kernel

/-- Lc below L0 fails the FIELD check (R87). -/
theorem test_arm_refused :
    seen (.arm 10 1 (armArguments { rebar with lc := 49999 })) cell
        (fun t => (replySent t, t.tsq.state)) =
      some (some (.badArgument, some (.arm .field)), .idle) := by
  decide +kernel

/-- Section 12.3 in crosshead-derived strain: RUNNING in phase 0, STRAIN-RATE with the target at the
strain of START, and Fm seeded with stress 597 (R90, R110). -/
theorem test_start :
    seen (.start 10 1 [])
        { armed with lch := { armed.lch with last := { armed.lch.last with net := 12000 } } }
        (fun t => (t.tsq.phase, t.xhu.mode, t.xhu.target, t.evu.fm.map EvalSample.stress)) =
      some (some 0, .strainRate 2500 512 30000 60000, some 0, some 597) := by
  decide +kernel

/-- HOLD in RUNNING and RESUME in HELD: the modes of R95 and R96. -/
theorem test_hold_and_resume :
    seen (.hold 10 1 []) running (fun t => (t.tsq.state, t.xhu.mode)) = some (.held, .hold) ∧
      seen (.resume 10 1 []) heldTest (fun t => (t.tsq.state, t.xhu.mode)) =
        some (.running, .positionRate 400000 1) := by
  decide +kernel

/-- DISARM, ABORT and RELEASE: the states and causes of R89, R100 and R101. -/
theorem test_leaving_a_test :
    seen (.disarm 10 1 []) armed (fun t => (t.tsq.state, t.tsq.specimen)) = some (.idle, none) ∧
      seen (.abort 10 1 []) running (fun t => (t.tsq.state, t.tsq.endCause)) =
        some (.aborted, some .abortOrder) ∧
      seen (.release 10 1 []) { cell with tsq := { cell.tsq with state := .ended, phase := some 1 } }
        (fun t => (t.tsq.state, t.tsq.phase)) = some (.idle, none) := by
  decide +kernel

/-- Section 8.8: TARE is taken without a reply, its order outstanding (R28). -/
theorem test_tare :
    seen (.tare 10 10 []) cell
        (fun t => (t.lch.tareJob.map TareJob.tag, t.cpt.link, t.cpt.outstanding.length)) =
      some (some 10, none, 1) := by
  decide +kernel

/-- Section 4.3.1: EXT-ATTACH is ACCEPTED with 500 ms to settle (R67). -/
theorem test_ext_attach :
    seen (.extAttach 10 1 []) cell (fun t => (replySent t, t.exh.handler, t.exh.settleAt)) =
      some (some (.accepted, none), .settling, some 1500010) := by
  decide +kernel

/-- EXT-REMOVE outside a test from ATTACHED: OPENED, LINE0 asserted by EXT-OPEN (R76, R77, R81). -/
theorem test_ext_remove :
    seen (.extRemove 10 1 [])
        { attached with oln := { attached.oln with
          lineset := some #v[.extOpen, .dump, .tripLamp, .testActive] } }
        (fun t => (t.exh.handler, t.exh.reported, lineLevel t 0, lineLevel t 1)) =
      some (.opened, none, .asserted, .released) := by
  decide +kernel

/-- JOG at the jog maximum of 5,000,000 nm/s downward is taken, and 1 nm/s more is refused (R58). -/
theorem test_jog_maximum :
    seen (.jog 10 1 (quantityBytes (-5000000))) cell (fun t => (replySent t, t.xhu.mode)) =
        some (some (.done, none), .jog (-5000000) 1250010) ∧
      seen (.jog 10 1 (quantityBytes (-5000001))) cell (fun t => (replySent t, t.xhu.mode)) =
        some (some (.badArgument, none), .hold) := by
  decide +kernel

/-- CLEAR-TRIP: a force above 9,000 bp of T1 refuses it with TENSION-1; one at it clears, and a HOLD-class
clear takes TRIPPED to HELD (R104, R146). -/
theorem test_clear_trip :
    let tripped (net : Int) : State := latching .tension1
      { heldTest with
        tsq := { heldTest.tsq with state := .tripped }
        lch := { heldTest.lch with last := { heldTest.lch.last with net := net } } }
    seen (.clearTrip 10 1 []) (tripped 1260001) (fun t => (replySent t, t.tsq.state)) =
        some (some (.conditionPresent, some (.tripClass .tension1)), .tripped) ∧
      seen (.clearTrip 10 1 []) (tripped 1260000) (fun t => (latchedClasses t, t.tsq.state)) =
        some ([], .held) := by
  decide +kernel

/-- TRIP-HISTORY-RESET is refused with the lowest latched class (R149). -/
theorem test_history_reset_refused :
    seen (.tripHistoryReset 10 1 []) (latching .travel (latching .driveFault cell)) replySent =
      some (some (.conditionPresent, some (.tripClass .travel))) := by
  decide +kernel

/-- LINE-SET of LINE3, and of a line number one past it (R151). -/
theorem test_line_set :
    seen (.lineSet 10 1 [0, 0, 0, 3, 0]) cell (fun t => (replySent t, lineLevel t 3)) =
        some (some (.done, none), .asserted) ∧
      seen (.lineSet 10 1 [0, 0, 0, 4, 0]) cell replySent = some (some (.badArgument, none)) := by
  decide +kernel

/-- STREAM-SET with N = 64 is taken, with 65 refused (R166). -/
theorem test_stream_set :
    seen (.streamSet 10 1 [0, 0, 0, 0, 64]) cell (fun t => (t.cpt.streamOn, t.cpt.decimation)) =
        some (true, 64) ∧
      seen (.streamSet 10 1 [0, 0, 0, 0, 65]) cell replySent = some (some (.badArgument, none)) := by
  decide +kernel

/-- RESTART in a running test: ABORTED with cause RESTART and no TEST notice (R107, R178). -/
theorem test_restart :
    seen (.restart 10 1 []) running (fun t => (t.tsq.state, t.tsq.endCause, t.ntu.records[2])) =
      some (.aborted, some .restart, none) := by
  decide +kernel

/-- Section 10.6: the re-sent segment 0 ends the session with SEQUENCE (R181). -/
theorem test_segment_sent_again :
    let s : State := { running with cpt := { running.cpt with
      session := some { table := .prog 2, staging := [], next := 1, deadline := 3000000 } } }
    seen (.tableData 10 1 ([0, 1] ++ List.replicate 28 0)) s (fun t => (replySent t, t.cpt.session)) =
      some (some (.sequence, none), none) := by
  decide +kernel

/-- Section 10.6: the commit of PROG2 is accepted in RUNNING and its edition advances; one of PROG0 is
refused IN-USE with the session kept (R183, R186). -/
theorem test_commit_of_programs :
    let es : List Entry := programEntries rebarProgram
    let s (k : Fin 4) : State := { running with cpt := { running.cpt with
      session := some { table := .prog k, staging := es, next := 1, deadline := 3000000 } } }
    seen (.tableCommit 10 1 []) (s 2) (fun t => (t.tsq.prog[2], t.tst.editions[13], t.cpt.session)) =
        some (some rebarProgram, 1, none) ∧
      seen (.tableCommit 10 1 []) (s 0) (fun t => (replySent t, t.cpt.session.isSome)) =
        some (some (.inUse, none), true) := by
  decide +kernel

/-- The rebuilt table of section 1.12 with EXT-A twice fails R8; the four-module table passes. -/
theorem test_route_validation :
    validates .route (cellRoute.toList.map routeBytes) = true ∧
      validates .route ((cellRoute.set 5 { channel := .extA, tap := false }).toList.map routeBytes)
        = false := by
  decide +kernel

/-- The fifth order of section 8.8: discarded, counted, and reported at LINK (R157). -/
theorem test_fifth_order :
    let o (tag : Byte) : Outstanding := { tag := tag, kind := 27, answered := true }
    seen (.jog 10 14 (quantityBytes 1000000))
        { cell with cpt := { cell.cpt with outstanding := [o 10, o 11, o 12, o 13] } }
        (fun t => (t.cpt.overruns, t.xhu.mode, match t.cpt.link with
          | some (.notice n) => some (n.source, n.level, n.detail)
          | _ => none)) =
      some (1, .hold, some (.link, .two, .overrun 14 20)) := by
  decide +kernel

/-- A kind past the catalogue is answered UNKNOWN-ORDER, echoing the kind (R156, R198). -/
theorem test_unknown_order :
    seen (.unknownOrder 10 29 5 []) cell (fun t => t.cpt.link) =
      some (some (.reply
        { tag := 5, kind := 29, code := .unknownOrder, detail := none, payload := none })) := by
  decide +kernel

/-- STATUS-READ of LOAD gives the tare, and is answered while STARTING; TARE is not (R156, R167). -/
theorem test_status_while_starting :
    seen (.statusRead 10 1 [2]) State.reset replySent = some (some (.done, none)) ∧
      seen (.tare 10 1 []) State.reset replySent = some (some (.busyStore, none)) := by
  decide +kernel

/-- STATUS-READ of the extensometer gives the ΔL of the arms in use only: none while EXTSET is BLANK, arm A's
alone in ONE-ARM (R82). -/
theorem test_status_deltas_in_use :
    let s (x : Option ExtSet) : State := { cell with exh := { cell.exh with
      extset := x, deltaA := some 7, deltaB := some 9 } }
    let deltas (x : Option ExtSet) := match statusSection (s x) 4 with
      | some (.extensometer _ _ _ _ a b _ _ _ _ _ _ _) => some (a, b)
      | _ => none
    deltas none = some (none, none) ∧
      deltas (some { cellExtSet with twoArm := false }) = some (some 7, none) ∧
      deltas (some cellExtSet) = some (some 7, some 9) := by
  decide +kernel

/-- A TRIP milestone's bytes: the kind, the index present, TRAVEL in one byte at its place, then the sample
(R199); an absent NOTICES record is its level, its presence 0, and its count and detail length 0
(assumption 47). -/
theorem test_coded_bytes :
    (milestoneBytes { kind := .trip, index := some (tripNumber .travel).val
                      sample := currentSample cell, value := none }).take 3 =
        [BitVec.ofNat 8 (milestoneCode .trip), 1, BitVec.ofNat 8 (tripNumber .travel).val] ∧
      noticeEntryBytes (.off, none) = [codeByte (levelCode .off), 0, 0, 0] ∧
      functionByte true = 0 ∧ functionByte false = 1 ∧ flagByte true = 1 := by
  decide +kernel

/-- A failing condition is its place from 0 (R8, R18, R85, R199); a save's detail has the outcome before
its tables (R189) and a recall's has it last (R190). -/
theorem test_store_detail (tables kept : List TableId) :
    detailBytes (.condition 3) = [3] ∧
      (storeDetailBytes .save .all true tables []).take 3 = [0, 15, 1] ∧
      (storeDetailBytes .recall .all true tables kept).take 2 = [1, 15] ∧
      (storeDetailBytes .recall .all true tables kept).getLast? = some 1 := by
  refine ⟨by decide, rfl, rfl, ?_⟩
  exact List.getLast?_concat (l := _ :: _ :: cutTo 29 _)

/-- MILESTONE-READ past the list is refused with the count (section 12.9, R130). -/
theorem test_milestone_read_past_end :
    seen (.milestoneRead 10 1 [0, 0, 0, 10]) cell replySent =
      some (some (.badArgument, some (.count 0))) := by
  decide +kernel

/-- TABLE-READ of CAL2: a header and three points (section 11.3.4). -/
theorem test_table_read :
    seen (.tableRead 10 1 [3, 0]) cell (fun t => match t.cpt.link with
      | some (.reply r) => match r.payload with
        | some (.entries total _ es) => some (total, es.map fun e => e.take 8)
        | _ => none
      | _ => none) =
      some (some (4, [[3, 0, 0, 0, 0, 0, 0, 0], [0, 0, 0, 0, 0, 0, 0, 0],
        [0, 0x3D, 0x09, 0, 0, 0x0F, 0x42, 0x40], [0, 0x7A, 0x12, 0, 0, 0x1E, 0x94, 0x20]])) := by
  decide +kernel

/-- STORE-RECALL ALL while PROTSET is in use names the lowest table in use, ROUTE (R190). -/
theorem test_recall_refused :
    seen (.storeRecall 10 1 [15]) armed replySent =
      some (some (.inUse, some (.table .route))) := by
  decide +kernel

/-! ## Well-formedness: a term each check refuses -/

/-- The status frame of a ready drive, as received. -/
def readyStatus : Reception :=
  { bytes := driveFrameBytes { ready := true, fault := false, saturated := false }, clean := true }

theorem test_sample_with_status_bytes_ill_formed : WellFormed (.sample 0 4 readyStatus) = false := by
  decide +kernel

theorem test_drive_status_off_l4_ill_formed : WellFormed (.driveStatus 0 3 readyStatus) = false := by
  decide +kernel

theorem test_drive_status_with_sample_bytes_ill_formed :
    WellFormed (.driveStatus 0 4 (received (count 1))) = false := by
  decide +kernel

theorem test_bad_frame_that_passes_ill_formed :
    WellFormed (.cportBadFrame 0 { bytes := orderFrameBytes 27 1 [0], clean := true }) = false := by
  decide +kernel

theorem test_unknown_order_of_catalogue_ill_formed : WellFormed (.unknownOrder 0 28 1 []) = false := by
  decide +kernel

theorem test_unknown_order_too_long_ill_formed :
    WellFormed (.unknownOrder 0 29 1 (List.replicate 511 0)) = false := by
  decide +kernel

theorem test_order_too_long_ill_formed :
    WellFormed (.tableData 0 1 (List.replicate 511 0)) = false := by
  decide +kernel

theorem test_well_formed :
    WellFormed (.sample 0 0 (received (count 1))) = true ∧
      WellFormed (.driveStatus 0 4 readyStatus) = true ∧
      WellFormed (.unknownOrder 0 29 1 []) = true ∧
      WellFormed (.tableData 0 1 (List.replicate 510 0)) = true := by
  decide +kernel

/-! ## States that meet the hypotheses of the statements -/

theorem witness_StepRunsFrontCommand :
    (idle.withPending [.repeatTimerExpiry, .powerOn]).pending = .repeatTimerExpiry :: [.powerOn] ∧
      idle.pending = [] := by
  decide +kernel

/-- The ends of the signed 24-bit range (R194). -/
theorem witness_LaneFramesReadBack :
    readLaneFrame 2 (received (count (-8388608))) = .sample (count (-8388608)) ∧
      readLaneFrame 2 (received (count 8388607)) = .sample (count 8388607) := by
  decide +kernel

/-- The longest arguments, the kinds at both ends of the catalogue, the sections of STATUS-READ, and a full
segment. -/
theorem witness_OrderFramesReadBack :
    (List.replicate 510 (0 : Byte)).length ≤ 510 ∧ orderOfCode 0 = none ∧ orderOfCode 29 = none ∧
      (orderOfCode 1).isSome = true ∧ (orderOfCode 28).isSome = true ∧
      ((List.range 11).map fun n => (statusSection cell n).isSome) =
        List.replicate 10 true ++ [false] ∧
      (List.replicate 16 (List.replicate 28 (0 : Byte))).length ≤ 16 ∧
      ∀ e ∈ List.replicate 16 (List.replicate 28 (0 : Byte)), e.length = 28 := by
  decide +kernel

/-- The four-point CAL2, and the rebar program. -/
theorem witness_TableContentsReadBack :
    ((∀ e ∈ calEntries cal2, e.length = 28) ∧ hasForm (.cal 2) (calEntries cal2) = true ∧
      validates (.cal 2) (calEntries cal2) = true) ∧
    (∀ e ∈ programEntries rebarProgram, e.length = 28) ∧
      hasForm (.prog 0) (programEntries rebarProgram) = true ∧
      validates (.prog 0) (programEntries rebarProgram) = true := by
  decide +kernel

theorem witness_InterpolationRises :
    2 ≤ cal2.length ∧ rising (cal2.map CalPoint.count) = true ∧
      rising (cal2.map CalPoint.force) = true ∧
      ∀ p ∈ cal2, -2147483647 ≤ p.force ∧ p.force ≤ 2147483647 := by
  decide +kernel

/-- A module-fault sample. -/
def faulty : SampleFrame :=
  { count 5 with moduleFault := true }

theorem witness_DiscardedFramesAreCounted :
    readLaneFrame 2 { bytes := [], clean := true } = .bad ∧
      readLaneFrame 2 (received faulty) = .sample faulty ∧ faulty.moduleFault = true := by
  decide +kernel

/-- Samples and statuses of sound modules; L1 down under a streaming part and L4 down before its demand
timer has started, on a FREE link, and on a BUSY one. -/
theorem witness_AcceptedFrameRaisesLane :
    let down (lane : Lane) (link : Option OutFrame) : State := { cell with
      lif :=
        { lanes := cell.lif.lanes.set lane
            { cell.lif.lanes[lane] with status := .down, silence := none } }
      xhu := { cell.xhu with demandAt := none }
      cpt := { cell.cpt with streamOn := true, fallbackAt := some 1000500, link := link } }
    let r : OutFrame := .reply
      { tag := 1, kind := 27, code := .done, detail := none, payload := none }
    (readLaneFrame 2 (received (count 5)) = .sample (count 5) ∧ (count 5).moduleFault = false) ∧
      readLaneFrame 4 readyStatus =
        .driveStatus { ready := true, fault := false, saturated := false } ∧
      (∀ link ∈ [none, some r], Settled (down 0 link) ∧ Settled (down 4 link)) ∧
      (down 0 none).lif.lanes[(0 : Lane)].status ≠ .up ∧
      (down 4 none).lif.lanes[(4 : Lane)].status ≠ .up ∧ (down 4 none).xhu.demandAt = none ∧
      noticeLevel (down 0 none) .lane ≠ .off ∧
      (entryOf (down 0 none).rtb.route .load).map keyLane = some 0 ∧
      (down 0 none).pru.protset = some cellProtSet ∧ 1 < (down 0 none).cpt.decimation ∧
      seen (.driveStatus 10 4 readyStatus) (down 4 none) (fun u => (u.xhu.demandAt, u.cpt.link)) =
        some (some 1000260, some (.notice
          { source := .lane, level := .three, detail := .lane 4 true, count := 1, time := 1000010 })) := by
  decide +kernel

theorem witness_UnmappedSampleIsCounted :
    readLaneFrame 0 (received { count 5 with sub := 1 }) = .sample { count 5 with sub := 1 } ∧
      cell.lif.lanes[(0 : Lane)].status = .up ∧
      cellRoute[routeKey 0 1].channel = .unused := by
  decide +kernel

/-- A LOAD sample reaches the Load Channel in every state built on `cell`. -/
theorem steered_load (v : Int) (s : State) (hv : readLaneFrame 0 (received (count v)) = .sample (count v))
    (hl : s.lif = cell.lif) (hr : s.rtb.route = cell.rtb.route) :
    Steered 0 (received (count v)) (count v) .load s := by
  refine ⟨hv, rfl, ?_, ?_⟩
  · rw [hl]; decide +kernel
  · rw [hr]
    change (cell.rtb.route.map fun route => route[routeKey 0 0].channel) = _
    decide +kernel

/-- A LOAD sample in the cell, and in its tests. -/
theorem witness_LoadSampleFormsForce :
    Steered 0 (received (count 4500000)) (count 4500000) .load cell ∧
      cell.lch.cal[(count 4500000).range] = some cal2 ∧
      idle.lch.cal[(count 4500000).range] = none ∧ running.tsq.specimen = some rebar :=
  ⟨steered_load _ _ (by decide +kernel) rfl rfl, by decide +kernel, by decide +kernel, rfl⟩

theorem witness_ForceUpdateReachesRecords :
    Steered 0 (received (count 4500000)) (count 4500000) .load running ∧ inTest running = true :=
  ⟨steered_load _ _ (by decide +kernel) rfl rfl, rfl⟩

/-- A count whose force of 655,000 dN net meets the fraction test at its boundary, in HELD and in RUNNING;
and in a window whose oldest force stands 1 dN more than the break drop above it (R121). -/
theorem witness_BreakEndsTest :
    let dropping : State := { running with
      evu := { running.evu with window := [1000000, 705001, 700000, 690000] } }
    (Steered 0 (received (count 2625000)) (count 2625000) .load heldTest ∧
      heldTest.tsq.state = .held ∧ heldTest.tsq.specimen = some rebar ∧
      heldTest.evu.breakArmed = true ∧ heldTest.evu.breakSeen = false ∧
      (convertForce heldTest (count 2625000)).net = 655000 ∧
      (heldTest.evu.fm.map EvalSample.force) = some 1310000 ∧
      (655000 : Int) * 10000 ≤ 1310000 * rebar.breakFraction) ∧
    Steered 0 (received (count 2625000)) (count 2625000) .load running ∧
      running.tsq.state = .running ∧ running.tsq.specimen = some rebar ∧
    Steered 0 (received (count 2625000)) (count 2625000) .load dropping ∧
      dropping.evu.window[dropping.evu.window.length - 3]? = some 705001 ∧
      rebar.breakDrop < 705001 - 655000 :=
  ⟨⟨steered_load _ _ (by decide +kernel) rfl rfl, rfl, rfl, rfl, rfl, by decide +kernel, rfl,
    by decide +kernel⟩, steered_load _ _ (by decide +kernel) rfl rfl, rfl, rfl,
    steered_load _ _ (by decide +kernel) rfl rfl, rfl, by decide +kernel⟩

/-- A LOAD sample in a test; XHEAD samples at a hard limit and 100 nm past it, and one that regains the
position; a demand expiry; and the silence of L1 and L4 under an enabled drive and a disabled one, and of L0, which
carries LOAD, where LOAD is needed, with a loss delay and without one, and where it is not. -/
theorem witness_ConditionsAreJudged :
    let off : State := { cell with xhu := { cell.xhu with lastEnable := false, good := false } }
    (Steered 0 (received (count 4500000)) (count 4500000) .load running ∧
      running.pru.protset = some cellProtSet) ∧
    (Steered 1 (received (count 4550000)) (count 4550000) .xhead cell ∧
      Steered 1 (received (count 4550001)) (count 4550001) .xhead off ∧
      cell.xhu.xset = some cellXSet ∧ off.xhu.xset = some cellXSet ∧ off.xhu.good = false ∧
      4550000 * cellXSet.resolution = cellXSet.softUpper + cellXSet.hardMargin) ∧
    (cell.xhu.demandAt = some 1000100 ∧ cell.pru.protset = some cellProtSet) ∧
    (entryOf cell.rtb.route .xhead).map keyLane = some 1 ∧
      cell.lif.lanes[(1 : Lane)].silence = some 1000900 ∧
      cell.lif.lanes[(4 : Lane)].silence = some 1000900 ∧ cell.xhu.good = true ∧
      cell.xhu.lastEnable = true ∧ off.xhu.lastEnable = false ∧
      (entryOf running.rtb.route .load).map keyLane = some 0 ∧
      running.lif.lanes[(0 : Lane)].silence = some 1000900 ∧ NeedsLoad running ∧
      NeedsLoad (jogging cell) ∧ ¬ NeedsLoad cell ∧ condition running .loadLost = .clear ∧
      0 < cellProtSet.loadLossMs ∧ (deaf running).pru.protset.map ProtSet.loadLossMs = some 0 ∧
      (∀ c ∈ [Channel.xhead, .extA, .extB],
        (entryOf running.rtb.route c).map keyLane ≠ some 0) :=
  ⟨⟨steered_load _ _ (by decide +kernel) rfl rfl, rfl⟩,
    ⟨⟨by decide +kernel, rfl, by decide +kernel, by decide +kernel⟩,
      ⟨by decide +kernel, rfl, by decide +kernel, by decide +kernel⟩, rfl, rfl, rfl,
      by decide +kernel⟩,
    ⟨rfl, rfl⟩, by decide +kernel, by decide +kernel, by decide +kernel, rfl, rfl, rfl,
    by decide +kernel, by decide +kernel, .inr (.inl rfl), .inr (.inr (.inr rfl)),
    (by rintro (h | h | h | h) <;> cases h), by decide +kernel, by decide +kernel, by decide +kernel,
    by decide +kernel⟩

theorem witness_PositionSampleConverts :
    Steered 1 (received (count 1524000)) (count 1524000) .xhead cell ∧
      cell.xhu.xset = some cellXSet ∧ idle.xhu.xset = none :=
  ⟨⟨by decide +kernel, rfl, by decide +kernel, by decide +kernel⟩, rfl, rfl⟩

theorem witness_ArmSampleIsHeld :
    Steered 2 (received (count 62705)) (count 62705) (armChannel false) cell ∧
      Steered 3 (received (count 61302)) (count 61302) (armChannel true) cell ∧
      cell.exh.handler ≠ .attached ∧ cell.exh.handler ≠ .settling :=
  ⟨⟨by decide +kernel, rfl, by decide +kernel, by decide +kernel⟩,
    ⟨by decide +kernel, rfl, by decide +kernel, by decide +kernel⟩, by decide +kernel,
    by decide +kernel⟩

/-- The arm samples of section 4.2.1 and one of arm B past the range end, outside a test. In RUNNING the
first, 24,595 su, slips by one more than the slip step and meets STRAIN-LEVEL at its boundary; and a count
of 239,732 gives the 60,000 su that end phase 0. -/
theorem witness_ArmSampleMeasuresStrain :
    let testing (v : Int) : State := { running with
      tsq := { running.tsq with
        phase := some 0, specimen := some { rebar with removalStrain := some 24595 } }
      exh := { attached.exh with
        latestA := some v, lastExt := some { strain := 24796, force := 0 } } }
    (Steered 2 (received (count 62705)) (count 62705) (armChannel false) attached ∧
      Steered 3 (received (count 300000)) (count 300000) (armChannel true) attached ∧
      attached.exh.extset = some cellExtSet ∧ armInUse cellExtSet true = true ∧
      attached.exh.handler = .attached ∧ inTest attached = false ∧
      armDelta 62705 1205 2048 < cellExtSet.rangeEnd ∧
      cellExtSet.rangeEnd ≤ armDelta 300000 (-201) 2047) ∧
    Steered 2 (received (count 62705)) (count 62705) (armChannel false) (testing 0) ∧
      (testing 0).exh.extset = some cellExtSet ∧ (testing 0).exh.handler = .attached ∧
      inTest (testing 0) = true ∧ (testing 0).lch.last.net = 0 ∧
      extensometerStrain cellExtSet (testing 62705) = 24595 ∧
      cellExtSet.slipStep + 1 = 24796 - 24595 ∧
      extensometerStrain cellExtSet (testing 239732) = 60000 ∧
      (phaseAt (testing 0) 0).map (fun p => (p.end2, p.threshold2)) =
        some (some .strainAtLeast, 60000) :=
  ⟨⟨⟨by decide +kernel, rfl, by decide +kernel, by decide +kernel⟩,
    ⟨by decide +kernel, rfl, by decide +kernel, by decide +kernel⟩, rfl, rfl, rfl, rfl,
    by decide +kernel, by decide +kernel⟩,
    ⟨by decide +kernel, rfl, by decide +kernel, by decide +kernel⟩, rfl, rfl, rfl, rfl,
    by decide +kernel, by decide +kernel, by decide +kernel, by decide +kernel⟩

/-- Averaging at the sample that completes it, outside a test and in HELD, and at the first one (section
4.3.1). -/
theorem witness_AveragingTakesSamples :
    let open16 (s : State) (a b : Nat) : State := { s with exh := { s.exh with
      handler := .settling
      averaging := some
        { armA := { count := a, sum := 0 }, armB := { count := b, sum := 0 }, openedAt := 900000 } } }
    Steered 3 (received (count 5)) (count 5) (armChannel true) (open16 cell 16 15) ∧
      Steered 3 (received (count 5)) (count 5) (armChannel true) (open16 heldTest 16 15) ∧
      Steered 2 (received (count 5)) (count 5) (armChannel false) (open16 cell 0 0) ∧
      (open16 heldTest 16 15).exh.extset = some cellExtSet ∧ armInUse cellExtSet true = true ∧
      (open16 heldTest 16 15).exh.handler = .settling ∧
      (open16 heldTest 16 15).exh.averaging.isSome = true ∧ inTest (open16 heldTest 16 15) = true :=
  ⟨⟨by decide +kernel, rfl, by decide +kernel, by decide +kernel⟩,
    ⟨by decide +kernel, rfl, by decide +kernel, by decide +kernel⟩,
    ⟨by decide +kernel, rfl, by decide +kernel, by decide +kernel⟩, rfl, rfl, rfl, rfl, rfl⟩

/-- The drive ready event and a fault, on an UP L4. -/
theorem witness_DriveStatusReplacesFlags :
    let s : State := { cell with xhu := { cell.xhu with drive := noDriveStatus } }
    readLaneFrame 4 readyStatus =
        .driveStatus { ready := true, fault := false, saturated := false } ∧
      s.lif.lanes[(4 : Lane)].status = .up ∧ s.xhu.drive.ready = false ∧ s.xhu.good = true ∧
      s.xhu.demand.isSome = true ∧ latchEmpty s = true ∧ condition s .driveFault = .clear := by
  decide +kernel

/-- A stopped timer of each kind, in the cell. -/
theorem witness_StoppedTimersDoNothing :
    ([.silenceTimerExpiry 0, .demandTimerExpiry, .repeatTimerExpiry, .dwellTimerExpiry,
        .tareSampleTimerExpiry, .settleTimerExpiry, .zeroAveragingTimeout, .jogDeadlineExpiry,
        .phaseTimerExpiry, .timeLimitExpiry, .loadLossTimerExpiry, .streamFallbackExpiry,
        .sessionTimerExpiry] : List Instr).all (stopped idle) = true ∧
      idle.tst.op = .idle ∧ idle.cpt.link = none := by
  decide +kernel

/-- The lanes of LOAD and XHEAD; the lane of arm A while ATTACHED, outside a test and in one, and while
SETTLING. -/
theorem witness_SilenceMakesLaneStale :
    let settling : State := { cell with exh := { cell.exh with
      handler := .settling, settleAt := some 1500000 } }
    cell.lif.lanes[(0 : Lane)].silence = some 1000900 ∧
      (entryOf cell.rtb.route .load).map keyLane = some 0 ∧
      (entryOf cell.rtb.route .xhead).map keyLane = some 1 ∧
      (entryOf attached.rtb.route (armChannel false)).map keyLane = some 2 ∧
      attached.lif.lanes[(2 : Lane)].silence = some 1000900 ∧
      attached.exh.extset = some cellExtSet ∧ armInUse cellExtSet false = true ∧
      attached.exh.handler = .attached ∧ inTest attached = false ∧
      inTest { running with exh := attached.exh } = true ∧ settling.exh.handler = .settling := by
  decide +kernel

theorem witness_DemandExpirySendsFrame :
    cell.xhu.demandAt = some 1000100 ∧ cell.xhu.demand.isSome = true ∧
      cellXSet.softLower ≤ cellXSet.softUpper := by
  decide +kernel

theorem witness_DemandSteps :
    running.xhu.demandAt = some 1000100 ∧ running.xhu.demand = some 152400000 ∧ 0 ≤ running.xhu.a := by
  decide +kernel

theorem witness_ClosedLoopFollowsTarget :
    let s : State := { cell with xhu := { cell.xhu with
      mode := .strainRate 2500 512 30000 60000, target := some 4000, strain := 4000 } }
    s.xhu.demandAt = some 1000100 ∧ s.xhu.demand = some 152400000 ∧ s.xhu.target = some 4000 ∧
      s.xhu.mode = .strainRate 2500 512 30000 60000 ∧ (2500 : Int) * 60000 / 10000 = 15000 := by
  decide +kernel

/-- An OVERRANGE sample on the coarsest VALID range, 1, makes no request though 3 is requested; one on range
2 requests 1 (R37). -/
theorem test_overrange_request :
    let s : State := { cell with lch := { cell.lch with
      cal := #v[none, some cal2, some cal2, some cal2], requested := some 3 } }
    let sample (g : Fin 4) : SampleFrame := { count 5 with overrange := true, range := g }
    (rangeSample true 1 (convertSample (sample 1) s)).lch.requested = some 3 ∧
      (rangeSample true 2 (convertSample (sample 2) s)).lch.requested = some 1 := by
  decide +kernel

/-- The repeat timer; the dwell timer on range 2, whose finer range exists, and on range 3, whose does
not. A LOAD sample on the requested range at an up-switch, and one that starts the dwell timer; another
range requested with the repeat timer stopped; an OVERRANGE sample on the coarsest VALID range with a
finer one requested; FIXED. -/
theorem witness_RangeTimersRequest :
    let s (g : Fin 4) : State := { cell with lch := { cell.lch with
      repeatAt := some 1000200, dwell := some { deadline := 1000300, range := g } } }
    let ranges : State := { cell with lch := { cell.lch with
      cal := #v[none, some cal2, some cal2, some cal2] } }
    let other : State := { ranges with lch := { ranges.lch with requested := some 3 } }
    let fixed : State := { ranges with lch := { ranges.lch with
      loadset := some { loadSettings ranges with mode := .fixed 2 } } }
    let coarse : State := { other with lch := { other.lch with
      cal := #v[none, none, some cal2, some cal2] } }
    let full : SampleFrame := { count 5 with overrange := true }
    ((s 2).lch.repeatAt = some 1000200 ∧
      (s 2).lch.dwell = some { deadline := 1000300, range := 2 } ∧
      (2 : Fin 4).val + 1 < 4 ∧ (s 2).lch.requested.isSome = true ∧ ¬ (3 : Fin 4).val + 1 < 4) ∧
    Steered 0 (received (count 8000000)) (count 8000000) .load ranges ∧
      Steered 0 (received (count 0)) (count 0) .load ranges ∧
      ranges.lch.requested = some (count 8000000).range ∧
      upSwitchTo 2004000 2 ranges = some 1 ∧ upSwitchTo 0 2 ranges = none ∧
      (dwellAfter 0 2 1000010 ranges).isSome = true ∧
      Steered 0 (received (count 0)) (count 0) .load other ∧ other.lch.requested = some 3 ∧
      other.lch.repeatAt = none ∧ Steered 0 (received (count 0)) (count 0) .load fixed ∧
      (loadSettings fixed).mode = .fixed 2 ∧ (loadSettings ranges).mode = .auto ∧
      Steered 0 (received full) full .load coarse ∧
      (convertForce coarse full).quality = .overrange ∧ coarsestValid coarse = some full.range ∧
      coarse.lch.requested = some 3 :=
  ⟨by decide +kernel, steered_load _ _ (by decide +kernel) rfl rfl,
    steered_load _ _ (by decide +kernel) rfl rfl, rfl, by decide +kernel, by decide +kernel,
    by decide +kernel, steered_load _ _ (by decide +kernel) rfl rfl, rfl, rfl,
    steered_load _ _ (by decide +kernel) rfl rfl, rfl, rfl,
    ⟨by decide +kernel, rfl, by decide +kernel, by decide +kernel⟩, by decide +kernel, by decide +kernel,
    rfl⟩

/-- A PHASE-TIME phase with a later one, and as the last one. -/
theorem witness_PhaseTimerEndsPhase :
    let p : Phase :=
      { mode := .hold, rate := 0, direction := 0, gain := 0, vmax := 0, feedforward := 0
        end1 := .phaseTime, threshold1 := 5000, end2 := none, threshold2 := 0, removeExt := false }
    let s (k : Nat) : State := { running with tsq := { running.tsq with
      phase := some k, phaseTimer := some 5000000
      prog := #v[some { timeLimit := 60, phases := [p, p] }, none, none, none] } }
    (s 0).tsq.state = .running ∧ (s 0).tsq.phaseTimer = some 5000000 ∧ phaseAt (s 0) 0 = some p ∧
      phaseAt (s 0) 1 = some p ∧ phaseAt (s 1) 2 = none ∧ p.end1 = .phaseTime ∧
      (s 0).tsq.specimen = some rebar ∧ latchEmpty (s 0) = true := by
  decide +kernel

theorem witness_TimeLimitEndsTest :
    heldTest.tsq.limitAt = some 900900000 ∧ inTest heldTest = true := by
  decide +kernel

theorem witness_LoadLossTrips :
    let s : State := { running with pru := { running.pru with loadLossAt := some 1020000 } }
    s.pru.loadLossAt = some 1020000 ∧ latched s .loadLost = false ∧
      latched (latching .loadLost s) .loadLost = true := by
  decide +kernel

/-- A frame due, a busy link, and a free one, for the fallback timer; and a LOAD sample at the boundary of
the decimation, and one before it. -/
theorem witness_StreamMakesFramesDue :
    let s (n : Nat) (due : Bool) (link : Option OutFrame) : State := { cell with cpt := { cell.cpt with
      streamOn := true, count := n, fallbackAt := some 1000500, due := due, link := link } }
    let r : OutFrame := .reply
      { tag := 1, kind := 27, code := .done, detail := none, payload := none }
    ((s 0 true (some r)).cpt.fallbackAt = some 1000500 ∧ (s 0 true (some r)).cpt.due = true ∧
      (s 0 false (some r)).cpt.link.isSome = true ∧ (s 0 false none).cpt.link = none ∧
      (s 0 false none).cpt.streamOn = true) ∧
    Steered 0 (received (count 4500000)) (count 4500000) .load (s 15 false none) ∧
      Settled (s 15 false none) ∧ Settled (s 14 true (some r)) ∧
      channelUp (s 15 false none) .load = true ∧ (s 15 false none).cpt.decimation = 16 :=
  ⟨by decide +kernel, steered_load _ _ (by decide +kernel) rfl rfl, by decide +kernel,
    by decide +kernel, by decide +kernel, rfl⟩

/-- The cell with an open session on PROG2. -/
def loading : State :=
  { cell with cpt := { cell.cpt with
    session := some
      { table := .prog 2, staging := programEntries rebarProgram, next := 1, deadline := 3000000 } } }

theorem witness_SessionTimesOut : Settled loading ∧ loading.cpt.session.isSome = true := by
  decide +kernel

/-- The cell with a store operation in flight. -/
def storing (op : StoreOp) : State :=
  { cell with tst := { cell.tst with op := op } }

theorem witness_SaveWriteCompletes :
    let s := storing (.saving .all (workingCopies cell) [.xset, .protset] [])
    Settled s ∧ s.tst.op = .saving .all (workingCopies cell) [.xset, .protset] [] := by
  decide +kernel

/-- Recalls of XSET out of use and in use, and of the last table of an operation and one before. -/
theorem witness_RecallReachesTable :
    let s := storing (.recalling .all [.xset] [] [])
    Settled s ∧ s.tst.op = .recalling .all [.xset] [] [] ∧ tableInUse s .xset = false ∧
      tableInUse { armed with tst := s.tst } .xset = true ∧
      (storing (.recalling .all [.route, .cal 0] [] [])).tst.op =
        .recalling .all [.route, .cal 0] [] [] := by
  decide +kernel

/-- The last table of the start-up recall, and a calibration and another table before it. -/
theorem witness_StartUpReachesTable :
    let s := storing (.starting [.prog 3] [])
    Settled s ∧ s.tst.op = .starting [.prog 3] [] ∧ coarsestValid s = some 2 ∧
      (storing (.starting [.cal 2, .prog 3] [])).tst.op = .starting [.cal 2, .prog 3] [] ∧
      (storing (.starting [.xset, .prog 3] [])).tst.op = .starting [.xset, .prog 3] [] ∧
      State.reset.lch.requested = none := by
  decide +kernel

theorem witness_TransmissionCompletes :
    ({ cell with cpt := { cell.cpt with link := some (.reply
      { tag := 1, kind := 27, code := .done, detail := none, payload := none }) } } : State).cpt.link =
      some (.reply { tag := 1, kind := 27, code := .done, detail := none, payload := none }) := by
  decide +kernel

/-- A settled cell with four orders outstanding, and with fewer; a kind past the catalogue; arguments of
a wrong length; and the store STARTING. -/
theorem witness_OrdersStoppedAtPort :
    let o (tag : Byte) : Outstanding := { tag := tag, kind := 27, answered := false }
    let full : State := { cell with cpt := { cell.cpt with outstanding := [o 1, o 2, o 3, o 4] } }
    readCportFrame { bytes := [], clean := true } = none ∧ Settled full ∧
      4 ≤ full.cpt.outstanding.length ∧ Settled cell ∧ cell.cpt.outstanding.length < 4 ∧
      28 < (29 : Byte).toNat ∧ wellFormedArguments .tare [0] = false ∧
      wellFormedArguments .tare [] = true ∧ storeStarting State.reset = true ∧
      Settled State.reset := by
  decide +kernel

/-- The cell takes an order, with three outstanding too. -/
theorem witness_Ready :
    let o (tag : Byte) : Outstanding := { tag := tag, kind := 27, answered := false }
    (Ready cell ∧ Ready { cell with cpt := { cell.cpt with outstanding := [o 1, o 2, o 3] } }) ∧
      Ready heldTest ∧ Ready attached :=
  ⟨by decide +kernel, by decide +kernel, by decide +kernel⟩

theorem witness_ReadsAnswerAndChangeNothing :
    Settled cell ∧ cell.cpt.outstanding.length < 4 ∧ storeStarting cell = false := by
  decide +kernel

theorem witness_TripHistoryOrders :
    let s := latching .travel (latching .driveFault cell)
    Ready s ∧ latched s .travel = true ∧ latched s .loadLost = false ∧
      latchedClasses cell = [] := by
  decide +kernel

/-- Sixteen entries of 28 bytes, the most a segment carries. -/
theorem witness_SessionOrders :
    let es : List Entry := List.replicate 16 (List.replicate 28 0)
    Ready loading ∧ 1 ≤ es.length ∧ es.length ≤ 16 ∧ ∀ e ∈ es, e.length = 28 := by
  decide +kernel

theorem witness_TableDiscardClosesSession : Ready loading := by
  decide +kernel

/-- Each row of TABLE-COMMIT's answers: a copy without its form, one that fails its validation, a table in
use, one a store operation concerns, and copies that are accepted. -/
theorem witness_TableCommitReplacesCopy :
    Ready loading ∧ loading.cpt.session.isSome = true ∧ cell.cpt.session = none ∧
      hasForm (.prog 2) [] = false ∧
      validates (.prog 2) (programEntries { rebarProgram with timeLimit := 0 }) = false ∧
      hasForm (.prog 2) (programEntries { rebarProgram with timeLimit := 0 }) = true ∧
      tableInUse running (.prog 0) = true ∧ tableInUse loading (.prog 2) = false ∧
      storeConcerns (storing (.recalling .all [] [] [])) (.prog 2) = true ∧
      storeConcerns loading (.prog 2) = false ∧
      hasForm (.prog 2) (programEntries rebarProgram) = true ∧
      validates (.prog 2) (programEntries rebarProgram) = true ∧
      hasForm .route (cellRoute.toList.map routeBytes) = true ∧
      validates .route (cellRoute.toList.map routeBytes) = true := by
  decide +kernel

theorem witness_StoreOrders :
    Ready cell ∧ cell.tst.op = .idle ∧ ((allTables[14]?).isSome = true) ∧ allTables[15]? = none ∧
      allTables.find? (tableInUse armed) = some .route := by
  decide +kernel

theorem witness_ArmHoldsSpecimen :
    Ready cell ∧ wellFormedArguments .arm (armArguments rebar) = true ∧
      readSpecimen (armArguments rebar) = rebar ∧ armAnswer rebar cell = none ∧
      armAnswer rebar running = some (.wrongState, .state) := by
  decide +kernel

/-- The states each order leaves, quiet and with a jog active without LOAD. -/
theorem witness_TestIsLeft :
    let ended : State := { cell with tsq := { cell.tsq with state := .ended } }
    Ready armed ∧ armed.tsq.state = .armed ∧ Ready running ∧ inTest running = true ∧
      Ready ended ∧ jogActive ended = false ∧
      (Ready (jogging (deaf ended)) ∧ jogActive (jogging (deaf ended)) = true ∧
        seen (.release 10 1 []) (jogging (deaf ended)) (fun t => (latchedClasses t, t.xhu.mode)) =
          some ([.loadLost], .hold)) ∧
      Ready (jogging (deaf armed)) ∧
        seen (.disarm 10 1 []) (jogging (deaf armed)) (fun t => (latchedClasses t, t.tsq.state)) =
          some ([.loadLost], .idle) := by
  decide +kernel

theorem witness_StartRunsPhaseZero :
    Ready armed ∧ startAnswer armed = none ∧ armed.tsq.specimen = some rebar ∧
      (phaseAt armed 0).isSome = true ∧ latchEmpty armed = true ∧
      startAnswer cell = some .state := by
  decide +kernel

/-- RUNNING and HELD with LOAD UP, and with LOAD lost and a loss delay of 0. -/
theorem witness_HoldAndResume :
    (Ready running ∧ running.tsq.state = .running ∧ NoLoadLossNow running ∧ Ready heldTest ∧
      heldTest.tsq.state = .held ∧ NoLoadLossNow heldTest ∧
      (currentPhase heldTest).isSome = true ∧ heldTest.tsq.specimen = some rebar ∧
      latchEmpty heldTest = true) ∧
    Ready (deaf running) ∧ Ready (deaf heldTest) ∧ ¬ NoLoadLossNow (deaf running) ∧
      ¬ NoLoadLossNow (deaf heldTest) ∧ latched (deaf heldTest) .loadLost = false ∧
      seen (.resume 10 1 []) (deaf heldTest) (fun t => t.tsq.state) = some .tripped := by
  refine ⟨⟨by decide +kernel, rfl, .inl (by decide +kernel), by decide +kernel, rfl,
    .inl (by decide +kernel), by decide +kernel, rfl, by decide +kernel⟩, by decide +kernel,
    by decide +kernel, ?_, ?_, by decide +kernel, by decide +kernel⟩ <;>
  · rintro (h | h | h)
    · exact absurd h (by decide +kernel)
    · exact absurd h (by decide +kernel)
    · exact absurd (h _ rfl) (by decide +kernel)

/-- Each row of TARE's answers has a state; a tare in progress for its timer, at its first LOAD sample and
at its sixteenth, and for the two qualities that fail it. -/
theorem witness_TareRunsAndEnds :
    let job (n : Nat) : TareJob := { tag := 3, count := n, sum := 18741, deadline := 1000400 }
    let s (n : Nat) : State := { cell with lch := { cell.lch with tareJob := some (job n) } }
    (Ready cell ∧ Ready (s 2) ∧ Settled (s 2) ∧ (s 2).lch.tareJob = some (job 2) ∧
      channelUp cell .load = true ∧ channelUp idle .load = false ∧ running.tsq.state ≠ .idle) ∧
    Steered 0 (received (count 4500000)) (count 4500000) .load (s 0) ∧
      Steered 0 (received (count 5004)) (count 5004) .load (s 15) ∧
      (convertForce (s 0) { count 5 with overrange := true }).quality = .overrange ∧
      (convertForce { s 0 with lch := { (s 0).lch with cal := idle.lch.cal } } (count 5)).quality =
        .noCal :=
  ⟨by decide +kernel, steered_load _ _ (by decide +kernel) rfl rfl,
    steered_load _ _ (by decide +kernel) rfl rfl, by decide +kernel, by decide +kernel⟩

theorem witness_AttachStartsSettling :
    let s : State := { cell with exh := { cell.exh with
      settleAt := some 1500000
      averaging := some
        { armA := { count := 0, sum := 0 }, armB := { count := 0, sum := 0 }, openedAt := 1000000 } } }
    Ready cell ∧ cell.tsq.state = .idle ∧ cell.exh.extset = some cellExtSet ∧
      idle.exh.extset = none ∧ Ready idle ∧ channelUp cell .extA = true ∧
      channelUp cell .extB = true ∧ Settled s ∧ s.exh.settleAt = some 1500000 ∧
      s.exh.averaging.isSome = true ∧ Ready running ∧ running.tsq.state = .running := by
  decide +kernel

theorem witness_RemoveOpensArms :
    Ready cell ∧ cell.exh.handler = .detached ∧ Ready attached ∧ attached.exh.handler = .attached ∧
      inTest attached = false ∧ Ready { running with exh := attached.exh } ∧
      inTest { running with exh := attached.exh } = true := by
  decide +kernel

/-- A jog at the maximum in either sign, and one past it; and a jog that starts without LOAD and trips. -/
theorem witness_JogRunsAndEnds :
    let v (bytes : List Byte) : Int := quantityAt bytes 0
    (Ready cell ∧ latchEmpty cell = true ∧ inTest cell = false ∧ cell.xhu.lastEnable = true ∧
      NoLoadLossNow cell ∧ v [0x00, 0x4C, 0x4B, 0x40] = 5000000 ∧
      v [0xFF, 0xB3, 0xB4, 0xC0] = -5000000 ∧ v [0xFF, 0xB3, 0xB4, 0xBF] = -5000001 ∧
      (jogging cell).xhu.mode = .jog 1000000 1200000) ∧
    Ready (deaf cell) ∧ latchEmpty (deaf cell) = true ∧ jogActive (deaf cell) = false ∧
      seen (.jog 10 1 (quantityBytes 5000000)) (deaf cell)
        (fun t => (latchedClasses t, t.xhu.mode)) = some ([.loadLost], .hold) :=
  ⟨⟨by decide +kernel, by decide +kernel, rfl, rfl, .inl (by decide +kernel), by decide +kernel,
    by decide +kernel, by decide +kernel, rfl⟩, by decide +kernel, by decide +kernel, rfl,
    by decide +kernel⟩

/-- A latched class that has recovered, one that has not, and an empty latch; and a HOLD-class clear with
LOAD lost and a loss delay of 0, which trips anew. -/
theorem witness_ClearTripEmptiesLatch :
    let s := latching .travel cell
    let t := latching .driveFault
      { cell with xhu := { cell.xhu with drive := noDriveStatus } }
    let u := latching .following (deaf { heldTest with tsq := { heldTest.tsq with state := .tripped } })
    (Ready s ∧ latchEmpty s = false ∧ latched s .travel = true ∧ hasRecovered s .travel) ∧
      (Ready t ∧ latched t .driveFault = true ∧ ¬ hasRecovered t .driveFault) ∧
      latchEmpty cell = true ∧
      (Ready u ∧ u.tsq.state = .tripped ∧ channelUp u .load = false ∧ dumpFunction u = false ∧
        seen (.clearTrip 10 1 []) u (fun v => (latchedClasses v, v.tsq.state)) =
          some ([.loadLost], .tripped)) := by
  refine ⟨⟨by decide +kernel, by decide +kernel, by decide +kernel, rfl, cellXSet, rfl, ?_, ?_⟩,
    ⟨by decide +kernel, by decide +kernel, ?_⟩, by decide +kernel, by decide +kernel⟩
  · decide +kernel
  · decide +kernel
  · rintro ⟨-, -, h⟩
    exact absurd h (by decide +kernel)

/-- A MANUAL line and one with a function; the numbers at the end of the range and past it. -/
theorem witness_LinesFollow :
    let s : State := { cell with oln := { cell.oln with
      lineset := some #v[.extOpen, .manual, .tripLamp, .testActive] } }
    Ready s ∧ lineFunction s 0 = .extOpen ∧ lineFunction s 1 = .manual ∧
      lineFunction cell 3 = .manual ∧ unsignedAt [0, 0, 0, 3] 0 4 = 3 ∧
      unsignedAt [0, 0, 0, 4] 0 4 = 4 := by
  decide +kernel

theorem witness_StreamSetActs :
    Ready cell ∧ unsignedAt [0, 0, 0, 0] 0 4 = 0 ∧ unsignedAt [0, 0, 0, 1] 0 4 = 1 ∧
      unsignedAt [0, 0, 0, 64] 0 4 = 64 ∧ unsignedAt [0, 0, 0, 65] 0 4 = 65 := by
  decide +kernel

/-- A test, an armed one and an extensometer; a latch with two classes, on a FREE link and a BUSY one. -/
theorem witness_RestartActsOnBlocks :
    let s := latching .travel (latching .driveFault cell)
    let busy : State := { s with cpt := { s.cpt with link := some (.reply
      { tag := 1, kind := 27, code := .done, detail := none, payload := none }) } }
    Ready running ∧ inTest running = true ∧ Ready armed ∧ armed.tsq.state = .armed ∧
      Ready attached ∧ attached.exh.handler = .attached ∧ Ready s ∧ Ready busy ∧
      s.cpt.link = none ∧ busy.cpt.link.isSome = true ∧ latchedClasses s = [.travel, .driveFault] ∧
      noticeLevel s .trip ≠ .off := by
  decide +kernel

/-- The running test meets the sequencer's invariant. -/
theorem running_test : TestInvariant running :=
  ⟨by decide +kernel, by decide +kernel, by decide +kernel, by decide +kernel,
    fun _ x h => (by cases h), by decide +kernel⟩

/-- The search in RISING; and a force update of 1,124,250 dN net, 55,916 of stress, in RUNNING with a strain
of 47,600 su before it: in PLATEAU, past the rise margin; at each point of the chord; and with a proof
watched. -/
theorem witness_EvaluationsJudgeSample :
    let st : Strain := { value := 47600, source := .crosshead }
    let s (search : YieldSearch) (chord : ChordState) (proof : ProofState) : State := { running with
      xhu := { running.xhu with strain := 47600 }
      evu := { running.evu with
        strain := some st, search := search, reh := some (yieldSample 1126300 28050)
        candidate := some (yieldSample 1096200 31800), chord := chord
        point1 := some { stress := 10000, strain := 4900 }
        point2 := some { stress := 30000, strain := 14800 }, proof := proof } }
    (rising3.evu.search = .rising ∧ (28200 : Int) < rebar.searchLimit ∧ rebar.searchLimit ≤ 60000) ∧
    (∀ search chord proof, (proof = .watching → chord = .complete) →
      TestInvariant (s search chord proof) ∧
      Steered 0 (received (count 4500000)) (count 4500000) .load (s search chord proof) ∧
      (s search chord proof).tsq.state = .running ∧
      (s search chord proof).tsq.specimen = some rebar ∧
      (s search chord proof).evu.strain = some st) ∧
    st.value < rebar.searchLimit ∧
      (1096200 : Int) * 10000 + 1126300 * rebar.riseMargin ≤ 1124250 * 10000 ∧
      rebar.sigmaLow ≤ stressOf 1124250 rebar.s0 ∧ rebar.sigmaHigh ≤ stressOf 1124250 rebar.s0 ∧
      proofMet { stress := 10000, strain := 4900 } { stress := 30000, strain := 14800 }
        rebar.proofOffset (stressOf 1124250 rebar.s0) 47600 = false :=
  ⟨by decide +kernel,
    fun _ _ _ watched => ⟨⟨running_test.latch, running_test.record, running_test.mode, running_test.jog,
      fun _ x h => by cases h; exact ⟨rfl, by decide +kernel, by decide +kernel⟩,
      watched⟩,
      steered_load _ _ (by decide +kernel) rfl rfl, rfl, rfl, rfl⟩,
    by decide +kernel, by decide +kernel, by decide +kernel, by decide +kernel, by decide +kernel⟩

/-- The running test with a command waiting. -/
def waiting : State :=
  running.withPending [.timeLimitExpiry]

theorem witness_StepKeepsLinkInvariant : LinkInvariant waiting ∧ Progresses waiting :=
  ⟨⟨by decide +kernel, fun src => by cases src <;> decide +kernel, by decide +kernel,
    fun k r h => by
      have none : ∀ k : Fin 10, waiting.ntu.records[k] = none := by decide +kernel
      rw [none k] at h
      cases h⟩, _, rfl⟩

theorem witness_StepKeepsTestInvariant : TestInvariant waiting ∧ Progresses waiting :=
  ⟨⟨running_test.latch, running_test.record, running_test.mode, running_test.jog,
    running_test.strain, running_test.proof⟩, _, rfl⟩

theorem witness_StepKeepsCountInvariant : CountInvariant waiting ∧ Progresses waiting :=
  ⟨⟨by decide +kernel, by decide +kernel, by decide +kernel, fun c => by cases c <;> decide +kernel,
    by decide +kernel, by decide +kernel, by decide +kernel, fun _ => Nat.zero_le 1,
    fun k _ => Nat.zero_le 1⟩, _, rfl⟩

/-- A recall reaches XSET while a test is armed, and ABORT ends the use of PROG0. -/
theorem witness_TablesInUseStay :
    let s : State := { armed with tst := { armed.tst with op := .recalling .all [.xset] [] [] } }
    storeStarting s = false ∧ tableInUse s .xset = true ∧
      seen (.storeRecallReadComplete 5 true) s (fun t => tableInUse t .xset) = some true ∧
      storeStarting running = false ∧ tableInUse running (.prog 0) = true ∧
      seen (.release 10 1 []) running (fun t => tableInUse t (.prog 0)) = some true ∧
      seen (.disarm 10 1 []) armed (fun t => tableInUse t (.prog 0)) = some false := by
  decide +kernel

/-- A demand expiry with DRIVE-FAULT latched: the frame carries the frozen demand without enable. -/
theorem witness_LatchFreezesDemand :
    let s := latching .driveFault cell
    latchEmpty s = false ∧ s.xhu.mode = .hold ∧ s.xhu.demand = some 152400000 ∧
      cellXSet.softLower ≤ 152400000 ∧ 152400000 ≤ cellXSet.softUpper ∧
      seen .demandTimerExpiry s (fun t => (latchEmpty t, t.sent)) =
        some (false, [(4, .demand false false 152400000)]) := by
  decide +kernel

end Sys2Proof.Tests
end

section
/-!
SUPPORT. What the consequences of an event are made of. A sample, a trip, a strain update, a phase end
or the loss of a channel moves the lanes, the controller link, the trip history, the slip count and the
milestone list by a handful of operations only. `Moves` is the closure of these operations; each
operation of the model is shown once to be one of its runs, and what every run keeps follows by one
induction.
-/

namespace Sys2Proof.Machine

/-- The parts of the state that the consequences of an event move by the operations of `Moves` only. -/
structure Ledger where
  now : Nat
  lif : Lif
  rtb : Rtb
  cpt : Cpt
  ntu : Ntu
  history : Vector TripRecord 8
  lost : Condition
  lostAt : Option Nat
  slips : Nat
  list : List Milestone
  demandAt : Option Nat
  state : SeqState

/-- The ledger of a state. -/
def ledger (s : State) : Ledger :=
  { now := s.now
    lif := s.lif
    rtb := s.rtb
    cpt := s.cpt
    ntu := s.ntu
    history := s.pru.history
    lost := condition s .loadLost
    lostAt := s.pru.loadLossAt
    slips := s.exh.slipCount
    list := s.evu.list
    demandAt := s.xhu.demandAt
    state := s.tsq.state }

/-- The runs of the operations that an event's consequences are made of. Only where the LOAD channel may
be lost or restored, as `load` says, may LOAD-LOST leave CLEAR or the stream's timer and count change. -/
inductive Moves (load : Bool) : State → State → Prop where
  /-- Nothing of the ledger changes. -/
  | quiet {s t : State} (h : ledger t = ledger s) : Moves load s t
  /-- One run after another. -/
  | trans {s t u : State} (h : Moves load s t) (h' : Moves load t u) : Moves load s u
  /-- An occurrence of a source other than LANE. -/
  | raised (src : Source) (d : NoticeDetail) (s : State) (h : src ≠ .lane) :
      Moves load s (raise src d s)
  /-- The TARE order is answered. -/
  | tareAnswered (tag : Byte) (code : ReplyCode) (d : Option Detail) (p : Option Payload)
      (s : State) : Moves load s (answerTare tag code d p s)
  /-- A milestone is appended. -/
  | recorded (m : Milestone) (s : State) (h : willRecord m s = true) :
      Moves load s (s.setEvu { s.evu with list := s.evu.list ++ [m] })
  /-- A trip is counted. -/
  | tripCounted (c : TripClass) (x : LastTrip) (s : State) : Moves load s (updateHistory c x s)
  /-- A slip is counted. -/
  | slipCounted {s t : State} (n : Nat) (hn : n ≤ max 255 s.exh.slipCount)
      (h : ledger t = { ledger s with slips := n }) : Moves load s t
  /-- The sequencer changes its state, but no test starts. -/
  | entered {s t : State} (hn : inTest t = true → inTest s = true)
      (h : ledger t = { ledger s with state := t.tsq.state }) : Moves load s t
  /-- LOAD-LOST returns to CLEAR. -/
  | lossCleared (s : State) : Moves load s (clearLoadLost s)
  /-- LOAD-LOST is armed, or its timer stopped. -/
  | lossArmed {s t : State} (hb : load = true) (x : Condition) (n : Option Nat)
      (h : ledger t = { ledger s with lost := x, lostAt := n }) : Moves load s t
  /-- The fallback timer and the count toward the next frame change. -/
  | streamTimed {s t : State} (hb : load = true) (x : Option Nat) (n : Nat)
      (h : ledger t = { ledger s with cpt := { s.cpt with fallbackAt := x, count := n } }) :
      Moves load s t

variable {b : Bool} (s : State)

/-- The empty run. -/
theorem Moves.refl : Moves b s s := .quiet rfl

/-- One run after another, the later one given first: it fixes the state between them. -/
theorem Moves.after {s t u : State} (h' : Moves b t u) (h : Moves b s t) : Moves b s u := h.trans h'

/-- An open choice moves nothing. -/
theorem choices_moves (n : Nat) : Moves b s { s with choices := n } := .quiet rfl

/-- Acts in an open order are a run, when each of them is. -/
theorem inOpenOrder_moves (acts : List (State → State))
    (h : ∀ act ∈ acts, ∀ t, Moves b t (act t)) : Moves b s (inOpenOrder acts s) :=
  inOpenOrder_keeps (P := Moves b s) acts s (fun _ _ ht => ht.trans (.quiet rfl))
    (fun act ha _ ht => ht.trans (h act ha _)) (.refl s)

/-! ## The crosshead and the conditions -/

theorem settleLoadLost_moves : Moves b s (settleLoadLost s) := by
  unfold settleLoadLost
  split
  · exact .refl s
  · exact .lossCleared s

theorem enterHold_moves : Moves b s (enterHold s) :=
  Moves.after (settleLoadLost_moves _) (.quiet rfl)

theorem requestMode_moves (m : XhuMode) : Moves b s (requestMode m s) := by
  cases m with
  | hold => exact enterHold_moves s
  | jog v d => exact .refl s
  | positionRate | strainRate | stressRate =>
    dsimp only [requestMode]
    split
    · exact .quiet rfl
    · exact .refl s

theorem clampDemand_moves : Moves b s (clampDemand s) := by
  unfold clampDemand
  split
  · dsimp only
    split
    · exact .refl s
    · exact Moves.after (.raised _ _ _ (by decide)) (.quiet rfl)
  · exact .refl s

theorem initialiseDemand_moves : Moves b s (initialiseDemand s) :=
  Moves.after (clampDemand_moves _) (.quiet rfl)

/-- A condition state of a class is not in the ledger, but for LOAD-LOST's. -/
theorem setCondition_moves {c : TripClass} (hc : c ≠ .loadLost ∨ b = true) (x : Condition) :
    Moves b s (setCondition c x s) := by
  by_cases h : c = .loadLost
  · subst h
    exact .lossArmed (hc.resolve_left (by simp)) x s.pru.loadLossAt (by simp [ledger, setCondition, condition])
  · refine .quiet ?_
    cases c <;> simp_all [ledger, setCondition, condition, tripNumber]

theorem clearForceConditions_moves : Moves b s (clearForceConditions s) :=
  Moves.trans (setCondition_moves s (.inl (by decide)) _)
    (Moves.trans (setCondition_moves _ (.inl (by decide)) _) (setCondition_moves _ (.inl (by decide)) _))

/-! ## Milestones -/

theorem recordMilestone_moves (m : Milestone) : Moves b s (recordMilestone m s) := by
  unfold recordMilestone
  split
  · exact .refl s
  · split
    · exact Moves.after (.raised _ _ _ (by decide)) (.quiet rfl)
    · exact Moves.trans (.recorded m s (by simp_all [willRecord])) (.raised _ _ _ (by decide))

theorem handMilestone_moves (m : Milestone) : Moves b s (handMilestone m s) := by
  unfold handMilestone
  split
  · exact Moves.after (recordMilestone_moves _ _) (.quiet rfl)
  · exact recordMilestone_moves _ _

theorem handTrip_moves (c : TripClass) : Moves b s (handTrip c s) := by
  unfold handTrip
  split
  · exact Moves.after (handMilestone_moves _ _) (.quiet rfl)
  · exact handMilestone_moves _ _

theorem endPlateau_moves (x : EvalSample) : Moves b s (endPlateau x s) := by
  unfold endPlateau
  extract_lets s1 s2
  have h1 : Moves b s s1 := by
    unfold s1
    split
    · exact .refl s
    · exact (recordMilestone_moves _ _).trans (.quiet rfl)
  exact h1.trans ((recordMilestone_moves _ _).trans (.quiet rfl))

theorem closeAtLimit_moves (x : EvalSample) : Moves b s (closeAtLimit x s) := by
  unfold closeAtLimit
  split
  · exact .refl s
  · exact .quiet rfl
  · exact endPlateau_moves _ _

theorem evuEndOfTest_moves (n : SeqState) (c : EndCause) (silent : Bool) :
    Moves b s (evuEndOfTest n c silent s) := by
  unfold evuEndOfTest
  extract_lets _ s1 _ s2
  have h1 : Moves b s s1 := .quiet rfl
  have h2 : Moves b s1 s2 := by
    unfold s2
    split
    · exact .refl _
    · extract_lets m
      split
      · split
        · exact .recorded _ _ ‹_›
        · exact .refl _
      · exact recordMilestone_moves _ _
  exact h1.trans (h2.trans (.quiet rfl))

/-! ## The sequencer and the trips -/

/-- A state that is not a test state. -/
def outsideTest : SeqState → Bool
  | .running | .held | .tripped => false
  | .idle | .armed | .ended | .aborted => true

theorem inTest_eq : inTest s = !outsideTest s.tsq.state := by
  unfold inTest
  cases s.tsq.state <;> rfl

theorem enterState_moves {new : SeqState} (h : outsideTest new = true ∨ inTest s = true) :
    Moves b s (enterState new s) := by
  refine .entered (fun hn => h.resolve_left ?_) rfl
  simpa [inTest_eq, enterState] using hn

theorem changeState_moves {new : SeqState} (cause : TestCause)
    (h : outsideTest new = true ∨ inTest s = true) : Moves b s (changeState new cause s) :=
  Moves.trans (enterState_moves s h)
    (Moves.trans (.raised _ _ _ (by decide)) (settleLoadLost_moves _))

theorem exhEndOfTest_moves : Moves b s (exhEndOfTest s) := by
  unfold exhEndOfTest
  split
  · exact .refl s
  · exact .quiet rfl

theorem endTest_moves {new : SeqState} (cause : EndCause) (h : outsideTest new = true) :
    Moves b s (endTest new cause s) := by
  unfold endTest
  extract_lets previous silent _ s1 s2 s3
  have h1 : Moves b s s1 := .entered (by simp [inTest_eq, s1, h]) rfl
  have h2 : Moves b s1 s2 := .trans (enterHold_moves _) (.quiet rfl)
  have h3 : Moves b s2 s3 := by
    unfold s3
    split
    · exact .refl _
    · exact .raised _ _ _ (by decide)
  exact .after (settleLoadLost_moves _) (.after (exhEndOfTest_moves _)
    (.after (evuEndOfTest_moves _ _ _ _) (h1.trans (h2.trans h3))))

theorem sequencerTrip_moves (c : TripClass) : Moves b s (sequencerTrip c s) := by
  unfold sequencerTrip
  split
  · exact Moves.after (changeState_moves _ _ (.inl rfl)) (.quiet rfl)
  · exact Moves.trans (changeState_moves _ _ (.inr (by simp [inTest, *]))) (handTrip_moves _ _)
  · exact Moves.trans (changeState_moves _ _ (.inr (by simp [inTest, *]))) (handTrip_moves _ _)
  · exact handTrip_moves _ _
  all_goals exact .refl s

theorem trip_moves (c : TripClass) : Moves b s (trip c s) := by
  unfold trip
  split
  · exact .tripCounted _ _ _
  · refine Moves.after (.tripCounted _ _ _) ?_
    refine Moves.after (sequencerTrip_moves _ _) ?_
    refine Moves.after (.raised _ _ _ (by decide)) ?_
    exact Moves.after (enterHold_moves _) (.quiet rfl)

variable {c : TripClass} (hc : c ≠ .loadLost ∨ b = true)
include hc

theorem spend_moves : Moves b s (spend c s) :=
  Moves.trans (setCondition_moves s hc _) (trip_moves _ _)

theorem judgeDelayed_moves (h : Bool) (d : Nat) : Moves b s (judgeDelayed c h d s) := by
  unfold judgeDelayed
  split
  · split
    · split
      · exact spend_moves s hc
      · exact setCondition_moves s hc _
    · split
      · exact spend_moves s hc
      · exact .refl s
    · exact .refl s
  · exact setCondition_moves s hc _

theorem judgeAtOnce_moves (h : Bool) : Moves b s (judgeAtOnce c h s) := by
  unfold judgeAtOnce
  split
  · split
    · exact .refl s
    · exact spend_moves s hc
  · exact setCondition_moves s hc _

omit hc

theorem judgeTension2_moves (h : Bool) (n : Nat) : Moves b s (judgeTension2 h n s) := by
  have hs : ∀ x, Moves b s (setCondition .tension2 x s) := setCondition_moves s (.inl (by decide))
  have hp : Moves b s (spend .tension2 s) := spend_moves s (.inl (by decide))
  unfold judgeTension2
  split
  · split
    · split
      · exact hp
      · exact hs _
    · split
      · exact hp
      · exact hs _
    · exact .refl s
  · exact hs _

theorem protectForce_moves : Moves b s (protectForce s) := by
  unfold protectForce
  split
  · exact .refl s
  · refine inOpenOrder_moves s _ fun act ha t => ?_
    simp only [List.mem_cons, List.not_mem_nil, or_false] at ha
    obtain rfl | rfl | rfl := ha
    · exact judgeDelayed_moves t (.inl (by decide)) _ _
    · exact judgeTension2_moves t _ _
    · exact judgeDelayed_moves t (.inl (by decide)) _ _

theorem protectDemand_moves (d : Int) (e : Bool) : Moves b s (protectDemand d e s) := by
  unfold protectDemand
  split
  · exact .refl s
  · exact judgeDelayed_moves s (.inl (by decide)) _ _

theorem protectPosition_moves : Moves b s (protectPosition s) := by
  unfold protectPosition
  split
  · exact .refl s
  · exact judgeAtOnce_moves s (.inl (by decide)) _

/-- LOAD-LOST judged with LOAD UP can only return to CLEAR. -/
theorem judgeLoadLost_moves {up : Bool} (h : up = true ∨ b = true) :
    Moves b s (judgeLoadLost up s) := by
  unfold judgeLoadLost
  split
  · exact .refl s
  · split
    · have hb : b = true := h.resolve_left (by rintro rfl; simp_all [loadLostHolds])
      split
      · split
        · exact spend_moves s (.inr hb)
        · exact Moves.trans (setCondition_moves s (.inr hb) _) (.lossArmed hb _ _ rfl)
      · exact .refl s
    · exact .lossCleared s

theorem losePosition_moves : Moves b s (losePosition s) := by
  unfold losePosition
  split
  · have h : Moves b s (setCondition .travel .clear (s.setXhu { s.xhu with good := false })) :=
      Moves.after (setCondition_moves _ (.inl (by decide)) _) (.quiet rfl)
    dsimp only
    split
    · exact h.trans (spend_moves _ (.inl (by decide)))
    · exact h
  · exact .refl s

theorem protectDriveStatus_moves : Moves b s (protectDriveStatus s) :=
  judgeAtOnce_moves s (.inl (by decide)) _

theorem loseDriveLane_moves : Moves b s (loseDriveLane s) := by
  unfold loseDriveLane
  refine Moves.after (setCondition_moves _ (.inl (by decide)) _) ?_
  refine Moves.trans (t := s.setXhu { s.xhu with drive := noDriveStatus }) (.quiet rfl) ?_
  split
  · exact spend_moves _ (.inl (by decide))
  · exact .refl _

/-! ## Strain, removal and phases -/

theorem raiseExt_moves (d : ExtDetail) : Moves b s (raiseExt d s) := .raised _ _ _ (by decide)

theorem keepStrain_moves (st : Strain) : Moves b s (keepStrain st s) := by
  unfold keepStrain
  dsimp only
  split <;> exact .quiet rfl

theorem spliceToCrosshead_moves : Moves b s (spliceToCrosshead s) :=
  Moves.after (keepStrain_moves _ _) (.quiet rfl)

theorem noteRemovalStrain_moves (v : Int) : Moves b s (noteRemovalStrain v s) := by
  unfold noteRemovalStrain
  split
  · exact .quiet rfl
  · exact .refl s

theorem removeArms_moves {react : Strain → State → State} (hr : ∀ st t, Moves b t (react st t))
    (cause : RemovalCause) : Moves b s (removeArms react cause s) := by
  unfold removeArms
  dsimp only
  split
  · refine Moves.trans (t := spliceToCrosshead (s.setExh { s.exh with handler := .opened }))
      (Moves.after (spliceToCrosshead_moves _) (.quiet rfl)) ?_
    refine inOpenOrder_moves _ _ fun act ha t => ?_
    simp only [List.mem_cons, List.not_mem_nil, or_false] at ha
    obtain rfl | rfl := ha
    · exact hr _ _
    · exact (handMilestone_moves t _).trans
        ((noteRemovalStrain_moves _ _).trans (raiseExt_moves _ _))
  · exact Moves.after (raiseExt_moves _ _) (.quiet rfl)

theorem failAttach_moves (c : AttachFailure) (n : HandlerState) : Moves b s (failAttach c n s) :=
  Moves.after (raiseExt_moves _ _) (.quiet rfl)

theorem requestRemoval_moves {react : Strain → State → State}
    (hr : ∀ st t, Moves b t (react st t)) (cause : RemovalCause) :
    Moves b s (requestRemoval react cause s) := by
  unfold requestRemoval
  split
  · exact Moves.after (raiseExt_moves _ _) (.quiet rfl)
  · exact failAttach_moves _ _ _
  · exact removeArms_moves s hr cause
  · split
    · exact Moves.after (raiseExt_moves _ _) (.quiet rfl)
    · exact .refl s
  · exact .refl s

theorem evuStrainLimit_moves (st : Strain) : Moves b s (evuStrainLimit st s) := by
  unfold evuStrainLimit
  split
  · exact closeAtLimit_moves _ _
  · exact .refl s

theorem requestPhaseMode_moves : Moves b s (requestPhaseMode s) := by
  unfold requestPhaseMode
  split
  · exact requestMode_moves _ _
  · exact .refl s

theorem beginPhase_moves (k : Nat) : Moves b s (beginPhase k s) :=
  Moves.after (requestPhaseMode_moves _) (.quiet rfl)

theorem endPhase_moves (k : Nat) (p : Phase) : Moves b s (endPhase k p s) := by
  unfold endPhase
  extract_lets _ s1 s2
  have h1 : Moves b s s1 := .after (handMilestone_moves _ _) (.quiet rfl)
  have h2 : Moves b s1 s2 := by
    unfold s2
    split
    · exact requestRemoval_moves _ (fun st t => evuStrainLimit_moves t st) _
    · exact .refl _
  refine (h1.trans h2).trans ?_
  split
  · exact beginPhase_moves _ _
  · exact endTest_moves _ _ rfl

theorem judgeEnd_moves (met : EndKind → Int → Bool) : Moves b s (judgeEnd met s) := by
  unfold judgeEnd
  split
  · split
    · exact endPhase_moves _ _ _
    · exact .refl s
  · exact .refl s

theorem tsqStrain_moves (st : Strain) : Moves b s (tsqStrain st s) := judgeEnd_moves _ _

theorem evuStrain_moves (st : Strain) : Moves b s (evuStrain st s) := by
  unfold evuStrain
  split
  · exact (closeAtLimit_moves _ _).trans (judgeEnd_moves _ _)
  · exact .refl s

theorem offerStrain_moves (st : Strain) : Moves b s (offerStrain st s) := by
  refine inOpenOrder_moves s _ fun act ha t => ?_
  simp only [List.mem_cons, List.not_mem_nil, or_false] at ha
  obtain rfl | rfl := ha
  · exact tsqStrain_moves t st
  · exact evuStrain_moves t st

theorem keepLastExt_moves (v : Int) : Moves b s (keepLastExt v s) := .quiet rfl

theorem judgeSlip_moves (x : ExtSet) (v : Int) : Moves b s (judgeSlip x v s) := by
  unfold judgeSlip
  split
  · split
    · refine .after (keepLastExt_moves _ _) (.after (raiseExt_moves _ _)
        (.slipCounted (if s.exh.slipCount < 255 then s.exh.slipCount + 1 else s.exh.slipCount)
          ?_ rfl))
      split <;> omega
    · exact keepLastExt_moves _ _
  · exact keepLastExt_moves _ _

theorem judgeRemoval_moves {react : Strain → State → State} (hr : ∀ st t, Moves b t (react st t))
    (rangeEnd : Bool) (st : Strain) : Moves b s (judgeRemoval react rangeEnd st s) := by
  unfold judgeRemoval
  split
  · exact .refl s
  · split
    · exact removeArms_moves s hr _
    · split
      · exact removeArms_moves s hr _
      · exact .refl s

theorem exhStrain_moves {react : Strain → State → State} (hr : ∀ st t, Moves b t (react st t))
    (rangeEnd : Bool) (st : Strain) : Moves b s (exhStrain react rangeEnd st s) := by
  unfold exhStrain
  split
  · exact .refl s
  · split
    · exact .refl s
    · exact (judgeSlip_moves _ _ _).trans (judgeRemoval_moves _ hr _ _)

theorem publishExt_moves (rangeEnd : Bool) (st : Strain) : Moves b s (publishExt rangeEnd st s) := by
  refine (keepStrain_moves s st).trans (inOpenOrder_moves _ _ fun act ha t => ?_)
  simp only [List.mem_cons, List.not_mem_nil, or_false] at ha
  obtain rfl | rfl | rfl := ha
  · exact tsqStrain_moves t st
  · exact evuStrain_moves t st
  · exact exhStrain_moves t (fun st t => offerStrain_moves t st) _ _

theorem publishCrosshead_moves : Moves b s (publishCrosshead s) :=
  (keepStrain_moves s _).trans (offerStrain_moves _ _)

/-! ## Evaluations -/

theorem judgePlateau_moves (r : Specimen) (strain : Int) (x : EvalSample) :
    Moves b s (judgePlateau r strain x s) := by
  unfold judgePlateau
  split
  · exact .refl s
  · dsimp only
    split
    · exact Moves.after (endPlateau_moves _ _) (.quiet rfl)
    · exact .quiet rfl

theorem foundUpperYield_moves (fy : EvalSample) : Moves b s (foundUpperYield fy s) :=
  Moves.trans (recordMilestone_moves _ _) (.quiet rfl)

theorem searchYield_moves (r : Specimen) (strain : Int) (x : EvalSample) :
    Moves b s (searchYield r strain x s) := by
  unfold searchYield
  split
  · exact .refl s
  · split
    · exact closeAtLimit_moves _ _
    · refine Moves.trans (t := s.setEvu { s.evu with fy := some (nextFy x s.evu.fy) })
        (.quiet rfl) ?_
      dsimp only
      split
      · exact (foundUpperYield_moves _ _).trans (judgePlateau_moves _ _ _ _)
      · exact .refl _
  · split
    · exact closeAtLimit_moves _ _
    · exact judgePlateau_moves _ _ _ _

theorem whileRunning_moves {f : Specimen → Int → State → State}
    (hf : ∀ r v t, Moves b t (f r v t)) (x : EvalSample) : Moves b s (whileRunning f x s) := by
  unfold whileRunning
  split
  · split
    · exact hf _ _ _
    · exact .refl s
  · exact .refl s

theorem judgeChord_moves (x : EvalSample) (r : Specimen) (strain : Int) :
    Moves b s (judgeChord x r strain s) := by
  unfold judgeChord
  split
  · split
    · exact Moves.trans (recordMilestone_moves _ _) (.quiet rfl)
    · exact .refl s
  · split
    · exact .refl s
    · split
      · exact Moves.trans (recordMilestone_moves _ _) (.quiet rfl)
      · exact .refl s
  · exact .refl s

theorem judgeProof_moves (x : EvalSample) (r : Specimen) (strain : Int) :
    Moves b s (judgeProof x r strain s) := by
  unfold judgeProof
  split
  · split
    · exact Moves.trans (recordMilestone_moves _ _) (.quiet rfl)
    · exact .refl s
  · exact .refl s

theorem takeBreak_moves (x : EvalSample) : Moves b s (takeBreak x s) := by
  unfold takeBreak
  extract_lets _ s1 _ _ s2 s3
  have h1 : Moves b s s1 := .after (recordMilestone_moves _ _) (.quiet rfl)
  have h2 : Moves b s1 s2 := .quiet rfl
  have h3 : Moves b s2 s3 :=
    .after (requestRemoval_moves _ (fun st t => offerStrain_moves t st) _) (enterHold_moves _)
  refine (h1.trans (h2.trans h3)).trans ?_
  split
  · exact endTest_moves _ _ rfl
  · exact endTest_moves _ _ rfl
  · exact .refl _

theorem detectBreak_moves (x : EvalSample) : Moves b s (detectBreak x s) := by
  unfold detectBreak
  split
  · exact .refl s
  · split
    · exact takeBreak_moves s x
    · exact .refl s

theorem evaluateRest_moves (x : EvalSample) : Moves b s (evaluateRest x s) := by
  have h : Moves b s (whileRunning (judgeChord x) x s) :=
    whileRunning_moves s (fun r v t => judgeChord_moves t x r v) x
  unfold evaluateRest
  extract_lets watching t
  refine .after (detectBreak_moves _ _) ?_
  split
  · exact h.trans (whileRunning_moves _ (fun r v t => judgeProof_moves t x r v) x)
  · exact h

theorem evuForce_moves : Moves b s (evuForce s) := by
  unfold evuForce
  split
  · extract_lets x s1 s2
    have h1 : Moves b s s1 := .quiet rfl
    have h2 : Moves b s1 s2 := whileRunning_moves _ (fun r v t => searchYield_moves t r v x) x
    refine (h1.trans h2).trans ?_
    split
    · refine inOpenOrder_moves _ _ fun act ha t => ?_
      simp only [List.mem_cons, List.not_mem_nil, or_false] at ha
      obtain rfl | rfl := ha
      · exact judgeEnd_moves t _
      · exact evaluateRest_moves t x
    · exact evaluateRest_moves _ x
  · exact .refl s

/-! ## Load -/

theorem receiveRange_moves (g : Fin 4) : Moves b s (receiveRange g s) := by
  unfold receiveRange
  extract_lets _ t
  have h : Moves b s t := .quiet rfl
  split
  · exact h
  · split
    · exact h
    · exact h.trans (.raised _ _ _ (by decide))

theorem convertSample_moves (f : SampleFrame) : Moves b s (convertSample f s) := .quiet rfl

theorem sendRequest_moves : Moves b s (sendRequest s) := by
  unfold sendRequest
  split
  · exact .quiet rfl
  · exact .refl s

theorem makeRequest_moves (h : Fin 4) : Moves b s (makeRequest h s) :=
  .after (sendRequest_moves _) (.quiet rfl)

theorem repeatRequest_moves : Moves b s (repeatRequest s) :=
  .after (sendRequest_moves _) (.quiet rfl)

theorem initialRequest_moves : Moves b s (initialRequest s) := by
  unfold initialRequest
  split
  · exact .refl s
  · split <;> exact makeRequest_moves s _

theorem matchRequest_moves (g : Fin 4) : Moves b s (matchRequest g s) := by
  unfold matchRequest
  split
  · exact .refl s
  · split
    · exact .quiet rfl
    · split
      · exact repeatRequest_moves s
      · exact .refl s

theorem failTare_moves (cause : TareFailure) : Moves b s (failTare cause s) := by
  unfold failTare
  split
  · exact .refl s
  · exact .after (.tareAnswered _ _ _ _ _) (.quiet rfl)

theorem addToTare_moves (job : TareJob) : Moves b s (addToTare job s) := by
  unfold addToTare
  extract_lets sum
  split
  · exact .quiet rfl
  · exact .after (.tareAnswered _ _ _ _ _) (.quiet rfl)

theorem tareSample_moves : Moves b s (tareSample s) := by
  unfold tareSample
  split
  · exact .refl s
  · split
    · exact addToTare_moves s _
    · exact addToTare_moves s _
    · exact failTare_moves s _
    · exact failTare_moves s _
    · exact .refl s

theorem dwellSample_moves (x : LoadSet) (o : Bool) (g : Fin 4) :
    Moves b s (dwellSample x o g s) := by
  unfold dwellSample
  split
  · split
    · exact .quiet rfl
    · split
      · exact .refl s
      · exact .quiet rfl
  · exact .quiet rfl

theorem requestCoarsest_moves : Moves b s (requestCoarsest s) := by
  unfold requestCoarsest
  split
  · split
    · exact .quiet rfl
    · exact makeRequest_moves s _
  · exact .quiet rfl

theorem rangeSample_moves (o : Bool) (g : Fin 4) : Moves b s (rangeSample o g s) := by
  unfold rangeSample
  extract_lets settings
  split
  · exact .quiet rfl
  · split
    · split
      · exact requestCoarsest_moves s
      · exact .quiet rfl
    · split
      · exact requestCoarsest_moves s
      · exact .quiet rfl
    · exact .refl s
    all_goals
      refine (dwellSample_moves s settings o g).trans ?_
      split
      · split
        · exact makeRequest_moves _ _
        · exact .refl _
      · exact .refl _

theorem loadWork_moves (before : Bool) (g : Fin 4) : Moves b s (loadWork before g s) := by
  have h : Moves b s (tareSample (matchRequest g s)) :=
    (matchRequest_moves s g).trans (tareSample_moves _)
  unfold loadWork
  extract_lets after t choice
  split
  · exact h.trans (.after (rangeSample_moves _ _ _) (.quiet rfl))
  · exact h.trans (rangeSample_moves _ _ _)

theorem sequencerForce_moves : Moves b s (sequencerForce s) := judgeEnd_moves s _

theorem exhForce_moves : Moves b s (exhForce s) := by
  unfold exhForce
  split
  · exact removeArms_moves s (fun st t => offerStrain_moves t st) _
  · exact .refl s

theorem loadStale_moves : Moves b s (loadStale s) := .after (failTare_moves _ _) (.quiet rfl)

theorem startFallback_moves : Moves true s (startFallback s) := by
  unfold startFallback
  split
  · exact .streamTimed rfl _ _ rfl
  · exact .refl s

theorem protectLoadLost_moves : Moves true s (protectLoadLost s) :=
  .after (judgeLoadLost_moves _ (.inr rfl)) (clearForceConditions_moves s)

theorem loseLoad_moves : Moves true s (loseLoad s) := by
  refine inOpenOrder_moves s _ fun act ha t => ?_
  simp only [List.mem_cons, List.not_mem_nil, or_false] at ha
  obtain rfl | rfl | rfl := ha
  · exact loadStale_moves t
  · exact protectLoadLost_moves t
  · exact startFallback_moves t

theorem restoreLoad_moves : Moves true s (restoreLoad s) :=
  .after (judgeLoadLost_moves _ (.inl rfl)) (.streamTimed rfl _ _ rfl)

/-! ## The position and the arms -/

theorem regainPosition_moves : Moves b s (regainPosition s) := by
  have h : Moves b s (setCondition .positionLost .clear s) :=
    setCondition_moves s (.inl (by decide)) _
  unfold regainPosition
  extract_lets t
  split
  · exact h.trans (initialiseDemand_moves _)
  · exact h

theorem exhPosition_moves : Moves b s (exhPosition s) := by
  unfold exhPosition
  split
  · exact publishCrosshead_moves s
  · exact .refl s

theorem positionSample_moves (f : SampleFrame) : Moves b s (positionSample f s) := by
  unfold positionSample
  split
  · exact .refl s
  · rename_i x _
    extract_lets _ t
    have h : Moves b s t := .quiet rfl
    refine Moves.after (inOpenOrder_moves _ _ fun act ha u => ?_) ?_
    · simp only [List.mem_cons, List.not_mem_nil, or_false] at ha
      obtain rfl | rfl | rfl := ha
      · exact protectPosition_moves u
      · exact exhPosition_moves u
      · exact judgeEnd_moves u _
    · split
      · exact h
      · exact h.trans (regainPosition_moves _)

theorem completeAttach_moves (x : ExtSet) (v : Averaging) : Moves b s (completeAttach x v s) := by
  unfold completeAttach
  extract_lets t st
  have h : Moves b s t := .quiet rfl
  refine (h.trans (.after (keepLastExt_moves _ _) (keepStrain_moves _ _))).trans
    (inOpenOrder_moves _ _ fun act ha u => ?_)
  simp only [List.mem_cons, List.not_mem_nil, or_false] at ha
  obtain rfl | rfl | rfl | rfl := ha
  · exact tsqStrain_moves u st
  · exact evuStrain_moves u st
  · exact judgeRemoval_moves u (fun st t => offerStrain_moves t st) _ _
  · exact raiseExt_moves u _

theorem averageArm_moves (x : ExtSet) (armB : Bool) (n : Int) (v : Averaging) :
    Moves b s (averageArm x armB n v s) := by
  unfold averageArm
  extract_lets next
  split
  · exact completeAttach_moves s x next
  · exact .quiet rfl

theorem measureArm_moves (x : ExtSet) (armB : Bool) : Moves b s (measureArm x armB s) :=
  .after (publishExt_moves _ _ _) (.quiet rfl)

theorem holdArm_moves (armB : Bool) (n : Int) : Moves b s (holdArm armB n s) := by
  unfold holdArm
  split <;> exact .quiet rfl

theorem armSample_moves (armB : Bool) (f : SampleFrame) : Moves b s (armSample armB f s) := by
  unfold armSample
  extract_lets t
  refine (holdArm_moves s armB f.value).trans ?_
  split
  · exact .refl _
  · split
    · split
      · exact averageArm_moves _ _ _ _ _
      · exact measureArm_moves _ _ _
      · exact .refl _
    · exact .refl _

theorem loseArm_moves (armB : Bool) : Moves b s (loseArm armB s) := by
  unfold loseArm
  extract_lets x _ t u
  have h : Moves b s t := .quiet rfl
  split
  · refine (h.trans (spliceToCrosshead_moves t)).trans (inOpenOrder_moves _ _ fun act ha v => ?_)
    simp only [List.mem_cons, List.not_mem_nil, or_false] at ha
    obtain rfl | rfl := ha
    · exact offerStrain_moves v _
    · exact (handMilestone_moves v _).trans (raiseExt_moves _ _)
  · exact .after (raiseExt_moves _ _) (.quiet rfl)

theorem armLost_moves (armB : Bool) : Moves b s (armLost armB s) := by
  unfold armLost
  split
  · exact .refl s
  · split
    · split
      · exact failAttach_moves s _ _
      · exact loseArm_moves s armB
      · exact .refl s
    · exact .refl s

/-! ## Channel events and the drive -/

theorem channelLost_moves (c : Channel) : Moves true s (channelLost c s) := by
  cases c with
  | load => exact loseLoad_moves s
  | xhead => exact losePosition_moves s
  | extA => exact armLost_moves s false
  | extB => exact armLost_moves s true
  | unused => exact .refl s

theorem channelRestored_moves (c : Channel) : Moves true s (channelRestored c s) := by
  cases c with
  | load => exact restoreLoad_moves s
  | xhead | extA | extB | unused => exact .refl s

theorem driveReady_moves : Moves b s (driveReady s) := by
  unfold driveReady
  split
  · exact initialiseDemand_moves s
  · exact .refl s

theorem takeDriveStatus_moves (d : DriveStatus) : Moves b s (takeDriveStatus d s) := by
  unfold takeDriveStatus
  extract_lets _ t
  have h : Moves b s t := .quiet rfl
  split
  · refine h.trans (inOpenOrder_moves _ _ fun act ha u => ?_)
    simp only [List.mem_cons, List.not_mem_nil, or_false] at ha
    obtain rfl | rfl := ha
    · exact driveReady_moves u
    · exact protectDriveStatus_moves u
  · exact h.trans (protectDriveStatus_moves _)

end Sys2Proof.Machine
end

section
/-!
SUPPORT. Every command keeps the counts, the lane timers and the milestone list in bounds.
-/

namespace Sys2Proof.Machine

/-! ## The milestone list (R124) -/

/-- The limits of R124 on a milestone list, its length left out: it follows. -/
structure WithinLimits (l : List Milestone) : Prop where
  free : (l.filter fun m => m.kind ≠ .fmax && m.kind ≠ .breakFound).length ≤ 22
  phases : ∀ n : Nat, (l.filter fun m => m.kind = .phaseEnd && m.index = some n).length ≤ 1
  once : ∀ k : MilestoneKind, repeats k = false → (l.filter fun m => m.kind = k).length ≤ 1

theorem WithinLimits.nil : WithinLimits [] :=
  ⟨by simp, by simp, by simp⟩

/-- Every record is of a free kind, an FMAX or a BREAK. -/
theorem length_eq_kinds (l : List Milestone) :
    l.length = (l.filter fun m => m.kind ≠ .fmax && m.kind ≠ .breakFound).length
      + (l.filter fun m => m.kind = .fmax).length
      + (l.filter fun m => m.kind = .breakFound).length := by
  induction l with
  | nil => rfl
  | cons m rest ih =>
    by_cases h1 : m.kind = .fmax
    · simp [h1] at ih ⊢
      omega
    · by_cases h2 : m.kind = .breakFound
      · simp [h2] at ih ⊢
        omega
      · simp [h1, h2] at ih ⊢
        omega

theorem WithinLimits.length {l : List Milestone} (h : WithinLimits l) : l.length ≤ 24 := by
  have hf := h.once .fmax rfl
  have hb := h.once .breakFound rfl
  have := h.free
  rw [length_eq_kinds l]
  omega

/-- The records of non-reserved kinds are the free ones. -/
theorem nonReservedCount_eq (l : List Milestone) :
    nonReservedCount l = (l.filter fun m => m.kind ≠ .fmax && m.kind ≠ .breakFound).length := by
  have h : ∀ m : Milestone,
      (!reservedKind m.kind) = (decide (m.kind ≠ .fmax) && decide (m.kind ≠ .breakFound)) := by
    intro m
    cases m.kind <;> rfl
  simp [nonReservedCount, h]

/-- A milestone that R124 lets in leaves the list within its limits. -/
theorem WithinLimits.append {l : List Milestone} {m : Milestone} (h : WithinLimits l)
    (hr : alreadyRecorded l m = false) (hf : listFull l m = false) : WithinLimits (l ++ [m]) where
  free := by
    by_cases hm : reservedKind m.kind = true
    · have hz : [m].filter (fun m => m.kind ≠ .fmax && m.kind ≠ .breakFound) = [] := by
        cases hk : m.kind <;> simp_all [reservedKind]
      rw [List.filter_append, hz, List.append_nil]
      exact h.free
    · have hc : nonReservedCount l < 22 := by simpa [listFull, hm] using hf
      rw [nonReservedCount_eq] at hc
      have : ([m].filter fun m => m.kind ≠ .fmax && m.kind ≠ .breakFound).length ≤ 1 :=
        List.length_filter_le _ _
      rw [List.filter_append, List.length_append]
      omega
  phases := by
    intro n
    rw [List.filter_append, List.length_append]
    by_cases hm : m.kind = .phaseEnd ∧ m.index = some n
    · have hz : l.filter (fun r => r.kind = .phaseEnd && r.index = some n) = [] := by
        simpa [alreadyRecorded, hm.1, hm.2] using hr
      simp [hz, hm]
    · have hz : [m].filter (fun r => r.kind = .phaseEnd && r.index = some n) = [] := by
        simpa using hm
      simpa [hz] using h.phases n
  once := by
    intro k hk
    rw [List.filter_append, List.length_append]
    by_cases hm : m.kind = k
    · have hz : l.filter (fun r => r.kind = k) = [] := by
        subst hm
        cases hmk : m.kind <;> simp_all [alreadyRecorded, repeats]
      simp [hz, hm]
    · simpa [hm] using h.once k hk

/-! ## The parts of the state the counts stand in -/

/-- The parts of the state the counts, the lane timers and the milestone list stand in. -/
def tally (s : State) : Lif × Nat × Nat × Nat × Vector TripRecord 8 × Nat × List Milestone :=
  (s.lif, s.cpt.checkFailures, s.cpt.overruns, s.cpt.coalesced, s.pru.history, s.exh.slipCount,
    s.evu.list)

theorem CountInvariant.of_tally {s t : State} (h : CountInvariant s) (e : tally t = tally s) :
    CountInvariant t := by
  simp only [tally, Prod.mk.injEq] at e
  obtain ⟨hlif, hcf, hov, hco, hhi, hsl, hli⟩ := e
  exact
    { timers := by rw [hlif]; exact h.timers
      lanes := by rw [hlif]; exact h.lanes
      link := by rw [hcf, hov, hco]; exact h.link
      trips := by rw [hhi]; exact h.trips
      slips := by rw [hsl]; exact h.slips
      list := by rw [hli]; exact h.list
      free := by rw [hli]; exact h.free
      phases := by rw [hli]; exact h.phases
      once := by rw [hli]; exact h.once }

theorem CountInvariant.limits {s : State} (h : CountInvariant s) : WithinLimits s.evu.list :=
  ⟨h.free, h.phases, h.once⟩

/-- Another milestone list that is within the limits. -/
theorem CountInvariant.of_list {s t : State} (h : CountInvariant s) (hl : WithinLimits t.evu.list)
    (e : tally (s.setEvu t.evu) = tally t) : CountInvariant t :=
  CountInvariant.of_tally (s := s.setEvu t.evu)
    { h with
      timers := h.timers, lanes := h.lanes, link := h.link, trips := h.trips, slips := h.slips
      list := hl.length, free := hl.free, phases := hl.phases, once := hl.once } e.symm

theorem countUp_le {n : Nat} (h : n ≤ 65535) : countUp n ≤ 65535 := by
  unfold countUp
  split <;> omega

/-- Another trip count of a class. -/
theorem updateHistory_counts {s : State} (h : CountInvariant s) (c : TripClass) (x : LastTrip) :
    CountInvariant (updateHistory c x s) where
  timers := h.timers
  lanes := h.lanes
  link := h.link
  slips := h.slips
  list := h.list
  free := h.free
  phases := h.phases
  once := h.once
  trips := by
    intro d
    have hc := countUp_le (h.trips c)
    have hd := h.trips d
    simp only [Fin.getElem_fin] at hc hd
    by_cases hcd : (tripNumber c).val = (tripNumber d).val
    · simpa [updateHistory, countTrip, hcd] using hc
    · simpa [updateHistory, Vector.getElem_set, hcd] using hd

/-- What an event's consequences are made of keeps the counts in bounds. -/
theorem Moves.counts {b : Bool} {s t : State} (m : Moves b s t) (h : CountInvariant s) :
    CountInvariant t := by
  have ledger_tally : ∀ {u v : State}, ledger v = ledger u → tally v = tally u := by
    intro u v e
    simp only [ledger, Ledger.mk.injEq] at e
    simp [tally, e]
  induction m with
  | quiet e => exact h.of_tally (ledger_tally e)
  | trans _ _ ih ih' => exact ih' (ih h)
  | raised => exact h.of_tally (by simp [tally])
  | tareAnswered => exact h.of_tally (by simp [tally])
  | recorded m s hm =>
    simp only [willRecord, Bool.and_eq_true, Bool.not_eq_true'] at hm
    exact h.of_list (h.limits.append hm.1.2 hm.2) rfl
  | tripCounted c x s => exact updateHistory_counts h c x
  | @slipCounted s t n hn e =>
    have e' : tally t = tally (s.setExh { s.exh with slipCount := n }) := ledger_tally e
    have hs : n ≤ 255 := by
      have := h.slips
      omega
    exact CountInvariant.of_tally (s := s.setExh { s.exh with slipCount := n })
      { h with
        timers := h.timers, lanes := h.lanes, link := h.link, trips := h.trips, slips := hs
        list := h.list, free := h.free, phases := h.phases, once := h.once } e'
  | entered _ e =>
    simp only [ledger, Ledger.mk.injEq] at e
    exact h.of_tally (by simp [tally, e])
  | lossCleared => exact h.of_tally (by simp [tally])
  | lossArmed _ _ _ e | streamTimed _ _ _ e =>
    simp only [ledger, Ledger.mk.injEq] at e
    exact h.of_tally (by simp [tally, e])


/-! ## Operations that no count stands in -/

section neutral

variable (s : State)

@[simp] theorem raise_tally (src : Source) (d : NoticeDetail) :
    tally (raise src d s) = tally s := by simp [tally]

@[simp] theorem arbitrate_tally : tally (arbitrate s) = tally s := by simp [tally]

@[simp] theorem reply_tally (o : OrderName) (tag : Byte) (code : ReplyCode) (d : Option Detail)
    (p : Option Payload) : tally (reply o tag code d p s) = tally s := by simp [tally]

@[simp] theorem answer_tally (kind tag : Byte) (code : ReplyCode) (d : Option Detail)
    (p : Option Payload) : tally (answer kind tag code d p s) = tally s := by simp [tally]

@[simp] theorem closeSession_tally : tally (closeSession s) = tally s := rfl

@[simp] theorem restartSession_tally (x : Session) : tally (restartSession x s) = tally s := rfl

@[simp] theorem joinOutstanding_tally (kind tag : Byte) :
    tally (joinOutstanding kind tag s) = tally s := rfl

@[simp] theorem setTst_tally (x : Tst) : tally (s.setTst x) = tally s := rfl

@[simp] theorem setOln_tally (x : Oln) : tally (s.setOln x) = tally s := rfl

@[simp] theorem setLch_tally (x : Lch) : tally (s.setLch x) = tally s := rfl

@[simp] theorem setStoreOp_tally (op : StoreOp) : tally (setStoreOp op s) = tally s := rfl

@[simp] theorem elapse_tally (dt : Nat) : tally (elapse dt s) = tally s := rfl

@[simp] theorem reach_tally (d : Nat) : tally (reach d s) = tally s := rfl

@[simp] theorem begin0_tally : tally (begin0 s) = tally s := rfl

@[simp] theorem namedCondition_tally (failed : List Nat) :
    tally (namedCondition failed s).2 = tally s := by
  unfold namedCondition
  split <;> rfl

theorem enterState_tally (n : SeqState) : tally (enterState n s) = tally s := rfl

end neutral

theorem CountInvariant.reply {s : State} (h : CountInvariant s) (o : OrderName) (tag : Byte)
    (code : ReplyCode) (d : Option Detail) (p : Option Payload) :
    CountInvariant (reply o tag code d p s) :=
  h.of_tally (reply_tally s o tag code d p)

/-! ## Orders that move no count -/

section quietOrders

variable (tag : Byte) (args : List Byte) (s : State)

theorem ownTableOpen_tally : tally (ownTableOpen tag args s) = tally s := by
  unfold ownTableOpen
  (repeat' split) <;> simp

theorem ownTableData_tally : tally (ownTableData tag args s) = tally s := by
  unfold ownTableData
  (repeat' split) <;> simp

theorem ownTableDiscard_tally : tally (ownTableDiscard tag args s) = tally s := by
  unfold ownTableDiscard
  split <;> simp

theorem ownTableRead_tally : tally (ownTableRead tag args s) = tally s := by
  unfold ownTableRead
  split
  · simp
  · dsimp only
    split
    · simp
    · split <;> simp

theorem ownStoreSave_tally : tally (ownStoreSave tag args s) = tally s := by
  unfold ownStoreSave
  (repeat' split) <;> simp

theorem ownStoreRecall_tally : tally (ownStoreRecall tag args s) = tally s := by
  unfold ownStoreRecall
  (repeat' split) <;> simp

theorem ownMilestoneRead_tally : tally (ownMilestoneRead tag args s) = tally s := by
  unfold ownMilestoneRead
  split <;> simp

theorem ownTare_tally : tally (ownTare tag args s) = tally s := by
  unfold ownTare
  (repeat' split) <;> simp

theorem ownLineSet_tally : tally (ownLineSet tag args s) = tally s := by
  unfold ownLineSet
  split
  · dsimp only
    split <;> simp [setManual]
  · simp

theorem ownStreamSet_tally : tally (ownStreamSet tag args s) = tally s := by
  unfold ownStreamSet
  extract_lets n
  split
  · simp
  · rw [reply_tally]
    rfl

theorem ownStatusRead_tally : tally (ownStatusRead tag args s) = tally s := by
  unfold ownStatusRead
  split <;> simp

end quietOrders

/-! ## Tables -/

section tables

variable {s : State}

theorem replaceRoute_counts (h : CountInvariant s) (new : Option RouteTable) :
    CountInvariant (replaceRoute new s) := by
  have events : ∀ old c t, Moves true t (routeEvents old c t) := by
    intro old c t
    unfold routeEvents
    split
    · exact .refl t
    · extract_lets u
      have hu : Moves true t u := by
        unfold u
        split
        · exact channelLost_moves t c
        · exact .refl t
      split
      · exact hu.trans (channelRestored_moves u c)
      · exact hu
  unfold replaceRoute
  extract_lets old t
  have ht : CountInvariant t := h.of_tally rfl
  have hu : Moves true t (inOpenOrder (ownedChannels.map (routeEvents old)) t) := by
    refine inOpenOrder_moves t _ fun act ha u => ?_
    obtain ⟨c, -, rfl⟩ := List.mem_map.1 ha
    exact events old c u
  have hv : ∀ u, Moves true u (fallbackUnmapped u) := by
    intro u
    unfold fallbackUnmapped
    split
    · exact startFallback_moves u
    · exact .refl u
  exact (hu.trans (hv _)).counts ht

variable {b : Bool} (s)

theorem replaceCal_moves (startUp : Bool) (g : Fin 4) (new : Option CalTable) :
    Moves b s (replaceCal startUp g new s) := by
  unfold replaceCal
  extract_lets _ t
  have h : Moves b s t := .quiet rfl
  refine h.trans ?_
  split
  · split
    · exact initialRequest_moves t
    · exact .refl t
  · split
    · exact .refl t
    · split
      · split
        · exact makeRequest_moves t _
        · exact .quiet rfl
      · exact .refl t

theorem replaceLoadSet_moves (startUp : Bool) (new : Option LoadSet) :
    Moves b s (replaceLoadSet startUp new s) := by
  unfold replaceLoadSet
  extract_lets _ t
  have h : Moves b s t := .quiet rfl
  refine h.trans ?_
  split
  · split
    · exact .refl t
    · exact makeRequest_moves t _
  · exact .refl t

theorem detach_moves : Moves b s (detach s) := .after (raiseExt_moves _ _) (.quiet rfl)

theorem replaceExtSet_moves (new : Option ExtSet) : Moves b s (replaceExtSet new s) := by
  unfold replaceExtSet
  extract_lets _ t
  have h : Moves b s t := .quiet rfl
  refine h.trans ?_
  split
  · exact failAttach_moves t _ _
  · exact detach_moves t
  · exact detach_moves t
  all_goals exact .refl t

theorem replaceXSet_moves (new : Option XSet) : Moves b s (replaceXSet new s) := by
  unfold replaceXSet
  extract_lets _ t
  have h : Moves b s t := .quiet rfl
  refine h.trans ?_
  split
  · exact (setCondition_moves t (.inl (by decide)) _).trans (losePosition_moves _)
  · exact .refl t

theorem clearConditions_moves : Moves true s (clearConditions s) :=
  .lossArmed rfl .clear none (by simp [ledger, clearConditions, condition])

variable {s}

/-- The replacement of a working copy keeps the counts in bounds. -/
theorem install_counts (h : CountInvariant s) (startUp : Bool) (id : TableId) (t : Tables) :
    CountInvariant (install startUp id t s) := by
  have hu : CountInvariant (advanceEdition id s) := h.of_tally rfl
  cases id with
  | route => exact replaceRoute_counts hu _
  | cal g => exact (replaceCal_moves (b := true) _ _ _ _).counts hu
  | loadset => exact (replaceLoadSet_moves (b := true) _ _ _).counts hu
  | extset => exact (replaceExtSet_moves (b := true) _ _).counts hu
  | xset => exact (replaceXSet_moves (b := true) _ _).counts hu
  | protset => exact (clearConditions_moves _).counts (hu.of_tally rfl)
  | lineset | nlevels | prog k => exact hu.of_tally rfl

theorem commitTable_counts (h : CountInvariant s) (t : TableId) (es : List Entry) :
    CountInvariant (commitTable t es s) :=
  (install_counts h false t (readTable t es)).of_tally (raise_tally _ _ _)

theorem ownTableCommit_counts (h : CountInvariant s) (tag : Byte) (args : List Byte) :
    CountInvariant (ownTableCommit tag args s) := by
  unfold ownTableCommit
  split
  · exact h.reply _ _ _ _ _
  · split
    · exact h.of_tally (by simp)
    · split
      · exact h.of_tally (by simp)
      · split
        · exact h.of_tally (by simp)
        · split
          · exact h.of_tally (by simp)
          · exact (commitTable_counts h _ _).reply _ _ _ _ _

end tables

/-! ## The orders of a test -/

section orders

variable {s : State}

theorem changeStateArming_counts (h : CountInvariant s) (n : SeqState) (c : TestCause) :
    CountInvariant (changeStateArming n c s) :=
  (judgeLoadLost_moves (b := true) _ (.inr rfl)).counts
    (h.of_tally ((raise_tally _ _ _).trans (enterState_tally s n)))

theorem armTest_counts (h : CountInvariant s) (r : Specimen) : CountInvariant (armTest r s) :=
  changeStateArming_counts (h.of_list (t := evuDiscard (holdSpecimen r s)) .nil rfl) _ _

theorem ownArm_counts (h : CountInvariant s) (tag : Byte) (args : List Byte) :
    CountInvariant (ownArm tag args s) := by
  unfold ownArm
  split
  · exact h.reply _ _ _ _ _
  · exact (armTest_counts h _).reply _ _ _ _ _

theorem exhStart_moves {b : Bool} (s : State) : Moves b s (exhStart s) := by
  unfold exhStart
  extract_lets t
  have ht : Moves b s t := .slipCounted 0 (Nat.zero_le _) rfl
  refine ht.trans ?_
  split
  · rename_i x _ _
    extract_lets u st
    have hu : Moves b t u := .quiet rfl
    refine (hu.trans (keepStrain_moves _ st)).trans (inOpenOrder_moves _ _ fun act ha v => ?_)
    simp only [List.mem_cons, List.not_mem_nil, or_false] at ha
    obtain rfl | rfl := ha
    · exact evuStrainLimit_moves v st
    · exact exhStrain_moves v (fun st t => evuStrainLimit_moves t st) _ _
  · exact (keepStrain_moves _ _).trans (evuStrainLimit_moves _ _)

theorem endJog_moves {b : Bool} (s : State) : Moves b s (endJog s) := by
  unfold endJog
  split
  · exact enterHold_moves s
  · exact .refl s

theorem startTest_counts (h : CountInvariant s) (r : Specimen) : CountInvariant (startTest r s) := by
  have h1 : CountInvariant (changeStateArming .running .start (startTimes s)) :=
    changeStateArming_counts (s := startTimes s) (h.of_tally rfl) _ _
  have h2 : CountInvariant (evuStart r (changeStateArming .running .start (startTimes s))) :=
    h1.of_list .nil rfl
  exact (((exhStart_moves (b := true) _).trans (endJog_moves _)).trans (beginPhase_moves _ 0)).counts h2

theorem ownStart_counts (h : CountInvariant s) (tag : Byte) (args : List Byte) :
    CountInvariant (ownStart tag args s) := by
  unfold ownStart
  split
  · exact h.reply _ _ _ _ _
  · exact (startTest_counts h _).reply _ _ _ _ _
  · exact h.reply _ _ _ _ _

theorem ownHold_counts (h : CountInvariant s) (tag : Byte) (args : List Byte) :
    CountInvariant (ownHold tag args s) := by
  unfold ownHold
  split
  · refine CountInvariant.reply (Moves.counts (b := true) ?_
      (changeStateArming_counts h .held .hold)) _ _ _ _ _
    exact (enterHold_moves _).trans (handMilestone_moves _ _)
  · exact h.reply _ _ _ _ _
  · exact h.reply _ _ _ _ _

theorem ownResume_counts (h : CountInvariant s) (tag : Byte) (args : List Byte) :
    CountInvariant (ownResume tag args s) := by
  unfold ownResume
  split
  · refine CountInvariant.reply (Moves.counts (b := true) ?_
      (changeStateArming_counts h .running .resume)) _ _ _ _ _
    exact (handMilestone_moves _ _).trans (requestPhaseMode_moves _)
  · exact h.reply _ _ _ _ _

theorem ownDisarm_counts (h : CountInvariant s) (tag : Byte) (args : List Byte) :
    CountInvariant (ownDisarm tag args s) := by
  unfold ownDisarm
  split
  · have hd : CountInvariant (disarmTest s) :=
      changeStateArming_counts
        (s := releaseSpecimen (s.setTsq { s.tsq with slot := none })) (h.of_tally rfl) _ _
    exact hd.reply _ _ _ _ _
  · exact h.reply _ _ _ _ _

theorem ownRelease_counts (h : CountInvariant s) (tag : Byte) (args : List Byte) :
    CountInvariant (ownRelease tag args s) := by
  have hr : CountInvariant (releaseTest s) :=
    changeStateArming_counts (s := s.setTsq { s.tsq with slot := none, phase := none })
      (h.of_tally rfl) _ _
  unfold ownRelease
  split
  · exact hr.reply _ _ _ _ _
  · exact hr.reply _ _ _ _ _
  · exact h.reply _ _ _ _ _

theorem ownAbort_counts (h : CountInvariant s) (tag : Byte) (args : List Byte) :
    CountInvariant (ownAbort tag args s) := by
  unfold ownAbort
  split
  · exact ((endTest_moves (b := true) (new := .aborted) s _ rfl).counts h).reply _ _ _ _ _
  · exact h.reply _ _ _ _ _

/-! ## The other orders -/

theorem ownExtAttach_counts (h : CountInvariant s) (tag : Byte) (args : List Byte) :
    CountInvariant (ownExtAttach tag args s) := by
  unfold ownExtAttach
  split
  · exact h.reply _ _ _ _ _
  · split
    · exact h.reply _ _ _ _ _
    · rename_i x _
      extract_lets t
      have ht : CountInvariant t := h.of_tally rfl
      split
      · exact ht.reply _ _ _ _ _
      · exact ((failAttach_moves (b := true) t _ _).counts ht).reply _ _ _ _ _

theorem ownExtRemove_counts (h : CountInvariant s) (tag : Byte) (args : List Byte) :
    CountInvariant (ownExtRemove tag args s) :=
  ((requestRemoval_moves (b := true) s (fun st t => offerStrain_moves t st) .order).counts h).of_tally
    (reply_tally _ _ _ _ _ _)

theorem jogCrosshead_moves (v : Int) (s : State) : Moves true s (jogCrosshead v s) := by
  unfold jogCrosshead
  extract_lets _ t
  have h : Moves true s t := .quiet rfl
  split
  · exact h
  · exact h.trans (judgeLoadLost_moves t (.inr rfl))

theorem ownJog_counts (h : CountInvariant s) (tag : Byte) (args : List Byte) :
    CountInvariant (ownJog tag args s) := by
  unfold ownJog
  split
  · exact h.reply _ _ _ _ _
  · split
    · exact h.reply _ _ _ _ _
    · split
      · exact h.reply _ _ _ _ _
      · split
        · exact h.reply _ _ _ _ _
        · exact ((jogCrosshead_moves _ s).counts h).reply _ _ _ _ _

theorem ownJogStop_counts (h : CountInvariant s) (tag : Byte) (args : List Byte) :
    CountInvariant (ownJogStop tag args s) :=
  ((endJog_moves (b := true) s).counts h).of_tally (reply_tally _ _ _ _ _ _)

theorem clearTrips_counts (h : CountInvariant s) : CountInvariant (clearTrips s) := by
  unfold clearTrips
  extract_lets dump t
  have ht : Moves true s t := .after (clearConditions_moves _) (.quiet rfl)
  have hu : Moves true t (if dump then initialiseDemand t else t) := by
    split
    · exact initialiseDemand_moves t
    · exact .refl t
  have hv : ∀ u, CountInvariant u → CountInvariant (sequencerClear dump u) := by
    intro u hu
    unfold sequencerClear
    split
    · split
      · exact (endTest_moves (b := true) u _ rfl).counts hu
      · exact changeStateArming_counts hu _ _
    · exact hu
  exact (hv _ ((ht.trans hu).counts h)).of_tally (raise_tally _ _ _)

theorem ownClearTrip_counts (h : CountInvariant s) (tag : Byte) (args : List Byte) :
    CountInvariant (ownClearTrip tag args s) := by
  unfold ownClearTrip
  split
  · exact h.reply _ _ _ _ _
  · split
    · exact h.reply _ _ _ _ _
    · exact (clearTrips_counts h).reply _ _ _ _ _

theorem ownTripHistoryReset_counts (h : CountInvariant s) (tag : Byte) (args : List Byte) :
    CountInvariant (ownTripHistoryReset tag args s) := by
  unfold ownTripHistoryReset
  split
  · exact h.reply _ _ _ _ _
  · refine CountInvariant.of_tally
      (s := s.setPru { s.pru with history := Vector.replicate 8 TripRecord.empty }) ?_ (by simp)
    exact
      { h with
        timers := h.timers, lanes := h.lanes, link := h.link, slips := h.slips, list := h.list
        free := h.free, phases := h.phases, once := h.once
        trips := by simp [TripRecord.empty] }

theorem restartBlocks_counts (h : CountInvariant s) : CountInvariant (restartBlocks s) := by
  have hs : Moves true s (restartSequencer s) := by
    unfold restartSequencer
    split
    · exact endTest_moves s _ rfl
    · exact endTest_moves s _ rfl
    · exact endTest_moves s _ rfl
    · exact .after (settleLoadLost_moves _) (.after (enterState_moves _ (.inl rfl)) (.quiet rfl))
    all_goals exact .refl s
  have hh : ∀ t, Moves true t (restartHandler t) := by
    intro t
    unfold restartHandler
    split <;> exact .quiet rfl
  have hn : ∀ t, tally (restartNotices t) = tally t := by
    intro t
    unfold restartNotices
    extract_lets _ u
    have hu : tally u = tally t := rfl
    split
    · exact hu
    · exact (raise_tally _ _ _).trans hu
  have hl : ∀ t, Moves true t (restartLoad t) := fun t => .quiet rfl
  have hm := (((hs.trans (enterHold_moves _)).trans (hl _)).trans (hh _)).trans
    (clearConditions_moves _)
  exact (hm.counts h).of_tally ((closeSession_tally _).trans (hn _))

/-- Every order keeps the counts in bounds at its owner. -/
theorem owner_counts (o : OrderName) (tag : Byte) (args : List Byte) (h : CountInvariant s) :
    CountInvariant (owner o tag args s) := by
  cases o with
  | tableOpen => exact h.of_tally (ownTableOpen_tally tag args s)
  | tableData => exact h.of_tally (ownTableData_tally tag args s)
  | tableCommit => exact ownTableCommit_counts h tag args
  | tableDiscard => exact h.of_tally (ownTableDiscard_tally tag args s)
  | tableRead => exact h.of_tally (ownTableRead_tally tag args s)
  | storeSave => exact h.of_tally (ownStoreSave_tally tag args s)
  | storeRecall => exact h.of_tally (ownStoreRecall_tally tag args s)
  | arm => exact ownArm_counts h tag args
  | disarm => exact ownDisarm_counts h tag args
  | start => exact ownStart_counts h tag args
  | hold => exact ownHold_counts h tag args
  | resume => exact ownResume_counts h tag args
  | abort => exact ownAbort_counts h tag args
  | release => exact ownRelease_counts h tag args
  | resultRead => exact h.of_tally (reply_tally _ _ _ _ _ _)
  | milestoneRead => exact h.of_tally (ownMilestoneRead_tally tag args s)
  | tare => exact h.of_tally (ownTare_tally tag args s)
  | extAttach => exact ownExtAttach_counts h tag args
  | extRemove => exact ownExtRemove_counts h tag args
  | jog => exact ownJog_counts h tag args
  | jogStop => exact ownJogStop_counts h tag args
  | clearTrip => exact ownClearTrip_counts h tag args
  | tripHistoryRead => exact h.of_tally (reply_tally _ _ _ _ _ _)
  | tripHistoryReset => exact ownTripHistoryReset_counts h tag args
  | lineSet => exact h.of_tally (ownLineSet_tally tag args s)
  | streamSet => exact h.of_tally (ownStreamSet_tally tag args s)
  | statusRead => exact h.of_tally (ownStatusRead_tally tag args s)
  | restart => exact (restartBlocks_counts h).of_tally (reply_tally _ _ _ _ _ _)

end orders

/-! ## Frames on the lanes -/

section lanes

variable {s : State}

/-- A lane's record may be replaced by one whose timer runs exactly while the lane is UP and whose counts
stay within their fields. -/
theorem setLane_counts (h : CountInvariant s) (lane : Lane) {x : LaneState}
    (ht : x.silence.isSome = true ↔ x.status = .up)
    (hx : x.checkFailures ≤ 65535 ∧ x.moduleFaults ≤ 65535 ∧ x.unmapped ≤ 65535) :
    CountInvariant (setLane lane x s) :=
  { h with
    link := h.link, trips := h.trips, slips := h.slips, list := h.list, free := h.free
    phases := h.phases, once := h.once
    timers := by
      intro l
      have := h.timers l
      simp only [Fin.getElem_fin] at this
      by_cases hl : lane.val = l.val <;> simp [setLane, hl, ht, this]
    lanes := by
      intro l
      have := h.lanes l
      simp only [Fin.getElem_fin] at this
      by_cases hl : lane.val = l.val <;> simp [setLane, hl, hx, this] }

theorem countBadFrame_counts (h : CountInvariant s) (lane : Lane) :
    CountInvariant (countBadFrame lane s) :=
  setLane_counts h lane (h.timers lane)
    ⟨countUp_le (h.lanes lane).1, (h.lanes lane).2.1, (h.lanes lane).2.2⟩

theorem countModuleFault_counts (h : CountInvariant s) (lane : Lane) :
    CountInvariant (countModuleFault lane s) :=
  setLane_counts h lane (h.timers lane)
    ⟨(h.lanes lane).1, countUp_le (h.lanes lane).2.1, (h.lanes lane).2.2⟩

theorem countUnmapped_counts (h : CountInvariant s) (lane : Lane) :
    CountInvariant (countUnmapped lane s) :=
  setLane_counts h lane (h.timers lane)
    ⟨(h.lanes lane).1, (h.lanes lane).2.1, countUp_le (h.lanes lane).2.2⟩

theorem bringUp_counts (h : CountInvariant s) (lane : Lane) : CountInvariant (bringUp lane s) := by
  unfold bringUp
  extract_lets _ t u
  have ht : CountInvariant t := setLane_counts h lane (by simp) (h.lanes lane)
  have hu : CountInvariant u := by
    unfold u startDemandTimer
    split <;> exact ht.of_tally (raise_tally _ _ _)
  refine (inOpenOrder_moves (b := true) u _ fun act ha v => ?_).counts hu
  obtain ⟨c, -, rfl⟩ := List.mem_map.1 ha
  exact channelRestored_moves v c

theorem acceptFrame_counts (h : CountInvariant s) (lane : Lane) :
    CountInvariant (acceptFrame lane s) := by
  unfold acceptFrame
  split
  · rename_i hup
    exact setLane_counts h lane (by simp only [Option.isSome_some, hup]) (h.lanes lane)
  · exact bringUp_counts h lane
  · exact bringUp_counts h lane

theorem goStale_counts (h : CountInvariant s) (lane : Lane) : CountInvariant (goStale lane s) := by
  unfold goStale
  extract_lets _ t
  have ht : CountInvariant t := (setLane_counts h lane (x := { s.lif.lanes[lane] with
    status := .stale, silence := none }) (by simp) (h.lanes lane)).of_tally (raise_tally _ _ _)
  refine (inOpenOrder_moves (b := true) t _ fun act ha v => ?_).counts ht
  obtain ha | ha := List.mem_append.1 ha
  · have : act = loseDriveLane := by
      split at ha <;> simp_all
    exact this ▸ loseDriveLane_moves v
  · obtain ⟨c, -, rfl⟩ := List.mem_map.1 ha
    exact channelLost_moves v c

theorem makeDue_counts (h : CountInvariant s) : CountInvariant (makeDue s) := by
  unfold makeDue
  split
  · exact { h with
      timers := h.timers, lanes := h.lanes, trips := h.trips, slips := h.slips, list := h.list
      free := h.free, phases := h.phases, once := h.once
      link := ⟨h.link.1, h.link.2.1, countUp_le h.link.2.2⟩ }
  · exact h.of_tally (arbitrate_tally _)

theorem streamForce_counts (h : CountInvariant s) : CountInvariant (streamForce s) := by
  unfold streamForce
  extract_lets _ t
  have ht : CountInvariant t := h.of_tally rfl
  split
  · split
    · exact makeDue_counts (ht.of_tally rfl)
    · exact ht.of_tally rfl
  · exact ht

theorem loadSample_counts (h : CountInvariant s) (f : SampleFrame) :
    CountInvariant (loadSample f s) := by
  unfold loadSample
  extract_lets before
  refine inOpenOrder_keeps _ _ (fun _ _ ht => ht.of_tally rfl) (fun act ha t ht => ?_)
    (((receiveRange_moves (b := true) s f.range).trans (convertSample_moves _ f)).counts h)
  simp only [List.mem_cons, List.not_mem_nil, or_false] at ha
  obtain rfl | rfl | rfl | rfl | rfl | rfl := ha
  · exact (protectForce_moves (b := true) t).counts ht
  · exact (evuForce_moves (b := true) t).counts ht
  · exact (sequencerForce_moves (b := true) t).counts ht
  · exact (exhForce_moves (b := true) t).counts ht
  · exact streamForce_counts ht
  · exact (loadWork_moves (b := true) t _ _).counts ht

theorem deliver_counts (h : CountInvariant s) (lane : Lane) (c : Channel) (f : SampleFrame) :
    CountInvariant (deliver lane c f s) := by
  cases c with
  | load => exact loadSample_counts h f
  | xhead => exact (positionSample_moves (b := true) s f).counts h
  | extA => exact (armSample_moves (b := true) s false f).counts h
  | extB => exact (armSample_moves (b := true) s true f).counts h
  | unused => exact countUnmapped_counts h lane

theorem receive_counts (h : CountInvariant s) (lane : Lane) (frame : LaneFrame) :
    CountInvariant (receive lane frame s) := by
  have ha := acceptFrame_counts h lane
  cases frame with
  | bad => exact countBadFrame_counts h lane
  | driveStatus d => exact (takeDriveStatus_moves (b := true) _ d).counts ha
  | sample f =>
    unfold receive
    dsimp only
    split
    · exact countModuleFault_counts h lane
    · unfold steer
      split
      · exact countUnmapped_counts ha lane
      · extract_lets k
        refine deliver_counts ?_ _ _ _
        split
        · exact ha.of_tally rfl
        · exact ha

end lanes

/-! ## The commands -/

section commands

variable {s : State}

theorem powerOn_counts (pending : List Instr) (choices : Nat) (stored : Tables) :
    CountInvariant (State.powerOn pending choices stored) where
  timers := by simp [State.powerOn]
  lanes := by simp [State.powerOn]
  link := by simp [State.powerOn]
  trips := by simp [State.powerOn, TripRecord.empty]
  slips := Nat.zero_le _
  list := Nat.zero_le _
  free := Nat.zero_le _
  phases := fun _ => Nat.zero_le _
  once := fun _ _ => Nat.zero_le _

theorem overrun_counts (h : CountInvariant s) (kind tag : Byte) :
    CountInvariant (overrun kind tag s) :=
  CountInvariant.of_tally (s := s.setCpt { s.cpt with overruns := countUp s.cpt.overruns })
    { h with
      timers := h.timers, lanes := h.lanes, trips := h.trips, slips := h.slips, list := h.list
      free := h.free, phases := h.phases, once := h.once
      link := ⟨h.link.1, countUp_le h.link.2.1, h.link.2.2⟩ }
    (raise_tally _ _ _)

theorem takeOrder_counts (h : CountInvariant s) (o : OrderName) (tag : Byte) (args : List Byte) :
    CountInvariant (takeOrder o (owner o) tag args s) := by
  have hj : CountInvariant (joinOutstanding (orderCode o) tag s) := h.of_tally rfl
  unfold takeOrder
  split
  · exact overrun_counts h _ _
  · unfold dispatch
    split
    · exact hj.reply _ _ _ _ _
    · split
      · exact hj.reply _ _ _ _ _
      · exact owner_counts o tag args hj

theorem takeFrame_counts (h : CountInvariant s) (kind tag : Byte) (args : List Byte) :
    CountInvariant (takeFrame kind tag args s) := by
  unfold takeFrame
  split
  · exact takeOrder_counts h _ _ _
  · unfold takeUnknown
    split
    · exact overrun_counts h _ _
    · exact h.of_tally (by simp)

theorem demandExpiry_counts (h : CountInvariant s) (d : Nat) : CountInvariant (demandExpiry d s) := by
  have hstep : ∀ t, tally (stepMode t) = tally t := by
    intro t
    unfold stepMode
    split
    · rfl
    · split <;> rfl
  unfold demandExpiry
  extract_lets t
  have ht : CountInvariant (stepMode (t.setXhu { t.xhu with demandAt := some (d + 250) })) :=
    h.of_tally (hstep _)
  exact ((clampDemand_moves (b := true) _).counts ht).of_tally rfl

theorem completeWrite_counts (h : CountInvariant s) (good : Bool) (target : StoreTarget)
    (snapshot : Tables) (t : TableId) (todo failed : List TableId) :
    CountInvariant (completeWrite good target snapshot t todo failed s) := by
  unfold completeWrite
  extract_lets _ u failed'
  have hu : CountInvariant u := by
    unfold u
    split
    · exact h.of_tally rfl
    · exact h
  split
  · exact hu.of_tally (raise_tally _ _ _)
  · exact hu.of_tally rfl

theorem completeRead_counts (h : CountInvariant s) (intact : Bool) (target : StoreTarget)
    (t : TableId) (todo blank kept : List TableId) :
    CountInvariant (completeRead intact target t todo blank kept s) := by
  unfold completeRead
  extract_lets inUse copy kept' blank' u
  have hu : CountInvariant u := by
    unfold u
    split
    · exact h
    · exact install_counts h _ _ _
  split
  · exact hu.of_tally (raise_tally _ _ _)
  · exact hu.of_tally rfl

theorem completeStartUp_counts (h : CountInvariant s) (intact : Bool) (t : TableId)
    (todo blank : List TableId) : CountInvariant (completeStartUp intact t todo blank s) := by
  unfold completeStartUp
  extract_lets copy blank' u
  have hu : CountInvariant u := install_counts h _ _ _
  split
  · exact (initialRequest_moves (b := true) _).counts (hu.of_tally (raise_tally _ _ _))
  · exact hu.of_tally rfl

/-- A command that finds nothing to do at its time moves no count. -/
theorem begin0_counts (h : CountInvariant s) : CountInvariant (begin0 s) := h.of_tally rfl

/-- Any next state an outcome answers meets the invariant. -/
def CountsKept (o : Host.Outcome State Fault Refusal) : Prop :=
  ∀ t, o = .next t → CountInvariant t

theorem CountsKept.next {t : State} (h : CountInvariant t) : CountsKept (.next t) := by
  rintro _ ⟨⟩
  exact h

theorem elapse_counts (h : CountInvariant s) (dt : Nat) : CountInvariant (elapse dt s) :=
  h.of_tally rfl

theorem reach_counts (h : CountInvariant s) (d : Nat) : CountInvariant (reach d s) := h.of_tally rfl

theorem execDemandTimerExpiry_counts (h : CountInvariant s) :
    CountsKept (execDemandTimerExpiry s) := by
  have hj : ∀ t, Moves true t (endDisabledJog t) := by
    intro t
    unfold endDisabledJog
    split
    · exact .refl t
    · exact endJog_moves t
  unfold execDemandTimerExpiry
  split
  · exact .next (begin0_counts h)
  · rename_i d _
    exact .next (Moves.counts (.after (hj _) (protectDemand_moves _ _ _)) (demandExpiry_counts h d))

theorem execRepeatTimerExpiry_counts (h : CountInvariant s) :
    CountsKept (execRepeatTimerExpiry s) := by
  unfold execRepeatTimerExpiry
  split
  · exact .next (begin0_counts h)
  · exact .next ((repeatRequest_moves (b := true) _).counts (reach_counts h _))

theorem execDwellTimerExpiry_counts (h : CountInvariant s) :
    CountsKept (execDwellTimerExpiry s) := by
  unfold execDwellTimerExpiry
  split
  · exact .next (begin0_counts h)
  · rename_i d _
    extract_lets t _ u
    have hu : CountInvariant u := h.of_tally rfl
    split
    · refine .next ?_
      split
      · exact (makeRequest_moves (b := true) u _).counts hu
      · exact hu
    · exact .next hu

theorem execTareSampleTimerExpiry_counts (h : CountInvariant s) :
    CountsKept (execTareSampleTimerExpiry s) := by
  unfold execTareSampleTimerExpiry
  split
  · exact .next (begin0_counts h)
  · exact .next ((failTare_moves (b := true) _ _).counts (reach_counts h _))

theorem execSettleTimerExpiry_counts (h : CountInvariant s) :
    CountsKept (execSettleTimerExpiry s) := by
  unfold execSettleTimerExpiry
  split
  · exact .next (begin0_counts h)
  · exact .next ((reach_counts h _).of_tally rfl)

theorem execZeroAveragingTimeout_counts (h : CountInvariant s) :
    CountsKept (execZeroAveragingTimeout s) := by
  unfold execZeroAveragingTimeout
  split
  · exact .next (begin0_counts h)
  · exact .next ((failAttach_moves (b := true) _ _ _).counts (reach_counts h _))

theorem execJogDeadlineExpiry_counts (h : CountInvariant s) :
    CountsKept (execJogDeadlineExpiry s) := by
  unfold execJogDeadlineExpiry
  split
  · exact .next ((enterHold_moves (b := true) _).counts (reach_counts h _))
  · exact .next (begin0_counts h)

theorem execPhaseTimerExpiry_counts (h : CountInvariant s) :
    CountsKept (execPhaseTimerExpiry s) := by
  unfold execPhaseTimerExpiry
  split
  · exact .next ((judgeEnd_moves (b := true) _ _).counts (reach_counts h _))
  · exact .next (begin0_counts h)

theorem execTimeLimitExpiry_counts (h : CountInvariant s) :
    CountsKept (execTimeLimitExpiry s) := by
  unfold execTimeLimitExpiry
  split
  · exact .next (begin0_counts h)
  · refine .next ?_
    split
    · exact (endTest_moves (b := true) (new := .ended) _ _ rfl).counts (reach_counts h _)
    · exact begin0_counts h

theorem execLoadLossTimerExpiry_counts (h : CountInvariant s) :
    CountsKept (execLoadLossTimerExpiry s) := by
  unfold execLoadLossTimerExpiry
  split
  · exact .next (begin0_counts h)
  · exact .next ((spend_moves _ (.inr rfl)).counts ((reach_counts h _).of_tally rfl))

theorem execStreamFallbackExpiry_counts (h : CountInvariant s) :
    CountsKept (execStreamFallbackExpiry s) := by
  unfold execStreamFallbackExpiry
  split
  · exact .next (begin0_counts h)
  · exact .next (makeDue_counts ((startFallback_moves _).counts (reach_counts h _)))

theorem execSessionTimerExpiry_counts (h : CountInvariant s) :
    CountsKept (execSessionTimerExpiry s) := by
  unfold execSessionTimerExpiry
  split
  · exact .next (begin0_counts h)
  · exact .next ((reach_counts h _).of_tally (raise_tally _ _ _))

theorem execSilenceTimerExpiry_counts (h : CountInvariant s) (lane : Lane) :
    CountsKept (execSilenceTimerExpiry lane s) := by
  unfold execSilenceTimerExpiry
  split
  · exact .next (begin0_counts h)
  · exact .next (goStale_counts (reach_counts h _) lane)

theorem execStoreSaveWriteComplete_counts (h : CountInvariant s) (dt : Nat) (good : Bool) :
    CountsKept (execStoreSaveWriteComplete dt good s) := by
  unfold execStoreSaveWriteComplete
  split
  · exact .next (completeWrite_counts (elapse_counts h dt) _ _ _ _ _ _)
  · exact .next (elapse_counts h dt)

theorem execStoreRecallReadComplete_counts (h : CountInvariant s) (dt : Nat) (intact : Bool) :
    CountsKept (execStoreRecallReadComplete dt intact s) := by
  unfold execStoreRecallReadComplete
  split
  · exact .next (completeRead_counts (elapse_counts h dt) _ _ _ _ _ _)
  · exact .next (elapse_counts h dt)

theorem execStartUpTableRead_counts (h : CountInvariant s) (dt : Nat) (intact : Bool) :
    CountsKept (execStartUpTableRead dt intact s) := by
  unfold execStartUpTableRead
  split
  · exact .next (completeStartUp_counts (elapse_counts h dt) _ _ _ _)
  · exact .next (elapse_counts h dt)

theorem execTransmissionComplete_counts (h : CountInvariant s) (dt : Nat) :
    CountsKept (execTransmissionComplete dt s) := by
  have hc : ∀ f u, tally (completeTransmission f u) = tally u := by
    intro f u
    cases f <;> rfl
  unfold execTransmissionComplete
  split
  · exact .next (elapse_counts h dt)
  · exact .next ((elapse_counts h dt).of_tally ((arbitrate_tally _).trans (hc _ _)))

theorem execCportBadFrame_counts (h : CountInvariant s) (dt : Nat) (rx : Reception) :
    CountsKept (execCportBadFrame dt rx s) := by
  unfold execCportBadFrame
  extract_lets t
  split
  · exact .next { h with
      timers := h.timers, lanes := h.lanes, trips := h.trips, slips := h.slips, list := h.list
      free := h.free, phases := h.phases, once := h.once
      link := ⟨countUp_le h.link.1, h.link.2⟩ }
  · exact .next (takeFrame_counts (elapse_counts h dt) _ _ _)

/-- An order command of the catalogue is taken to its owner. -/
theorem execOrder_counts (h : CountInvariant s) (o : OrderName) (dt : Nat) (tag : Byte)
    (args : List Byte) : CountsKept (.next (takeOrder o (owner o) tag args (elapse dt s))) :=
  .next (takeOrder_counts (elapse_counts h dt) o tag args)

/-- Every command keeps the counts, the lane timers and the milestone list in bounds. -/
theorem exec_counts (h : CountInvariant s) (i : Instr) : CountsKept (exec i s) := by
  cases i with
  | powerOn => exact .next (powerOn_counts _ _ _)
  | sample dt lane rx => exact .next (receive_counts (elapse_counts h dt) _ _)
  | driveStatus dt lane rx => exact .next (receive_counts (elapse_counts h dt) _ _)
  | silenceTimerExpiry lane => exact execSilenceTimerExpiry_counts h lane
  | demandTimerExpiry => exact execDemandTimerExpiry_counts h
  | repeatTimerExpiry => exact execRepeatTimerExpiry_counts h
  | dwellTimerExpiry => exact execDwellTimerExpiry_counts h
  | tareSampleTimerExpiry => exact execTareSampleTimerExpiry_counts h
  | settleTimerExpiry => exact execSettleTimerExpiry_counts h
  | zeroAveragingTimeout => exact execZeroAveragingTimeout_counts h
  | jogDeadlineExpiry => exact execJogDeadlineExpiry_counts h
  | phaseTimerExpiry => exact execPhaseTimerExpiry_counts h
  | timeLimitExpiry => exact execTimeLimitExpiry_counts h
  | loadLossTimerExpiry => exact execLoadLossTimerExpiry_counts h
  | streamFallbackExpiry => exact execStreamFallbackExpiry_counts h
  | sessionTimerExpiry => exact execSessionTimerExpiry_counts h
  | storeSaveWriteComplete dt good => exact execStoreSaveWriteComplete_counts h dt good
  | storeRecallReadComplete dt intact => exact execStoreRecallReadComplete_counts h dt intact
  | startUpTableRead dt intact => exact execStartUpTableRead_counts h dt intact
  | transmissionComplete dt => exact execTransmissionComplete_counts h dt
  | cportBadFrame dt rx => exact execCportBadFrame_counts h dt rx
  | unknownOrder dt kind tag args => exact .next (takeFrame_counts (elapse_counts h dt) _ _ _)
  | tableOpen dt tag args => exact execOrder_counts h .tableOpen dt tag args
  | tableData dt tag args => exact execOrder_counts h .tableData dt tag args
  | tableCommit dt tag args => exact execOrder_counts h .tableCommit dt tag args
  | tableDiscard dt tag args => exact execOrder_counts h .tableDiscard dt tag args
  | tableRead dt tag args => exact execOrder_counts h .tableRead dt tag args
  | storeSave dt tag args => exact execOrder_counts h .storeSave dt tag args
  | storeRecall dt tag args => exact execOrder_counts h .storeRecall dt tag args
  | arm dt tag args => exact execOrder_counts h .arm dt tag args
  | disarm dt tag args => exact execOrder_counts h .disarm dt tag args
  | start dt tag args => exact execOrder_counts h .start dt tag args
  | hold dt tag args => exact execOrder_counts h .hold dt tag args
  | resume dt tag args => exact execOrder_counts h .resume dt tag args
  | abort dt tag args => exact execOrder_counts h .abort dt tag args
  | release dt tag args => exact execOrder_counts h .release dt tag args
  | resultRead dt tag args => exact execOrder_counts h .resultRead dt tag args
  | milestoneRead dt tag args => exact execOrder_counts h .milestoneRead dt tag args
  | tare dt tag args => exact execOrder_counts h .tare dt tag args
  | extAttach dt tag args => exact execOrder_counts h .extAttach dt tag args
  | extRemove dt tag args => exact execOrder_counts h .extRemove dt tag args
  | jog dt tag args => exact execOrder_counts h .jog dt tag args
  | jogStop dt tag args => exact execOrder_counts h .jogStop dt tag args
  | clearTrip dt tag args => exact execOrder_counts h .clearTrip dt tag args
  | tripHistoryRead dt tag args => exact execOrder_counts h .tripHistoryRead dt tag args
  | tripHistoryReset dt tag args => exact execOrder_counts h .tripHistoryReset dt tag args
  | lineSet dt tag args => exact execOrder_counts h .lineSet dt tag args
  | streamSet dt tag args => exact execOrder_counts h .streamSet dt tag args
  | statusRead dt tag args => exact execOrder_counts h .statusRead dt tag args
  | restart dt tag args => exact execOrder_counts h .restart dt tag args

end commands

/-- Settles O58: by the commands, each of whose parts is a run of `Moves` or moves one count. -/
theorem stepKeepsCountInvariant : Obligations.StepKeepsCountInvariant := by
  intro s t h e
  unfold step at e
  split at e
  · cases e
    exact h
  · rename_i c rest _
    exact exec_counts (s := s.withPending rest) (h.of_tally rfl) c t e

end Sys2Proof.Machine
end

section
/-!
SUPPORT. Frames on the lanes: what is read back, and what a frame without an effect at an owner leaves.
-/

namespace Sys2Proof.Machine

/-! ## Counting a frame (R1, R2, R12) -/

theorem countUp_eq (n : Nat) : countUp n = min (max 65535 n) (n + 1) := by
  unfold countUp
  split <;> omega

theorem setLane_eq (lane : Lane) (x : LaneState) (s : State) : setLane lane x s = withLane lane x s :=
  rfl

theorem elapse_eq (dt : Nat) (s : State) : elapse dt s = later dt s := rfl

theorem reach_eq (d : Nat) (s : State) : reach d s = atExpiry d s := rfl

/-- Settles O7. -/
theorem discardedFramesAreCounted : Obligations.DiscardedFramesAreCounted := by
  intro dt lane rx s
  constructor
  · intro hbad i hi
    have hr : receive lane (readLaneFrame lane rx) (elapse dt s) =
        countBadFrame lane (elapse dt s) := by rw [hbad]; rfl
    simp only [List.mem_cons, List.not_mem_nil, or_false] at hi
    obtain rfl | rfl := hi <;>
      simp only [exec, execSample, execDriveStatus, hr, countBadFrame, countUp_eq] <;> rfl
  · intro f hf hm
    have hr : receive lane (readLaneFrame lane rx) (elapse dt s) =
        countModuleFault lane (elapse dt s) := by
      rw [hf]
      simp [receive, hm]
    simp only [exec, execSample, hr, countModuleFault, countUp_eq]
    rfl

/-- A frame on an UP lane restarts its silence timer (R4). -/
theorem acceptFrame_up {s : State} {lane : Lane} (dt : Nat) (h : s.lif.lanes[lane].status = .up) :
    acceptFrame lane (elapse dt s) = heard dt lane s := by
  unfold acceptFrame
  split
  · simp only [heard, setLane_eq, elapse_eq]
    rfl
  · simp_all
  · simp_all

/-- The raw value of a sample is held where its entry is tapped. -/
theorem holdRaw_tapped {s : State} {route : RouteTable} (hr : s.rtb.route = some route)
    (k : Fin 10) (v : Int) :
    (if route[k].tap then holdRaw k v s else s) = withTap k v s := by
  unfold withTap
  rw [hr]
  rfl

/-- An accepted SAMPLE goes to the owner of its entry's channel. -/
theorem steer_mapped {s : State} {route : RouteTable} {lane : Lane} {f : SampleFrame} {c : Channel}
    (hr : s.rtb.route = some route) (hc : route[routeKey lane f.sub].channel = c) :
    steer lane f s = deliver lane c f (withTap (routeKey lane f.sub) f.value s) := by
  subst hc
  unfold steer
  rw [hr]
  dsimp only
  rw [holdRaw_tapped hr]

/-- Settles O9. -/
theorem unmappedSampleIsCounted : Obligations.UnmappedSampleIsCounted := by
  intro dt lane rx f s hf hm hup hroute
  have hr : receive lane (readLaneFrame lane rx) (elapse dt s) = steer lane f (heard dt lane s) := by
    rw [hf, ← acceptFrame_up dt hup]
    simp [receive, hm]
  have hcount : ∀ t : State, t.lif = (heard dt lane s).lif →
      countUnmapped lane t = withLane lane { s.lif.lanes[lane] with
        silence := some (s.now + dt + 1000)
        unmapped := min (max 65535 s.lif.lanes[lane].unmapped) (s.lif.lanes[lane].unmapped + 1) }
        { t with lif := s.lif } := by
    intro t ht
    simp [countUnmapped, setLane_eq, withLane, ht, heard, later, countUp_eq]
  simp only [exec, execSample, hr]
  cases hs : s.rtb.route with
  | none =>
    have : steer lane f (heard dt lane s) = countUnmapped lane (heard dt lane s) := by
      simp [steer, heard, withLane, later, hs]
    rw [this, hcount _ rfl]
    simp [withTap, tapped, withLane, later, heard, hs]
  | some route =>
    rw [steer_mapped (s := heard dt lane s) hs (hroute route hs)]
    have : (withTap (routeKey lane f.sub) f.value (heard dt lane s)).lif = (heard dt lane s).lif := by
      unfold withTap
      split <;> rfl
    rw [deliver, hcount _ this]
    unfold withTap
    by_cases ht : tapped s.rtb.route (routeKey lane f.sub) = true
    · simp [heard, withLane, later, ht]
    · simp [heard, withLane, later, ht]

/-- Settles O32. -/
theorem powerOnValues : Obligations.PowerOnValues := by
  intro s
  have hvalid : ∀ x : TableId, valid (State.powerOn s.pending s.choices s.tst.stored) x = false := by
    intro x
    cases x <;> simp [valid, workingCopies, hasContent, State.powerOn]
  refine ⟨_, rfl, ?_⟩
  simp [State.powerOn, noDriveStatus, testTime, phaseTime, condition, latched, storeStarting,
    TripRecord.empty]
  exact hvalid

/-! ## Lane frames (R1, R194, R195) -/

/-- A frame is accepted exactly when it passes every check of R195. -/
theorem readLaneFrame_ne_bad (lane : Lane) (rx : Reception) : readLaneFrame lane rx ≠ .bad ↔
    rx.clean = true ∧ rx.bytes.length = 8 ∧
      (crc16 (rx.bytes.take 6)).toNat = unsignedAt rx.bytes 6 2 ∧
      (byteAt rx.bytes 0 = 1 ∨ byteAt rx.bytes 0 = 2 ∧ lane = 4) := by
  unfold readLaneFrame
  split
  · rename_i h
    have h' : ¬ (rx.clean = true ∧ rx.bytes.length = 8) := by
      rintro ⟨hc, hn⟩
      simp [hc, hn] at h
    exact ⟨fun hb => absurd rfl hb, fun ⟨hc, hn, _⟩ => absurd ⟨hc, hn⟩ h'⟩
  · split
    · simp_all
    · split
      · simp_all
      · split <;> simp_all

theorem unsignedAt_two (bytes : List Byte) (i : Nat) :
    unsignedAt bytes i 2 = (byteAt bytes i).toNat * 256 + (byteAt bytes (i + 1)).toNat := by
  simp [unsignedAt, bigEndian, List.range_succ]

theorem unsignedAt_three (bytes : List Byte) (i : Nat) :
    unsignedAt bytes i 3 = ((byteAt bytes i).toNat * 256 + (byteAt bytes (i + 1)).toNat) * 256
      + (byteAt bytes (i + 2)).toNat := by
  simp [unsignedAt, bigEndian, List.range_succ]

/-- A frame of six content bytes and their CRC passes the checks, and is read by its kind. -/
theorem readLaneFrame_laneFrameBytes (lane : Lane) (b0 b1 b2 b3 b4 b5 : Byte) :
    readLaneFrame lane { bytes := laneFrameBytes [b0, b1, b2, b3, b4, b5], clean := true } =
      if b0 = 1 then .sample (sampleFields (laneFrameBytes [b0, b1, b2, b3, b4, b5]))
      else if b0 = 2 ∧ lane = 4 then
        .driveStatus (driveFields (laneFrameBytes [b0, b1, b2, b3, b4, b5]))
      else .bad := by
  have hcrc : (crc16 ((laneFrameBytes [b0, b1, b2, b3, b4, b5]).take 6)).toNat =
      unsignedAt (laneFrameBytes [b0, b1, b2, b3, b4, b5]) 6 2 := by
    have htake : (laneFrameBytes [b0, b1, b2, b3, b4, b5]).take 6 = [b0, b1, b2, b3, b4, b5] := rfl
    have hlt := (crc16 [b0, b1, b2, b3, b4, b5]).isLt
    rw [htake, unsignedAt_two]
    simp only [laneFrameBytes, bytesOf, byteAt, List.nil_append, List.cons_append,
      List.getD_eq_getElem?_getD, List.getElem?_cons_succ, List.getElem?_cons_zero,
      Option.getD_some, BitVec.toNat_ofNat]
    omega
  unfold readLaneFrame
  simp only [hcrc, bne_self_eq_false, Bool.false_eq_true, if_false]
  rfl

/-- The bits of the second byte of a SAMPLE frame give back the fields they were set from. -/
theorem sampleFlags_read (fault sat : Bool) (range : Fin 4) (sub : Fin 2) :
    let b : Byte := BitVec.ofNat 8 ((if fault then 128 else 0) + (if sat then 64 else 0)
      + 16 * range.val + sub.val)
    b.getLsbD 7 = fault ∧ b.getLsbD 6 = sat ∧ Fin.ofNat 4 (b.toNat / 16) = range ∧
      Fin.ofNat 2 b.toNat = sub := by
  revert fault sat range sub
  decide

theorem driveFlags_read (ready fault saturated : Bool) :
    let b : Byte := BitVec.ofNat 8 ((if ready then 1 else 0) + (if fault then 2 else 0)
      + (if saturated then 4 else 0))
    b.getLsbD 0 = ready ∧ b.getLsbD 1 = fault ∧ b.getLsbD 2 = saturated := by
  revert ready fault saturated
  decide

/-- A 24-bit value is read back from its three bytes. -/
theorem signedOf_bytes {v : Int} (hlo : -8388608 ≤ v) (hhi : v ≤ 8388607) (bytes : List Byte)
    (i : Nat)
    (h0 : byteAt bytes i = BitVec.ofNat 8 ((BitVec.ofInt 24 v).toNat / 256 / 256))
    (h1 : byteAt bytes (i + 1) = BitVec.ofNat 8 ((BitVec.ofInt 24 v).toNat / 256))
    (h2 : byteAt bytes (i + 2) = BitVec.ofNat 8 (BitVec.ofInt 24 v).toNat) :
    signedOf 24 (unsignedAt bytes i 3) = v := by
  have hlt := (BitVec.ofInt 24 v).isLt
  have hn : unsignedAt bytes i 3 = (BitVec.ofInt 24 v).toNat := by
    rw [unsignedAt_three, h0, h1, h2]
    simp only [BitVec.toNat_ofNat]
    omega
  rw [signedOf, hn, BitVec.ofNat_toNat, BitVec.setWidth_eq, BitVec.toInt_ofInt]
  exact Int.bmod_eq_of_le (by omega) (by omega)

/-- Settles O3. -/
theorem laneFramesReadBack : Obligations.LaneFramesReadBack := by
  intro lane
  refine ⟨readLaneFrame_ne_bad lane, fun f hlo hhi => ?_, fun d => ?_⟩
  · obtain ⟨h7, h6, hr, hs⟩ := sampleFlags_read f.moduleFault f.overrange f.range f.sub
    have hv := signedOf_bytes hlo hhi (sampleFrameBytes f) 2 rfl rfl rfl
    refine (readLaneFrame_laneFrameBytes lane _ _ _ _ _ _).trans ?_
    refine (if_pos (by decide)).trans (congrArg LaneFrame.sample ?_)
    obtain ⟨fault, sat, range, sub, value⟩ := f
    exact SampleFrame.mk.injEq .. ▸ ⟨h7, h6, hr, hs, hv⟩
  · obtain ⟨h0, h1, h2⟩ := driveFlags_read d.ready d.fault d.saturated
    refine (readLaneFrame_laneFrameBytes lane _ _ _ _ _ _).trans ?_
    refine (if_neg (by decide)).trans ?_
    have hd : driveFields (driveFrameBytes d) = d := by
      obtain ⟨ready, fault, saturated⟩ := d
      exact DriveStatus.mk.injEq .. ▸ ⟨h0, h1, h2⟩
    refine if_congr (by simp) (congrArg LaneFrame.driveStatus hd) rfl

end Sys2Proof.Machine
end

section
/-!
SUPPORT. Acts in an open order, one of them followed through; and what every run of an event's
consequences keeps.
-/

namespace Sys2Proof.Machine

/-! ## One act among acts in an open order -/

theorem takeAt_perm {α : Type} : ∀ (xs : List α) (i : Nat) (p : α × List α),
    takeAt xs i = some p → (p.1 :: p.2).Perm xs
  | [], _, _, h => by simp [takeAt] at h
  | x :: xs, 0, p, h => by
    simp only [takeAt, Option.some.injEq] at h
    subst h
    exact .refl _
  | x :: xs, i + 1, p, h => by
    simp only [takeAt, Option.map_eq_some_iff] at h
    obtain ⟨q, hq, rfl⟩ := h
    exact (List.Perm.swap x q.1 q.2).trans ((takeAt_perm xs i q hq).cons x)

theorem arrange_perm {α : Type} : ∀ (fuel k : Nat) (xs : List α), (arrange fuel k xs).Perm xs
  | 0, _, _ => .refl _
  | fuel + 1, k, xs => by
    unfold arrange
    split
    · exact .refl _
    · rename_i x rest heq
      exact ((arrange_perm fuel _ rest).cons x).trans (takeAt_perm xs _ _ heq)

/-- Acts in an open order run one after another, each once. -/
theorem inOpenOrder_perm (acts : List (State → State)) (s : State) : ∃ (l : List (State → State))
    (n : Nat), l.Perm acts ∧
      inOpenOrder acts s = l.foldl (fun t act => act t) { s with choices := n } := by
  unfold inOpenOrder
  split
  · exact ⟨[], s.choices, .refl _, rfl⟩
  · exact ⟨[_], s.choices, .refl _, rfl⟩
  · exact ⟨_, _, arrange_perm _ _ _, rfl⟩

/-- One act of an open order takes `P` to `Q`; the acts before it keep `P`, those after it keep `Q`. -/
theorem inOpenOrder_through {P Q : State → Prop} {l₁ l₂ : List (State → State)}
    {a : State → State} {s : State} (hc : ∀ t n, P t → P { t with choices := n })
    (hP : ∀ act ∈ l₁ ++ l₂, ∀ t, P t → P (act t)) (ha : ∀ t, P t → Q (a t))
    (hQ : ∀ act ∈ l₁ ++ l₂, ∀ t, Q t → Q (act t)) (hs : P s) :
    Q (inOpenOrder (l₁ ++ a :: l₂) s) := by
  obtain ⟨l, n, hperm, heq⟩ := inOpenOrder_perm (l₁ ++ a :: l₂) s
  obtain ⟨m₁, m₂, rfl⟩ := List.append_of_mem (hperm.symm.subset (by simp : a ∈ l₁ ++ a :: l₂))
  have hrest : (m₁ ++ m₂).Perm (l₁ ++ l₂) :=
    (List.perm_middle.symm.trans (hperm.trans List.perm_middle)).cons_inv
  rw [heq, List.foldl_append, List.foldl_cons]
  refine foldl_keeps _ (fun act h => hQ act (hrest.subset (List.mem_append_right _ h))) _ (ha _ ?_)
  exact foldl_keeps _ (fun act h => hP act (hrest.subset (List.mem_append_left _ h))) _ (hc _ _ hs)

/-- An act of an open order brings about `Q`, which all acts keep. -/
theorem inOpenOrder_reaches {P Q : State → Prop} {acts : List (State → State)}
    {a : State → State} {s : State} (hmem : a ∈ acts)
    (hc : ∀ t n, P t → P { t with choices := n })
    (hP : ∀ act ∈ acts, ∀ t, P t → P (act t)) (ha : ∀ t, P t → Q (a t))
    (hQ : ∀ act ∈ acts, ∀ t, Q t → Q (act t)) (hs : P s) : Q (inOpenOrder acts s) := by
  obtain ⟨l₁, l₂, rfl⟩ := List.append_of_mem hmem
  have hsub : ∀ act ∈ l₁ ++ l₂, act ∈ l₁ ++ a :: l₂ := by
    intro act h
    rcases List.mem_append.1 h with h | h
    · exact List.mem_append_left _ h
    · exact List.mem_append_right _ (List.mem_cons_of_mem _ h)
  exact inOpenOrder_through hc (fun act h => hP act (hsub act h)) ha
    (fun act h => hQ act (hsub act h)) hs

/-! ## The stage an event is played on -/

/-- What no consequence of an event changes: the moment, the lanes, ROUTE, the demand timer and the
settings of the stream. -/
structure SameStage (s t : State) : Prop where
  now : t.now = s.now
  lif : t.lif = s.lif
  route : t.rtb.route = s.rtb.route
  timer : t.xhu.demandAt = s.xhu.demandAt
  stream : t.cpt.streamOn = s.cpt.streamOn ∧ t.cpt.decimation = s.cpt.decimation

theorem SameStage.refl (s : State) : SameStage s s := ⟨rfl, rfl, rfl, rfl, rfl, rfl⟩

theorem SameStage.trans {s t u : State} (h : SameStage s t) (h' : SameStage t u) : SameStage s u :=
  ⟨h'.now.trans h.now, h'.lif.trans h.lif, h'.route.trans h.route, h'.timer.trans h.timer,
    h'.stream.1.trans h.stream.1, h'.stream.2.trans h.stream.2⟩

/-- A channel is UP or not on one stage. -/
theorem SameStage.channelUp {s t : State} (h : SameStage s t) (c : Channel) :
    channelUp t c = channelUp s c := by
  simp only [Machine.channelUp, channelUpUnder, laneUp, h.lif, h.route]

theorem Moves.stage {b : Bool} {s t : State} (m : Moves b s t) : SameStage s t := by
  induction m with
  | trans _ _ ih ih' => exact ih.trans ih'
  | quiet e | slipCounted _ _ e | entered _ e | lossArmed _ _ _ e | streamTimed _ _ _ e =>
    simp only [ledger, Ledger.mk.injEq] at e
    constructor <;> simp [e]
  | raised | tareAnswered | lossCleared => constructor <;> simp
  | recorded | tripCounted => exact ⟨rfl, rfl, rfl, rfl, rfl, rfl⟩

/-- The fallback timer and the count toward the next frame. -/
def streamTimes (s : State) : Option Nat × Nat := (s.cpt.fallbackAt, s.cpt.count)

/-- Without a loss or restoration of LOAD the stream's timer and count stay. -/
theorem Moves.streamTimes {s t : State} (m : Moves false s t) : streamTimes t = streamTimes s := by
  generalize hb : false = b at m
  induction m with
  | trans _ _ ih ih' => exact ih'.trans ih
  | quiet e | slipCounted _ _ e | entered _ e =>
    simp only [ledger, Ledger.mk.injEq] at e
    simp [Machine.streamTimes, e]
  | raised | tareAnswered | lossCleared => simp [Machine.streamTimes]
  | recorded | tripCounted => rfl
  | lossArmed ht | streamTimed ht => simp_all

/-! ## A busy link -/

theorem sourceNumber_ne {a b : Source} (h : a ≠ b) : (sourceNumber b).val ≠ (sourceNumber a).val := by
  cases a <;> cases b <;> simp_all [sourceNumber]

/-- On a busy link an occurrence is counted into its own source's record. -/
theorem raise_busy {s : State} {f : OutFrame} (h : s.cpt.link = some f) (src : Source)
    (d : NoticeDetail) : (raise src d s).cpt = s.cpt ∧
      ∀ other : Source, other ≠ src →
        (raise src d s).ntu.records[sourceNumber other] = s.ntu.records[sourceNumber other] := by
  unfold raise
  split
  · exact ⟨rfl, fun _ _ => rfl⟩
  · rw [arbitrate_busy (f := f) (by simpa using h)]
    refine ⟨rfl, fun other ho => ?_⟩
    simp [sourceNumber_ne ho]

/-- On a busy link an occurrence joins the pending record of its source. -/
theorem raise_pending {s : State} {f : OutFrame} (h : s.cpt.link = some f) {src : Source}
    (d : NoticeDetail) (hv : noticeLevel s src ≠ .off) :
    (raise src d s).ntu.records[sourceNumber src] =
      some (countOccurrence d (runClock s) s.ntu.records[sourceNumber src]) := by
  unfold raise
  rw [if_neg hv, arbitrate_busy (f := f) (by simpa using h)]
  simp

/-- On a settled FREE link the notice of an occurrence is in transmission. -/
theorem noticed_free {s : State} {src : Source} (d : NoticeDetail) (hv : noticeLevel s src ≠ .off)
    (hl : s.cpt.link = none) : noticed src d s = { s with cpt := { s.cpt with
      link := some (.notice
        { source := src, level := noticeLevel s src, detail := d, count := 1
          time := BitVec.ofNat 32 s.now }) } } := by
  have ht : (runClock s).setWidth 32 = BitVec.ofNat 32 s.now := by simp [runClock]
  unfold noticed
  rw [hl, ht]
  cases h : noticeLevel s src with
  | off => exact absurd h hv
  | one | two | three => rfl

/-- The frame in transmission goes on, and no LANE occurrence is counted. -/
theorem Moves.busy {b : Bool} {s t : State} (m : Moves b s t) {f : OutFrame}
    (h : s.cpt.link = some f) : t.cpt.link = some f ∧
      t.ntu.records[sourceNumber .lane] = s.ntu.records[sourceNumber .lane] := by
  induction m with
  | trans _ _ ih ih' =>
    obtain ⟨hl, hn⟩ := ih h
    obtain ⟨hl', hn'⟩ := ih' hl
    exact ⟨hl', hn'.trans hn⟩
  | quiet e | slipCounted _ _ e | entered _ e | lossArmed _ _ _ e | streamTimed _ _ _ e =>
    simp only [ledger, Ledger.mk.injEq] at e
    simp [e, h]
  | raised src d s hs =>
    obtain ⟨hc, hn⟩ := raise_busy h src d
    exact ⟨by rw [hc, h], hn .lane hs.symm⟩
  | tareAnswered =>
    unfold answerTare joinReply
    rw [arbitrate_busy (f := f) (by simpa using h)]
    exact ⟨h, rfl⟩
  | recorded | tripCounted => exact ⟨h, rfl⟩
  | lossCleared => simp [h]

/-! ## LOAD-LOST -/

/-- LOAD-LOST is CLEAR and its timer stopped. -/
def LossClear (s : State) : Prop := condition s .loadLost = .clear ∧ s.pru.loadLossAt = none

theorem clearLoadLost_lossClear (s : State) : LossClear (clearLoadLost s) := by
  simp [LossClear, clearLoadLost, condition]

theorem Moves.lossClear {s t : State} (m : Moves false s t) (h : LossClear s) : LossClear t := by
  generalize hb : false = b at m
  have same : ∀ {u v : State}, condition v .loadLost = condition u .loadLost →
      v.pru.loadLossAt = u.pru.loadLossAt → LossClear u → LossClear v := by
    intro u v hc ht hu
    exact ⟨hc.trans hu.1, ht.trans hu.2⟩
  induction m with
  | trans _ _ ih ih' => exact ih' (ih h)
  | quiet e | slipCounted _ _ e | entered _ e =>
    simp only [ledger, Ledger.mk.injEq] at e
    exact same (by simp [e]) (by simp [e]) h
  | raised | tareAnswered => exact same (by simp [condition]) (by simp) h
  | recorded | tripCounted => exact h
  | lossCleared s => exact clearLoadLost_lossClear s
  | lossArmed ht | streamTimed ht => simp_all

end Sys2Proof.Machine
end

section
/-!
SUPPORT. An accepted frame: what it does to its lane and the link, and what its owner's work leaves
alone.
-/

namespace Sys2Proof.Machine

/-! ## The stream on a force update (R161, R165) -/

/-- The count toward the next measurement frame after one more force update with LOAD UP (R161). -/
def countNext (s : State) : Nat :=
  if s.cpt.streamOn = true ∧ s.cpt.count + 1 < s.cpt.decimation then s.cpt.count + 1
  else if s.cpt.streamOn then 0 else s.cpt.count

section streamForce

variable (s : State)

/-- Every block but the CPT stays on a force update the stream takes. -/
theorem streamForce_keeps : (streamForce s).now = s.now ∧ (streamForce s).sent = s.sent ∧
    (streamForce s).lif = s.lif ∧ (streamForce s).rtb.route = s.rtb.route ∧
    (streamForce s).lch = s.lch ∧ (streamForce s).xhu = s.xhu ∧ (streamForce s).exh = s.exh ∧
    (streamForce s).tsq = s.tsq ∧ (streamForce s).evu = s.evu ∧ (streamForce s).pru = s.pru ∧
    (streamForce s).oln = s.oln ∧ (streamForce s).tst = s.tst ∧
    (streamForce s).cpt.streamOn = s.cpt.streamOn ∧
    (streamForce s).cpt.decimation = s.cpt.decimation ∧
    (streamForce s).cpt.fallbackAt = s.cpt.fallbackAt := by
  unfold streamForce
  dsimp only
  split
  · split <;> simp
  · simp

theorem streamForce_stage : SameStage s (streamForce s) := by
  have h := streamForce_keeps s
  constructor <;> simp [h]

theorem streamForce_busy {f : OutFrame} (h : s.cpt.link = some f) :
    (streamForce s).cpt.link = some f ∧
      (streamForce s).ntu.records[sourceNumber .lane] = s.ntu.records[sourceNumber .lane] := by
  have hdue : ∀ t : State, t.cpt.link = some f → t.ntu = s.ntu →
      (makeDue t).cpt.link = some f ∧
        (makeDue t).ntu.records[sourceNumber .lane] = s.ntu.records[sourceNumber .lane] := by
    intro t ht hn
    unfold makeDue
    split
    · exact ⟨ht, by simp [hn]⟩
    · rw [arbitrate_busy (f := f) (by simpa using ht)]
      exact ⟨ht, by simp [hn]⟩
  unfold streamForce
  extract_lets _ t
  split
  · split
    · exact hdue _ h rfl
    · exact ⟨h, rfl⟩
  · exact ⟨h, rfl⟩

theorem streamForce_lossClear (h : LossClear s) : LossClear (streamForce s) := by
  simpa [LossClear, condition, streamForce_keeps s] using h

theorem streamForce_count (h : channelUp s .load = true) :
    (streamForce s).cpt.count = countNext s := by
  have hup : ∀ x, channelUp (s.setCpt x) .load = true := fun _ => h
  unfold streamForce countNext
  simp only [hup, State.setCpt_cpt, Bool.and_true]
  cases hs : s.cpt.streamOn with
  | false => simp
  | true =>
    by_cases hd : s.cpt.count + 1 < s.cpt.decimation
    · simp [hd, Nat.not_le.2 hd]
    · simp [hd, Nat.not_lt.1 hd]

end streamForce

/-! ## The owner's work on a frame -/

/-- What the work of an owner on a frame of a lane leaves alone: the moment and the demand timer, the
lanes but for the unmapped count of the frame's own, the frame in transmission with the pending LANE
record, LOAD-LOST's CLEAR state and the fallback timer. -/
structure OwnerWork (lane : Lane) (s t : State) : Prop where
  now : t.now = s.now
  timer : t.xhu.demandAt = s.xhu.demandAt
  own : ∃ n, t.lif.lanes[lane] = { s.lif.lanes[lane] with unmapped := n }
  others : ∀ other : Lane, other ≠ lane → t.lif.lanes[other] = s.lif.lanes[other]
  busy : ∀ f, s.cpt.link = some f → t.cpt.link = some f ∧
    t.ntu.records[sourceNumber .lane] = s.ntu.records[sourceNumber .lane]
  lost : LossClear s → LossClear t
  fallback : t.cpt.fallbackAt = s.cpt.fallbackAt

theorem OwnerWork.trans {lane : Lane} {s t u : State} (h : OwnerWork lane s t)
    (h' : OwnerWork lane t u) : OwnerWork lane s u where
  now := h'.now.trans h.now
  timer := h'.timer.trans h.timer
  own := by
    obtain ⟨n, hn⟩ := h.own
    obtain ⟨m, hm⟩ := h'.own
    exact ⟨m, by rw [hm, hn]⟩
  others := fun other ho => (h'.others other ho).trans (h.others other ho)
  busy := fun f hf =>
    ⟨(h'.busy f (h.busy f hf).1).1, (h'.busy f (h.busy f hf).1).2.trans (h.busy f hf).2⟩
  lost := fun hl => h'.lost (h.lost hl)
  fallback := h'.fallback.trans h.fallback

theorem Moves.ownerWork {s t : State} (m : Moves false s t) (lane : Lane) : OwnerWork lane s t where
  now := m.stage.now
  timer := m.stage.timer
  own := ⟨_, by rw [m.stage.lif]⟩
  others := fun _ _ => by rw [m.stage.lif]
  busy := fun _ hf => m.busy hf
  lost := m.lossClear
  fallback := congrArg Prod.fst m.streamTimes

theorem streamForce_ownerWork (lane : Lane) (s : State) : OwnerWork lane s (streamForce s) where
  now := (streamForce_stage s).now
  timer := (streamForce_stage s).timer
  own := ⟨_, by rw [(streamForce_stage s).lif]⟩
  others := fun _ _ => by rw [(streamForce_stage s).lif]
  busy := fun _ hf => streamForce_busy s hf
  lost := streamForce_lossClear s
  fallback := by simp [streamForce_keeps s]

theorem countUnmapped_ownerWork (lane : Lane) (s : State) : OwnerWork lane s (countUnmapped lane s) where
  now := rfl
  timer := rfl
  own := ⟨countUp s.lif.lanes[lane].unmapped, by simp [countUnmapped, setLane]⟩
  others := by
    intro other ho
    have : lane.val ≠ other.val := fun h => ho (Fin.ext h.symm)
    simp [countUnmapped, setLane, this]
  busy := fun _ hf => ⟨hf, rfl⟩
  lost := id
  fallback := rfl

/-- The acts of a force update, but for the stream's. -/
theorem forceActs_moves {before : Bool} {g : Fin 4} {act : State → State}
    (h : act ∈ [protectForce, evuForce, sequencerForce, exhForce] ++ [loadWork before g])
    (t : State) : Moves false t (act t) := by
  simp only [List.mem_cons, List.not_mem_nil, or_false, List.cons_append, List.nil_append] at h
  obtain rfl | rfl | rfl | rfl | rfl := h
  · exact protectForce_moves t
  · exact evuForce_moves t
  · exact sequencerForce_moves t
  · exact exhForce_moves t
  · exact loadWork_moves t _ _

theorem loadSample_prepared {b : Bool} (f : SampleFrame) (s : State) :
    Moves b s (convertSample f (receiveRange f.range s)) :=
  (receiveRange_moves s f.range).trans (convertSample_moves _ f)

theorem loadSample_ownerWork (lane : Lane) (f : SampleFrame) (s : State) :
    OwnerWork lane s (loadSample f s) := by
  have hchoice : ∀ t n, OwnerWork lane s t → OwnerWork lane s { t with choices := n } :=
    fun t n h => h.trans ((choices_moves t n).ownerWork lane)
  refine inOpenOrder_through (P := OwnerWork lane s) (Q := OwnerWork lane s)
    (l₁ := [protectForce, evuForce, sequencerForce, exhForce]) (a := streamForce) (l₂ := [_])
    hchoice (fun act ha t ht => ht.trans ((forceActs_moves ha t).ownerWork lane))
    (fun t ht => ht.trans (streamForce_ownerWork lane t))
    (fun act ha t ht => ht.trans ((forceActs_moves ha t).ownerWork lane)) ?_
  exact (loadSample_prepared f s).ownerWork lane

/-- A LOAD sample on a lane that is UP is counted toward the next frame once (R161). -/
theorem loadSample_count (f : SampleFrame) (s : State) (hup : channelUp s .load = true) :
    (loadSample f s).cpt.count = countNext s := by
  have hnext : ∀ t : State, SameStage s t → streamTimes t = streamTimes s →
      countNext t = countNext s := by
    intro t ht hs
    have hcount : t.cpt.count = s.cpt.count := congrArg Prod.snd hs
    simp only [countNext, hcount, ht.stream]
  refine inOpenOrder_through (P := fun t => SameStage s t ∧ streamTimes t = streamTimes s)
    (Q := fun t => t.cpt.count = countNext s)
    (l₁ := [protectForce, evuForce, sequencerForce, exhForce]) (a := streamForce) (l₂ := [_])
    (fun t n ⟨ht, hs⟩ => ⟨ht.trans (choices_moves (b := false) t n).stage, hs⟩)
    (fun act ha t ⟨ht, hs⟩ => ?_) (fun t ⟨ht, hs⟩ => ?_) (fun act ha t ht => ?_) ?_
  · have m := forceActs_moves ha t
    exact ⟨ht.trans m.stage, m.streamTimes.trans hs⟩
  · rw [streamForce_count t (by rw [ht.channelUp, hup]), hnext t ht hs]
  · exact (congrArg Prod.snd (forceActs_moves ha t).streamTimes).trans ht
  · have m : Moves false s (convertSample f (receiveRange f.range s)) := loadSample_prepared f s
    exact ⟨m.stage, m.streamTimes⟩

theorem deliver_ownerWork (lane : Lane) (c : Channel) (f : SampleFrame) (s : State) :
    OwnerWork lane s (deliver lane c f s) := by
  cases c with
  | load => exact loadSample_ownerWork lane f s
  | xhead => exact (positionSample_moves s f).ownerWork lane
  | extA => exact (armSample_moves s false f).ownerWork lane
  | extB => exact (armSample_moves s true f).ownerWork lane
  | unused => exact countUnmapped_ownerWork lane s

theorem deliver_count (lane : Lane) {c : Channel} (hc : c ≠ .load) (f : SampleFrame) (s : State) :
    (deliver lane c f s).cpt.count = s.cpt.count := by
  cases c with
  | load => exact absurd rfl hc
  | xhead => exact congrArg Prod.snd (positionSample_moves s f).streamTimes
  | extA => exact congrArg Prod.snd (armSample_moves s false f).streamTimes
  | extB => exact congrArg Prod.snd (armSample_moves s true f).streamTimes
  | unused => rfl

theorem withTap_ownerWork (lane : Lane) (k : Fin 10) (v : Int) (s : State) :
    OwnerWork lane s (withTap k v s) := by
  unfold withTap
  split
  · exact ⟨rfl, rfl, ⟨_, rfl⟩, fun _ _ => rfl, fun _ h => ⟨h, rfl⟩, id, rfl⟩
  · exact ⟨rfl, rfl, ⟨_, rfl⟩, fun _ _ => rfl, fun _ h => ⟨h, rfl⟩, id, rfl⟩

/-- The channel of the entry a SAMPLE frame arrives for. -/
def frameChannel (lane : Lane) (f : SampleFrame) (s : State) : Option Channel :=
  s.rtb.route.map fun route => route[routeKey lane f.sub].channel

/-- A steered sample is counted as unmapped, or delivered. -/
theorem steer_eq (lane : Lane) (f : SampleFrame) (s : State) : steer lane f s =
    match frameChannel lane f s with
    | none => countUnmapped lane s
    | some c => deliver lane c f (withTap (routeKey lane f.sub) f.value s) := by
  cases hr : s.rtb.route with
  | none => simp [steer, frameChannel, hr]
  | some route =>
    rw [steer_mapped hr rfl]
    simp [frameChannel, hr]

theorem steer_ownerWork (lane : Lane) (f : SampleFrame) (s : State) :
    OwnerWork lane s (steer lane f s) := by
  rw [steer_eq]
  split
  · exact countUnmapped_ownerWork lane s
  · exact (withTap_ownerWork lane _ _ s).trans (deliver_ownerWork lane _ f _)

theorem steer_count (lane : Lane) (f : SampleFrame) (s : State)
    (hup : channelUp s .load = true) : (steer lane f s).cpt.count =
      if frameChannel lane f s = some .load then countNext s else s.cpt.count := by
  have htap : ∀ t : State, t = withTap (routeKey lane f.sub) f.value s →
      channelUp t .load = true ∧ countNext t = countNext s ∧ t.cpt.count = s.cpt.count := by
    rintro t rfl
    unfold withTap
    split <;> exact ⟨hup, rfl, rfl⟩
  obtain ⟨htup, htnext, htcount⟩ := htap _ rfl
  rw [steer_eq]
  split
  · simp [*]
    rfl
  · rename_i c hc
    by_cases hl : c = .load
    · subst hl
      rw [if_pos hc]
      exact (loadSample_count f _ htup).trans htnext
    · rw [if_neg (by simp [hc, hl]), deliver_count lane hl, htcount]

/-! ## A lane comes UP (R4, R5, R10, R11) -/

theorem mem_channelsOn {lane : Lane} {s : State} {c : Channel} :
    c ∈ channelsOn s lane ↔ c ∈ ownedChannels ∧ (entryOf s.rtb.route c).map keyLane = some lane := by
  simp [channelsOn]

/-- The lane's record, its LANE occurrence and the demand timer, before its channels are restored. -/
def laneRaised (lane : Lane) (s : State) : State :=
  startDemandTimer lane (raise .lane (.lane lane true)
    (setLane lane { s.lif.lanes[lane] with status := .up, silence := some (s.now + 1000) } s))

theorem bringUp_eq (lane : Lane) (s : State) : bringUp lane s =
    inOpenOrder ((channelsOn (laneRaised lane s) lane).map channelRestored) (laneRaised lane s) := rfl

theorem laneRaised_keeps (lane : Lane) (s : State) : (laneRaised lane s).now = s.now ∧
    (laneRaised lane s).lif.lanes = s.lif.lanes.set lane
      { s.lif.lanes[lane] with status := .up, silence := some (s.now + 1000) } ∧
    (laneRaised lane s).rtb.route = s.rtb.route ∧ (laneRaised lane s).pru = s.pru ∧
    (laneRaised lane s).cpt.fallbackAt = s.cpt.fallbackAt ∧
    (laneRaised lane s).cpt.streamOn = s.cpt.streamOn ∧
    (laneRaised lane s).cpt.decimation = s.cpt.decimation ∧
    (laneRaised lane s).xhu.demandAt =
      if lane = 4 ∧ s.xhu.demandAt = none then some (s.now + 250) else s.xhu.demandAt := by
  unfold laneRaised startDemandTimer
  split <;> simp_all [setLane]

theorem startDemandTimer_link (lane : Lane) (s : State) :
    (startDemandTimer lane s).cpt = s.cpt ∧ (startDemandTimer lane s).ntu = s.ntu := by
  unfold startDemandTimer
  split <;> exact ⟨rfl, rfl⟩

/-- On a settled FREE link the LANE notice is in transmission. -/
theorem laneRaised_sending {lane : Lane} {s : State} (h : Settled s)
    (hv : noticeLevel s .lane ≠ .off) (hl : s.cpt.link = none) : (laneRaised lane s).cpt.link =
      some (.notice
        { source := .lane, level := noticeLevel s .lane, detail := .lane lane true, count := 1
          time := BitVec.ofNat 32 s.now }) := by
  unfold laneRaised
  rw [(startDemandTimer_link _ _).1, raise_settled (by exact h),
    noticed_free _ (by exact hv) (by exact hl)]
  rfl

/-- On a busy link the frame in transmission goes on, and the LANE occurrence is counted into its pending
record. -/
theorem laneRaised_busy {lane : Lane} {s : State} {f : OutFrame} (h : s.cpt.link = some f) :
    (laneRaised lane s).cpt.link = some f ∧ (noticeLevel s .lane ≠ .off →
      (laneRaised lane s).ntu.records[sourceNumber .lane] = some
        (countOccurrence (.lane lane true) (BitVec.ofNat 48 s.now)
          s.ntu.records[sourceNumber .lane])) := by
  unfold laneRaised
  rw [(startDemandTimer_link _ _).1, (startDemandTimer_link _ _).2]
  refine ⟨?_, fun hv => raise_pending (f := f) (by exact h) _ (by exact hv)⟩
  rw [(raise_busy (f := f) (by exact h) _ _).1]
  exact h

/-- LOAD-LOST judged with LOAD UP is CLEAR, but while PROTSET is BLANK (R133, R139). -/
theorem judgeLoadLost_up (s : State) : judgeLoadLost true s =
    match s.pru.protset with
    | none => s
    | some _ => clearLoadLost s := by
  unfold judgeLoadLost
  cases s.pru.protset <;> simp [loadLostHolds]

/-- What a restoration of LOAD brings about under a PROTSET (R11, R139, R161, R162). -/
def Restored (protset : Option ProtSet) (t : State) : Prop :=
  t.pru.protset = protset ∧ t.cpt.fallbackAt = none ∧ t.cpt.count = 0 ∧
    ∀ p : ProtSet, protset = some p → LossClear t

theorem restoreLoad_restored {protset : Option ProtSet} {t : State} (h : t.pru.protset = protset) :
    Restored protset (restoreLoad t) := by
  subst h
  unfold restoreLoad
  rw [judgeLoadLost_up, State.setCpt_pru]
  cases hp : t.pru.protset with
  | none => exact ⟨hp, rfl, rfl, fun p hp => absurd hp (by simp)⟩
  | some p => exact ⟨hp, rfl, rfl, fun _ _ => clearLoadLost_lossClear _⟩

/-- The restorations of a lane's channels, in any order, restore LOAD where it is among them. -/
theorem restorations_restored {acts : List Channel} (h : Channel.load ∈ acts) (s : State) :
    Restored s.pru.protset (inOpenOrder (acts.map channelRestored) s) := by
  refine inOpenOrder_reaches (P := fun t => t.pru.protset = s.pru.protset)
    (List.mem_map.2 ⟨_, h, rfl⟩) (fun _ _ h => h) (fun act ha t ht => ?_)
    (fun t ht => restoreLoad_restored ht) (fun act ha t ht => ?_) rfl
  all_goals
    obtain ⟨c, -, rfl⟩ := List.mem_map.1 ha
    cases c with
    | load => ?_
    | xhead | extA | extB | unused => exact ht
  · exact (restoreLoad_restored ht).1
  · exact restoreLoad_restored ht.1

/-- Without LOAD among them the restorations do nothing. -/
theorem restorations_streamTimes {acts : List Channel} (h : Channel.load ∉ acts) (s : State) :
    streamTimes (inOpenOrder (acts.map channelRestored) s) = streamTimes s := by
  refine inOpenOrder_eq streamTimes _ _ (fun _ _ => rfl) fun act ha t => ?_
  obtain ⟨c, hc, rfl⟩ := List.mem_map.1 ha
  cases c with
  | load => exact absurd hc h
  | xhead | extA | extB | unused => rfl

/-- A lane that comes UP does what `CameUp` says. -/
theorem bringUp_cameUp (lane : Lane) (s : State) : CameUp lane 0 s (bringUp lane s) := by
  obtain ⟨hnow, hlanes, hroute, hpru, hfall, -, -, htimer⟩ := laneRaised_keeps lane s
  have hmoves : ∀ act ∈ (channelsOn (laneRaised lane s) lane).map channelRestored, ∀ t,
      Moves true t (act t) := by
    intro act ha t
    obtain ⟨c, -, rfl⟩ := List.mem_map.1 ha
    exact channelRestored_moves t c
  have m : Moves true (laneRaised lane s) (bringUp lane s) := inOpenOrder_moves _ _ hmoves
  rw [bringUp_eq] at m ⊢
  have hnow' := m.stage.now.trans hnow
  constructor
  · intro hs hv hl
    rw [hnow', (m.busy (laneRaised_sending hs hv hl)).1]
  · intro hv hl
    obtain ⟨f, hf⟩ := Option.isSome_iff_exists.1 hl
    obtain ⟨hb, hrec⟩ := laneRaised_busy (lane := lane) hf
    rw [hnow', (m.busy hb).2, hrec hv]
  · rw [m.stage.timer, hnow', htimer]
  · intro hc
    have hload : Channel.load ∈ channelsOn (laneRaised lane s) lane :=
      mem_channelsOn.2 ⟨by decide, by rw [hroute]; exact hc⟩
    have hr := restorations_restored hload (laneRaised lane s)
    rw [hpru] at hr
    exact hr.2
  · intro hc
    have hload : Channel.load ∉ channelsOn (laneRaised lane s) lane :=
      fun h => hc (by rw [← hroute]; exact (mem_channelsOn.1 h).2)
    exact (congrArg Prod.fst (restorations_streamTimes hload _)).trans hfall

theorem bringUp_keeps (lane : Lane) (s : State) : (bringUp lane s).now = s.now ∧
    (bringUp lane s).lif.lanes = s.lif.lanes.set lane
      { s.lif.lanes[lane] with status := .up, silence := some (s.now + 1000) } ∧
    (bringUp lane s).rtb.route = s.rtb.route ∧
    (bringUp lane s).cpt.streamOn = s.cpt.streamOn ∧
    (bringUp lane s).cpt.decimation = s.cpt.decimation := by
  obtain ⟨hnow, hlanes, hroute, -, -, hon, hdec, -⟩ := laneRaised_keeps lane s
  have m : SameStage (laneRaised lane s) (bringUp lane s) := by
    refine (inOpenOrder_moves (b := true) _ _ fun act ha t => ?_).stage
    obtain ⟨c, -, rfl⟩ := List.mem_map.1 ha
    exact channelRestored_moves t c
  exact ⟨m.now.trans hnow, (congrArg Lif.lanes m.lif).trans hlanes, m.route.trans hroute,
    m.stream.1.trans hon, m.stream.2.trans hdec⟩

theorem bringUp_busy (lane : Lane) {s : State} {f : OutFrame} (h : s.cpt.link = some f) :
    (bringUp lane s).cpt.link = some f := by
  have m : Moves true (laneRaised lane s) (bringUp lane s) := by
    refine inOpenOrder_moves _ _ fun act ha t => ?_
    obtain ⟨c, -, rfl⟩ := List.mem_map.1 ha
    exact channelRestored_moves t c
  exact (m.busy (laneRaised_busy h).1).1

/-- What the work of an owner adds to a lane that has come UP. -/
theorem CameUp.work {lane : Lane} {s u t : State} {n : Nat} (h : CameUp lane 0 s u)
    (hb : ∀ f, s.cpt.link = some f → u.cpt.link = some f) (w : OwnerWork lane u t)
    (hn : (entryOf s.rtb.route .load).map keyLane = some lane → t.cpt.count = n) :
    CameUp lane n s t where
  sending := by
    intro hs hv hl
    have hu := h.sending hs hv hl
    rw [w.now, (w.busy _ hu).1]
  pending := by
    intro hv hl
    obtain ⟨f, hf⟩ := Option.isSome_iff_exists.1 hl
    rw [w.now, (w.busy f (hb f hf)).2, h.pending hv hl]
  timer := by rw [w.timer, w.now, h.timer]
  restored := by
    intro hc
    obtain ⟨hf, -, hl⟩ := h.restored hc
    exact ⟨w.fallback.trans hf, hn hc, fun p hp => w.lost (hl p hp)⟩
  elsewhere := fun hc => w.fallback.trans (h.elsewhere hc)

/-- The owner of an accepted frame finds its lane UP with a fresh silence timer (R3, R4). -/
theorem acceptFrame_keeps (dt : Nat) (lane : Lane) (s : State) :
    (acceptFrame lane (elapse dt s)).now = s.now + dt ∧
    (acceptFrame lane (elapse dt s)).lif.lanes = s.lif.lanes.set lane
      { s.lif.lanes[lane] with status := .up, silence := some (s.now + dt + 1000) } ∧
    (s.lif.lanes[lane].status ≠ .up →
      acceptFrame lane (elapse dt s) = bringUp lane (elapse dt s)) := by
  by_cases hup : s.lif.lanes[lane].status = .up
  · rw [acceptFrame_up dt hup]
    exact ⟨rfl, by simp only [heard, withLane, ← hup]; rfl, fun h => absurd hup h⟩
  · have hb : acceptFrame lane (elapse dt s) = bringUp lane (elapse dt s) := by
      unfold acceptFrame
      split
      · exact absurd ‹_› hup
      · rfl
      · rfl
    obtain ⟨hnow, hlanes, -⟩ := bringUp_keeps lane (elapse dt s)
    rw [hb]
    exact ⟨hnow, hlanes, fun _ => rfl⟩

/-- The count of a sample that brings its lane UP, from the count of 0 a restoration of LOAD leaves. -/
theorem steer_count_restored {lane : Lane} {f : SampleFrame} {s u : State}
    (hroute : u.rtb.route = s.rtb.route) (hcarried : (entryOf s.rtb.route .load).map keyLane = some lane)
    (hup : u.lif.lanes[lane].status = .up) (hcount : u.cpt.count = 0)
    (hon : u.cpt.streamOn = s.cpt.streamOn) (hdec : u.cpt.decimation = s.cpt.decimation) :
    (steer lane f u).cpt.count =
      if s.cpt.streamOn = true ∧ 1 < s.cpt.decimation ∧
        s.rtb.route.map (fun route => route[routeKey lane f.sub].channel) = some .load then 1
      else 0 := by
  have hload : channelUp u .load = true := by
    rw [← hroute] at hcarried
    obtain ⟨k, hk, hl⟩ := Option.map_eq_some_iff.1 hcarried
    simp only [channelUp, channelUpUnder, hk, laneUp, hl, hup, decide_true]
  rw [steer_count lane f u hload]
  simp only [frameChannel, hroute, countNext, hcount, hon, hdec]
  generalize s.rtb.route.map (fun route => route[routeKey lane f.sub].channel) = c
  by_cases hc : c = some .load <;> simp [hc]

theorem CameUp.of_elapse {lane : Lane} {dt n : Nat} {s t : State}
    (h : CameUp lane n (elapse dt s) t) : CameUp lane n s t :=
  ⟨h.sending, h.pending, h.timer, h.restored, h.elsewhere⟩

/-- Settles O8: the lane comes UP first, and its owner's work leaves that alone. -/
theorem acceptedFrameRaisesLane : Obligations.AcceptedFrameRaisesLane := by
  intro dt lane rx s
  obtain ⟨hnow, hlanes, hbring⟩ := acceptFrame_keeps dt lane s
  have hown : (acceptFrame lane (elapse dt s)).lif.lanes[lane] = { s.lif.lanes[lane] with
      status := .up, silence := some (s.now + dt + 1000) } := by simp [hlanes]
  have hothers : ∀ other : Lane, other ≠ lane →
      (acceptFrame lane (elapse dt s)).lif.lanes[other] = s.lif.lanes[other] := by
    intro other ho
    have : lane.val ≠ other.val := fun h => ho (Fin.ext h.symm)
    simp [hlanes, this]
  have hcame : s.lif.lanes[lane].status ≠ .up →
      CameUp lane 0 (elapse dt s) (acceptFrame lane (elapse dt s)) ∧
      ∀ f, s.cpt.link = some f → (acceptFrame lane (elapse dt s)).cpt.link = some f := by
    intro h
    rw [hbring h]
    exact ⟨bringUp_cameUp lane _, fun f hf => bringUp_busy lane (s := elapse dt s) hf⟩
  constructor
  · intro f hf hm
    have hr : receive lane (readLaneFrame lane rx) (elapse dt s) =
        steer lane f (acceptFrame lane (elapse dt s)) := by
      rw [hf]
      simp [receive, hm]
    have w := steer_ownerWork lane f (acceptFrame lane (elapse dt s))
    obtain ⟨n, hn⟩ := w.own
    rw [hown] at hn
    refine ⟨_, congrArg Host.Outcome.next hr, w.now.trans hnow, ?_, ?_, ?_, ?_, ?_, ?_⟩
    · rw [hn]
    · rw [hn]
    · rw [hn]
    · rw [hn]
    · exact fun other ho => (w.others other ho).trans (hothers other ho)
    · intro h
      obtain ⟨hc, hb⟩ := hcame h
      refine CameUp.of_elapse (hc.work hb w fun hcarried => ?_)
      obtain ⟨-, -, hroute, hon, hdec⟩ := bringUp_keeps lane (elapse dt s)
      rw [← hbring h] at hroute hon hdec
      exact steer_count_restored hroute hcarried (by rw [hown]) (hc.restored hcarried).2.1 hon hdec
  · intro d hd
    have hr : receive lane (readLaneFrame lane rx) (elapse dt s) =
        takeDriveStatus d (acceptFrame lane (elapse dt s)) := by
      rw [hd]
      rfl
    have m : Moves false _ _ := takeDriveStatus_moves (acceptFrame lane (elapse dt s)) d
    refine ⟨_, congrArg Host.Outcome.next hr, m.stage.now.trans hnow, ?_, ?_, ?_⟩
    · rw [m.stage.lif, hown]
    · intro other ho
      rw [m.stage.lif, hothers other ho]
    · intro h
      obtain ⟨hc, hb⟩ := hcame h
      exact CameUp.of_elapse (hc.work hb (m.ownerWork lane) fun hcarried =>
        (congrArg Prod.snd m.streamTimes).trans (hc.restored hcarried).2.1)

end Sys2Proof.Machine
end

section
/-!
SUPPORT. Requests to the conditioner (R33) and the ranging of a LOAD sample (R35 to R38).
-/

namespace Sys2Proof.Machine

/-! ## Requests (R33) -/

theorem sendRequest_eq (s : State) : sendRequest s =
    { s with sent := s.sent ++ (s.lch.requested.map fun g => requestFrames g s).getD [] } := by
  unfold sendRequest requestFrames
  cases s.lch.requested with
  | none => simp
  | some h =>
    cases entryOf s.rtb.route .load with
    | none => simp
    | some k => rfl

theorem makeRequest_eq (h : Fin 4) (s : State) : makeRequest h s = { s with
    lch := { s.lch with
      requested := some h, awaiting := true, repeatAt := some (s.now + 10000), dwell := none }
    sent := s.sent ++ requestFrames h s } := by
  rw [makeRequest, sendRequest_eq]
  rfl

theorem repeatRequest_eq (s : State) : repeatRequest s = { s with
    lch := { s.lch with repeatAt := some (s.now + 10000) }
    sent := s.sent ++ (s.lch.requested.map fun g => requestFrames g s).getD [] } := by
  rw [repeatRequest, sendRequest_eq]
  rfl

/-- A sample of range `g` finds the repeat timer of a request for another range stopped (R33). -/
abbrev Renewed (g : Fin 4) (s : State) : Prop :=
  s.lch.requested.isSome = true ∧ s.lch.requested ≠ some g ∧ s.lch.repeatAt = none

/-- The repeat timer after a sample of range `g`, before the ranging. -/
def repeatAfter (g : Fin 4) (s : State) : Option Nat :=
  if Renewed g s then some (s.now + 10000)
  else if s.lch.requested = some g then none else s.lch.repeatAt

/-- The frames a sample of range `g` has sent again. -/
def framesRenewed (g : Fin 4) (s : State) : List (Lane × LaneOut) :=
  if Renewed g s then (s.lch.requested.map fun h => requestFrames h s).getD [] else []

theorem matchRequest_eq (g : Fin 4) (s : State) : matchRequest g s = { s with
    lch := { s.lch with repeatAt := repeatAfter g s }, sent := s.sent ++ framesRenewed g s } := by
  have same : ∀ r : Option Nat, s.lch.repeatAt = r →
      s = { s with lch := { s.lch with repeatAt := r }, sent := s.sent ++ [] } := by
    rintro _ rfl
    rw [List.append_nil]
  unfold matchRequest
  split
  · rename_i hr
    have hn : ¬ Renewed g s := by simp [Renewed, hr]
    rw [repeatAfter, framesRenewed, if_neg hn, if_neg hn, if_neg (by simp [hr])]
    exact same _ rfl
  · rename_i h hr
    by_cases hg : h = g
    · have hn : ¬ Renewed g s := by simp [Renewed, hr, hg]
      rw [repeatAfter, framesRenewed, if_neg hn, if_neg hn, if_pos hg, if_pos (by rw [hr, hg]),
        List.append_nil]
      rfl
    · rw [if_neg hg]
      by_cases ht : s.lch.repeatAt = none
      · have hn : Renewed g s := by simp [Renewed, hr, hg, ht]
        rw [repeatAfter, framesRenewed, if_pos hn, if_pos hn, if_pos (by simp [ht]), repeatRequest_eq]
      · have hn : ¬ Renewed g s := by simp [Renewed, ht]
        rw [repeatAfter, framesRenewed, if_neg hn, if_neg hn, if_neg (by simp [ht]),
          if_neg (by simpa [hr] using hg)]
        exact same _ rfl

/-! ## Ranging (R35 to R38) -/

/-- The range a sample of range `g` makes the ranging request. -/
def rangeWanted (outstanding : Bool) (g : Fin 4) (s : State) : Option (Fin 4) :=
  match (loadSettings s).mode with
  | .fixed _ => none
  | .auto =>
    match s.lch.last.quality with
    | .overrange | .noCal =>
      if s.lch.requested.isSome = true ∧ s.lch.requested ≠ coarsestValid s ∧
        saturatedCoarsest s = false then coarsestValid s else none
    | .stale => none
    | .good | .beyondCal =>
      if s.lch.requested.isSome = true ∧ outstanding = false then
        upSwitchTo s.lch.last.gross g s
      else none

/-- The dwell timer after a sample of range `g` that makes no request. -/
def dwellLeft (outstanding : Bool) (g : Fin 4) (s : State) : Option Dwell :=
  match (loadSettings s).mode with
  | .fixed _ => none
  | .auto =>
    match s.lch.last.quality with
    | .overrange | .noCal => none
    | .stale => s.lch.dwell
    | .good | .beyondCal =>
      if outstanding = true then none else dwellAfter s.lch.last.gross g s.now s

/-- The part with another dwell timer. -/
def withDwell (d : Option Dwell) (s : State) : State := s.setLch { s.lch with dwell := d }

theorem withDwell_self {d : Option Dwell} {s : State} (h : s.lch.dwell = d) : withDwell d s = s := by
  subst h
  rfl

theorem makeRequest_withDwell (h : Fin 4) (d : Option Dwell) (s : State) :
    makeRequest h (withDwell d s) = makeRequest h s := rfl

theorem dwellSample_eq (outstanding : Bool) (g : Fin 4) (s : State) :
    dwellSample (loadSettings s) outstanding g s = withDwell
      (if outstanding = true then none else dwellAfter s.lch.last.gross g s.now s) s := by
  unfold dwellSample qualifies dwellAfter
  cases outstanding with
  | true => cases finerScale s g <;> rfl
  | false =>
    cases finerScale s g with
    | none => rfl
    | some fs =>
      generalize (s.lch.last.gross.natAbs : Int) * 10000 = force
      by_cases hq : force ≤ (loadSettings s).down * fs
      · cases hd : s.lch.dwell with
        | none =>
          simp only [hq, decide_true, Bool.not_false, Bool.and_self, if_true]
          rfl
        | some d =>
          by_cases hg : d.range = g
          · simp [hq, hg, withDwell_self hd]
          · simp [hq, hg, withDwell]
      · simp [hq, withDwell]

theorem requestCoarsest_eq (s : State) : requestCoarsest s =
    match (if s.lch.requested ≠ coarsestValid s ∧ saturatedCoarsest s = false then
        coarsestValid s else none) with
    | some h => makeRequest h s
    | none => withDwell none s := by
  unfold requestCoarsest
  cases hc : coarsestValid s with
  | none => simp [withDwell]
  | some h =>
    by_cases hr : s.lch.requested = some h
    · simp [hr, withDwell]
    · cases hs : saturatedCoarsest s <;> simp [hr, withDwell]

/-- The ranging makes one request, or leaves the request and settles the dwell timer. -/
theorem rangeSample_eq (outstanding : Bool) (g : Fin 4) (s : State) :
    rangeSample outstanding g s =
      match rangeWanted outstanding g s with
      | some h => makeRequest h s
      | none => withDwell (dwellLeft outstanding g s) s := by
  unfold rangeSample rangeWanted dwellLeft
  simp only [dwellSample_eq, requestCoarsest_eq]
  cases (loadSettings s).mode with
  | fixed _ => rfl
  | auto =>
    have usable : (match s.lch.cal[g], finestCoarser s g with
        | some table, some h =>
          if s.lch.requested.isSome && !outstanding &&
              upSwitch (loadSettings s) table s.lch.last.gross then
            makeRequest h (withDwell (if outstanding = true then none
              else dwellAfter s.lch.last.gross g s.now s) s)
          else withDwell (if outstanding = true then none
              else dwellAfter s.lch.last.gross g s.now s) s
        | _, _ => withDwell (if outstanding = true then none
              else dwellAfter s.lch.last.gross g s.now s) s) =
        match (if s.lch.requested.isSome = true ∧ outstanding = false then
          upSwitchTo s.lch.last.gross g s else none) with
        | some h => makeRequest h s
        | none => withDwell (if outstanding = true then none
              else dwellAfter s.lch.last.gross g s.now s) s := by
      unfold upSwitchTo upSwitch
      cases s.lch.requested.isSome <;> cases outstanding <;> cases s.lch.cal[g] <;>
        cases finestCoarser s g <;> simp [makeRequest_withDwell]
      split <;> simp
    cases s.lch.last.quality with
    | good | beyondCal => exact usable
    | stale => rfl
    | overrange | noCal =>
      cases s.lch.requested.isSome <;> simp [withDwell]

/-! ## What the ranging reads and moves -/

/-- The state with everything put to a fixed value that the ranging neither reads nor moves. -/
def rangingView (s : State) : State :=
  { State.reset with
    now := s.now
    sent := s.sent
    rtb := { State.reset.rtb with route := s.rtb.route }
    lch := { s.lch with stress := none, tare := 0, tareJob := none } }

theorem rangingView_of_backbone {s t : State} (h : backbone t = backbone s) :
    rangingView t = rangingView s := by
  have hview : ∀ u : State, rangingView u = rangingView (backbone u) := fun _ => rfl
  rw [hview, h, ← hview]

theorem rangingView_matchRequest (g : Fin 4) (s : State) :
    rangingView (matchRequest g s) = matchRequest g (rangingView s) := by
  rw [matchRequest_eq, matchRequest_eq]
  rfl

theorem rangingView_rangeSample (outstanding : Bool) (g : Fin 4) (s : State) :
    rangingView (rangeSample outstanding g s) = rangeSample outstanding g (rangingView s) := by
  rw [rangeSample_eq, rangeSample_eq]
  have hw : rangeWanted outstanding g (rangingView s) = rangeWanted outstanding g s := rfl
  rw [hw]
  cases rangeWanted outstanding g s with
  | none => rfl
  | some h =>
    dsimp only
    rw [makeRequest_eq, makeRequest_eq]
    rfl

theorem rangingView_answerTare (tag : Byte) (code : ReplyCode) (d : Option Detail)
    (p : Option Payload) (s : State) : rangingView (answerTare tag code d p s) = rangingView s := by
  simp [rangingView]

theorem rangingView_tareSample (s : State) : rangingView (tareSample s) = rangingView s := by
  have hfail : ∀ c, rangingView (failTare c s) = rangingView s := by
    intro c
    unfold failTare
    split
    · rfl
    · exact rangingView_answerTare _ _ _ _ _
  have hadd : ∀ job, rangingView (addToTare job s) = rangingView s := by
    intro job
    unfold addToTare
    dsimp only
    split
    · rfl
    · exact rangingView_answerTare _ _ _ _ _
  unfold tareSample
  split
  · rfl
  · split
    · exact hadd _
    · exact hadd _
    · exact hfail _
    · exact hfail _
    · rfl

/-- Whether the sample is judged with a request outstanding: as after it, or, where it ends one, either
way (assumption 4). -/
def JudgedAs (before after outstanding : Bool) : Prop :=
  outstanding = after ∨ before = true ∧ after = false

theorem rangingView_loadWork (before : Bool) (g : Fin 4) (s : State) :
    ∃ outstanding, JudgedAs before (requestOutstanding s) outstanding ∧
      rangingView (loadWork before g s) =
        rangeSample outstanding g (matchRequest g (rangingView s)) := by
  have hview : rangingView (tareSample (matchRequest g s)) = matchRequest g (rangingView s) :=
    (rangingView_tareSample _).trans (rangingView_matchRequest g s)
  unfold loadWork
  dsimp only
  split
  · rename_i h
    refine ⟨decide ((openChoice 2 (tareSample (matchRequest g s))).1 = 0),
      .inr (by simpa using h), ?_⟩
    rw [rangingView_rangeSample]
    exact congrArg _ hview
  · exact ⟨_, .inl rfl, by rw [rangingView_rangeSample, hview]⟩

/-- The part once a LOAD sample has been converted, before any block takes the force update. -/
abbrev converted (f : SampleFrame) (s : State) : State :=
  convertSample f (receiveRange f.range s)

/-- A force update ranges the converted sample, in whatever order the blocks take it. -/
theorem rangingView_loadSample (f : SampleFrame) (s : State) : ∃ outstanding,
    JudgedAs (requestOutstanding s) (requestOutstanding (converted f s)) outstanding ∧
      rangingView (loadSample f s) =
        rangeSample outstanding f.range (matchRequest f.range (rangingView (converted f s))) := by
  have others : ∀ act ∈ [protectForce, evuForce, sequencerForce, exhForce, streamForce] ++ [],
      ∀ t, rangingView (act t) = rangingView t := by
    intro act h t
    simp only [List.append_nil, List.mem_cons, List.not_mem_nil, or_false] at h
    obtain rfl | rfl | rfl | rfl | rfl := h
    · exact rangingView_of_backbone (protectForce_backbone t)
    · exact rangingView_of_backbone (evuForce_backbone t)
    · exact rangingView_of_backbone (sequencerForce_backbone t)
    · exact rangingView_of_backbone (exhForce_backbone t)
    · simp [rangingView, streamForce_keeps t]
  refine inOpenOrder_through
    (P := fun t => rangingView t = rangingView (converted f s))
    (Q := fun t => ∃ outstanding,
      JudgedAs (requestOutstanding s) (requestOutstanding (converted f s)) outstanding ∧
      rangingView t =
        rangeSample outstanding f.range (matchRequest f.range (rangingView (converted f s))))
    (l₁ := [protectForce, evuForce, sequencerForce, exhForce, streamForce]) (l₂ := [])
    (fun _ _ h => h) (fun act h t ht => (others act h t).trans ht) (fun t ht => ?_)
    (fun act h t ht => ?_) rfl
  · obtain ⟨o, ho, heq⟩ := rangingView_loadWork (requestOutstanding s) f.range t
    have hout : requestOutstanding t = requestOutstanding (converted f s) :=
      congrArg requestOutstanding (a₁ := rangingView t) (a₂ := rangingView (converted f s)) ht
    exact ⟨o, hout ▸ ho, by rw [heq, ht]⟩
  · obtain ⟨o, ho, heq⟩ := ht
    exact ⟨o, ho, (others act h t).trans heq⟩

/-- The part as the ranging of a LOAD sample `dt` later finds it. -/
def sampled (dt : Nat) (f : SampleFrame) (s : State) : State :=
  { later dt s with lch := { s.lch with
      received := some f.range, awaiting := false, last := convertForce s f } }

theorem rangingView_converted (dt : Nat) (lane : Lane) (k : Fin 10) (v : Int) (f : SampleFrame)
    (s : State) : rangingView (converted f (withTap k v (heard dt lane s))) =
      rangingView (sampled dt f s) := by
  have hrange : ∀ u : State, backbone (receiveRange f.range u) =
      backbone (u.setLch { u.lch with received := some f.range, awaiting := false }) := by
    intro u
    unfold receiveRange
    dsimp only
    split
    · rfl
    · split
      · rfl
      · exact raise_backbone _ _ _
  have hconvert : ∀ u v : State, backbone u = backbone v →
      rangingView (convertSample f u) = rangingView (convertSample f v) := by
    intro u v h
    have hforce : ∀ x : State, convertForce x f = convertForce (backbone x) f := fun _ => rfl
    have hview : ∀ x : State, rangingView (convertSample f x) =
        rangingView ((backbone x).setLch
          { (backbone x).lch with last := convertForce (backbone x) f }) := fun _ => rfl
    rw [hview, h, ← hview]
  rw [hconvert _ _ (hrange _)]
  unfold withTap
  split <;> rfl

/-! ## The ranging of a sample, in one step -/

theorem rangeSample_matchRequest (outstanding : Bool) (g : Fin 4) (w : State) :
    rangeSample outstanding g (matchRequest g w) =
      match rangeWanted outstanding g w with
      | some h => { w with
          lch := { w.lch with
            requested := some h, awaiting := true, repeatAt := some (w.now + 10000), dwell := none }
          sent := w.sent ++ framesRenewed g w ++ requestFrames h w }
      | none => { w with
          lch := { w.lch with
            repeatAt := repeatAfter g w, dwell := dwellLeft outstanding g w }
          sent := w.sent ++ framesRenewed g w } := by
  rw [rangeSample_eq, matchRequest_eq]
  have hw : rangeWanted outstanding g { w with
      lch := { w.lch with repeatAt := repeatAfter g w }, sent := w.sent ++ framesRenewed g w } =
      rangeWanted outstanding g w := rfl
  rw [hw]
  cases rangeWanted outstanding g w with
  | none => rfl
  | some h =>
    dsimp only
    rw [makeRequest_eq]
    rfl

theorem finestCoarser_lt {s : State} {g h : Fin 4} (hc : finestCoarser s g = some h) :
    h.val < g.val := by
  have := List.mem_filter.1 (List.mem_of_getLast? hc)
  simp at this
  omega

theorem upSwitchTo_lt {force : Int} {g h : Fin 4} {s : State} (hu : upSwitchTo force g s = some h) :
    h.val < g.val := by
  unfold upSwitchTo at hu
  split at hu
  · split at hu
    · rename_i hc _
      cases hu
      exact finestCoarser_lt hc
    · cases hu
  · cases hu

section judged

variable {before outstanding : Bool} {g : Fin 4} {w : State}
  (hreceived : w.lch.received = some g) (hawaiting : w.lch.awaiting = false)

include hreceived hawaiting in
/-- After a sample of range `g` a request is outstanding exactly when it is for another range. -/
theorem requestOutstanding_received : requestOutstanding w = true ↔
    w.lch.requested.isSome = true ∧ w.lch.requested ≠ some g := by
  unfold requestOutstanding
  cases w.lch.requested with
  | none => simp
  | some h =>
    rw [hreceived, hawaiting]
    by_cases hg : g = h
    · simp [hg]
    · simp [hg, Ne.symm hg]

include hreceived hawaiting in
/-- The ranging requests a range other than the requested one. -/
theorem rangeWanted_ne (hj : JudgedAs before (requestOutstanding w) outstanding) {h : Fin 4}
    (hw : rangeWanted outstanding g w = some h) : some h ≠ w.lch.requested := by
  have hout := requestOutstanding_received hreceived hawaiting
  have usable : (if w.lch.requested.isSome = true ∧ outstanding = false then
      upSwitchTo w.lch.last.gross g w else none) = some h → some h ≠ w.lch.requested := by
    intro hu
    split at hu
    · rename_i ho
      have hshown : w.lch.requested = some g := by
        by_contra hne
        have := hout.2 ⟨ho.1, hne⟩
        simp [JudgedAs, this, ho.2] at hj
      have hlt := upSwitchTo_lt hu
      rw [hshown]
      intro heq
      cases heq
      exact absurd hlt (lt_irrefl _)
    · cases hu
  have coarsest : (if w.lch.requested.isSome = true ∧ w.lch.requested ≠ coarsestValid w ∧
      saturatedCoarsest w = false then coarsestValid w else none) = some h →
      some h ≠ w.lch.requested := by
    intro hc
    split at hc
    · rename_i hr
      rw [← hc]
      exact hr.2.1.symm
    · cases hc
  unfold rangeWanted at hw
  split at hw
  · cases hw
  · split at hw
    · exact coarsest hw
    · exact coarsest hw
    · cases hw
    · exact usable hw
    · exact usable hw

end judged

/-- What O20 says of the ranging of a sample of range `g`. -/
structure RangedBy (g : Fin 4) (s t : State) : Prop where
  received : t.lch.received = some g
  ranged : Ranged g s t
  awaiting : t.lch.awaiting = true ↔ t.lch.requested ≠ s.lch.requested
  repeatAt : t.lch.repeatAt =
    if t.lch.requested ≠ s.lch.requested ∨ Renewed g s then some (t.now + 10000)
    else if s.lch.requested = some g then none else s.lch.repeatAt
  sent : t.sent = framesRenewed g s ++
    if t.lch.requested ≠ s.lch.requested then
      (t.lch.requested.map fun h => requestFrames h s).getD [] else []

/-- The requested range and the dwell timer after the ranging of a sample. -/
theorem rangeSample_outcome (outstanding : Bool) (g : Fin 4) (w : State) :
    (rangeSample outstanding g (matchRequest g w)).now = w.now ∧
    (rangeSample outstanding g (matchRequest g w)).lch.last = w.lch.last ∧
    (rangeSample outstanding g (matchRequest g w)).lch.requested =
      (rangeWanted outstanding g w).or w.lch.requested ∧
    (rangeSample outstanding g (matchRequest g w)).lch.dwell =
      if (rangeWanted outstanding g w).isSome then none else dwellLeft outstanding g w := by
  rw [rangeSample_matchRequest]
  cases rangeWanted outstanding g w <;> exact ⟨rfl, rfl, rfl, rfl⟩

theorem convertForce_quality (f : SampleFrame) (s : State) :
    (convertForce s f).range = some f.range ∧ (convertForce s f).quality ≠ .stale := by
  unfold convertForce
  split
  · exact ⟨rfl, by simp⟩
  · refine ⟨rfl, ?_⟩
    simp only [qualityOf]
    split
    · simp
    · split <;> simp

theorem saturatedCoarsest_sampled (dt : Nat) (f : SampleFrame) (s : State) :
    saturatedCoarsest (sampled dt f s) = true ↔
      (convertForce s f).quality = .overrange ∧ coarsestValid s = some f.range := by
  have hr := (convertForce_quality f s).1
  have hl : (sampled dt f s).lch.last = convertForce s f := rfl
  have hc : coarsestValid (sampled dt f s) = coarsestValid s := rfl
  simp only [saturatedCoarsest, hl, hc, hr, Option.isSome_some, Bool.and_true, Bool.and_eq_true,
    decide_eq_true_eq]
  exact and_congr_right fun _ => eq_comm

/-- The request of R37, where the sample does not saturate the coarsest range. -/
theorem coarsest_wanted (req coarsest : Option (Fin 4)) (saturated : Bool) :
    (if req.isSome = true ∧ req ≠ coarsest ∧ saturated = false then coarsest else none).or req =
      if saturated = true then req
      else if req.isSome = true ∧ coarsest.isSome = true then coarsest else req := by
  cases saturated with
  | true => simp
  | false =>
    cases req with
    | none => simp
    | some r =>
      cases coarsest with
      | none => simp
      | some c => by_cases h : r = c <;> simp [h]

/-- The ranging requests what `Ranged` says. -/
theorem rangeSample_ranged {dt : Nat} {f : SampleFrame} {s : State} {outstanding : Bool}
    (hj : JudgedAs (requestOutstanding s) (requestOutstanding (sampled dt f s)) outstanding) :
    Ranged f.range s
      (rangeSample outstanding f.range (matchRequest f.range (sampled dt f s))) := by
  obtain ⟨hnow, hlast, hreq, hdwell⟩ := rangeSample_outcome outstanding f.range (sampled dt f s)
  have hout := requestOutstanding_received (w := sampled dt f s) (g := f.range) rfl rfl
  have hsat := saturatedCoarsest_sampled dt f s
  have hstale := (convertForce_quality f s).2
  have hmode : loadSettings (sampled dt f s) = loadSettings s := rfl
  have hup : upSwitchTo (convertForce s f).gross f.range (sampled dt f s) =
    upSwitchTo (convertForce s f).gross f.range s := rfl
  have hcoarsest : coarsestValid (sampled dt f s) = coarsestValid s := rfl
  have hafter : dwellAfter (convertForce s f).gross f.range (sampled dt f s).now (sampled dt f s) =
    dwellAfter (convertForce s f).gross f.range (sampled dt f s).now s := rfl
  have hforce : (sampled dt f s).lch.last = convertForce s f := rfl
  have hrequested : (sampled dt f s).lch.requested = s.lch.requested := rfl
  unfold Ranged
  simp only [hnow, hlast, hreq, hdwell, rangeWanted, dwellLeft, hmode, hup, hcoarsest, hafter,
    hforce, hrequested] at hout ⊢
  cases (loadSettings s).mode with
  | fixed _ => exact ⟨rfl, rfl⟩
  | auto =>
    have hne : ∀ q, (convertForce s f).quality = q → q ≠ .overrange →
        saturatedCoarsest (sampled dt f s) = false := by
      intro q hq hne
      rw [← Bool.not_eq_true, hsat, hq]
      exact fun h => hne h.1
    clear hnow hlast hreq hdwell hmode hup hcoarsest hafter hforce hrequested
    generalize requestOutstanding (sampled dt f s) = out at hj hout
    generalize dwellAfter (convertForce s f).gross f.range (sampled dt f s).now s = after
    generalize s.lch.requested = req at hout ⊢
    generalize requestOutstanding s = before at hj ⊢
    cases hq : (convertForce s f).quality with
    | stale => exact absurd hq hstale
    | overrange =>
      simp only [hq, true_and] at hsat
      simp [coarsest_wanted, hsat]
    | noCal =>
      dsimp only
      rw [hne _ hq (by simp), coarsest_wanted]
      simp
    | good | beyondCal =>
      generalize upSwitchTo (convertForce s f).gross f.range s = up
      cases outstanding with
      | true =>
        obtain h | ⟨hb, -⟩ := hj <;> simp_all
      | false =>
        have hfree : out = false := hj.elim Eq.symm And.right
        cases req <;> cases up <;> simp_all

theorem rangeSample_rangedBy {dt : Nat} {f : SampleFrame} {s : State} {outstanding : Bool}
    (hj : JudgedAs (requestOutstanding s) (requestOutstanding (sampled dt f s)) outstanding) :
    RangedBy f.range s
      (rangeSample outstanding f.range (matchRequest f.range (sampled dt f s))) := by
  have hranged := rangeSample_ranged hj
  have hne := fun h => rangeWanted_ne (w := sampled dt f s) (g := f.range) rfl rfl hj (h := h)
  rw [rangeSample_matchRequest] at hranged ⊢
  cases hw : rangeWanted outstanding f.range (sampled dt f s) with
  | none =>
    rw [hw] at hranged
    refine ⟨rfl, hranged, ?_, ?_, ?_⟩
    · simp [sampled]
    · rw [if_congr (or_iff_right fun hne => hne rfl) rfl rfl]
      rfl
    · rw [if_neg fun hne => hne rfl, List.append_nil]
      rfl
  | some h =>
    rw [hw] at hranged
    have hmade := hne h hw
    refine ⟨rfl, hranged, ?_, ?_, ?_⟩
    · exact ⟨fun _ => hmade, fun _ => rfl⟩
    · exact (if_pos (.inl hmade)).symm
    · rw [if_pos (by exact hmade)]
      rfl

/-- A LOAD sample on an UP lane is ranged, whatever the other blocks do. -/
theorem loadSample_rangedBy (dt : Nat) (lane : Lane) (k : Fin 10) (v : Int) (f : SampleFrame)
    (s : State) : RangedBy f.range s
      (loadSample f (withTap k v (heard dt lane s))) := by
  obtain ⟨o, ho, heq⟩ := rangingView_loadSample f (withTap k v (heard dt lane s))
  have hview := rangingView_converted dt lane k v f s
  have hbefore : requestOutstanding (withTap k v (heard dt lane s)) = requestOutstanding s := by
    unfold withTap
    split <;> rfl
  have hafter : requestOutstanding (converted f (withTap k v (heard dt lane s))) =
      requestOutstanding (sampled dt f s) :=
    congrArg requestOutstanding (a₁ := rangingView (converted f _))
      (a₂ := rangingView (sampled dt f s)) hview
  rw [hbefore, hafter] at ho
  have hseq : rangingView (loadSample f (withTap k v (heard dt lane s))) =
      rangingView (rangeSample o f.range (matchRequest f.range (sampled dt f s))) := by
    rw [rangingView_rangeSample, rangingView_matchRequest, heq, hview]
  have transfer : ∀ t u : State, rangingView t = rangingView u →
      RangedBy f.range s u →
      RangedBy f.range s t := by
    intro t u h r
    have r' : RangedBy f.range s (rangingView u) :=
      ⟨r.received, r.ranged, r.awaiting, r.repeatAt, r.sent⟩
    rw [← h] at r'
    exact ⟨r'.received, r'.ranged, r'.awaiting, r'.repeatAt, r'.sent⟩
  exact transfer _ _ hseq (rangeSample_rangedBy ho)

theorem repeatTimer_resends {deadline : Nat} {s : State} (h : s.lch.repeatAt = some deadline) :
    exec .repeatTimerExpiry s = .next
      { atExpiry deadline s with
        lch := { s.lch with repeatAt := some (max s.now deadline + 10000) }
        sent :=
          match s.lch.requested with
          | some g => requestFrames g s
          | none => [] } := by
  have he : exec .repeatTimerExpiry s = .next (repeatRequest (reach deadline s)) := by
    simp only [exec, execRepeatTimerExpiry, h]
  rw [he, repeatRequest_eq, reach_eq]
  cases hr : s.lch.requested with
  | none => simp [atExpiry, hr]
  | some g =>
    simp [atExpiry, hr]
    rfl

/-- The dwell timer requests the next finer range of a range it requests at all. -/
theorem dwellTimer_requests {d : Dwell} {s : State} (hd : s.lch.dwell = some d) :
    (∀ h : d.range.val + 1 < 4, s.lch.requested.isSome = true →
      exec .dwellTimerExpiry s = .next
        { atExpiry d.deadline s with
          lch := { s.lch with
            requested := some ⟨d.range.val + 1, h⟩
            awaiting := true
            repeatAt := some (max s.now d.deadline + 10000)
            dwell := none }
          sent := requestFrames ⟨d.range.val + 1, h⟩ s }) ∧
    (¬ (d.range.val + 1 < 4 ∧ s.lch.requested.isSome = true) →
      exec .dwellTimerExpiry s = .next
        { atExpiry d.deadline s with lch := { s.lch with dwell := none } }) := by
  have he : exec .dwellTimerExpiry s = execDwellTimerExpiry s := rfl
  rw [he]
  unfold execDwellTimerExpiry
  rw [hd]
  refine ⟨fun h hr => ?_, fun h => ?_⟩
  · dsimp only
    rw [dif_pos h, if_pos (by exact hr), makeRequest_eq]
    rfl
  · by_cases hf : d.range.val + 1 < 4
    · have hr : ¬ s.lch.requested.isSome = true := fun hr => h ⟨hf, hr⟩
      dsimp only
      rw [dif_pos hf, if_neg (by exact hr)]
      rfl
    · dsimp only
      rw [dif_neg hf]
      rfl

/-- A steered sample goes to the owner of its channel (R2, R4, R12, R13). -/
theorem exec_sample_steered {dt : Nat} {lane : Lane} {rx : Reception} {f : SampleFrame} {c : Channel}
    {s : State} (h : Steered lane rx f c s) : exec (.sample dt lane rx) s =
      .next (deliver lane c f (withTap (routeKey lane f.sub) f.value (heard dt lane s))) := by
  obtain ⟨hread, hsound, hup, hmapped⟩ := h
  obtain ⟨route, hr, hc⟩ := Option.map_eq_some_iff.1 hmapped
  have he : exec (.sample dt lane rx) s =
      .next (receive lane (readLaneFrame lane rx) (elapse dt s)) := rfl
  have hs : receive lane (.sample f) (elapse dt s) =
      steer lane f (acceptFrame lane (elapse dt s)) := by simp [receive, hsound]
  rw [he, hread, hs, acceptFrame_up dt hup, steer_mapped (s := heard dt lane s) hr hc]

/-- Settles O20: the requests are made in one step each, and the blocks that share a force update with
the ranging touch nothing it reads. -/
theorem rangeTimersRequest : Obligations.RangeTimersRequest := by
  refine ⟨fun deadline s h => repeatTimer_resends h, fun d s hd => dwellTimer_requests hd, ?_⟩
  intro dt lane rx f s hsteered
  obtain ⟨hreceived, hranged, hawaiting, hrepeat, hsent⟩ :=
    loadSample_rangedBy dt lane (routeKey lane f.sub) f.value f s
  exact ⟨_, exec_sample_steered hsteered, hreceived, hranged, hawaiting, hrepeat, hsent⟩

end Sys2Proof.Machine
end

section
/-!
SUPPORT. The loss of a channel at its owner (R11, R26, R43, R70, R79): what each loss does, and what it
leaves to the others.
-/

namespace Sys2Proof.Machine

/-! ## What no loss of a channel touches -/

/-- What no loss and no restoration of a channel touches. -/
def calm (s : State) : Nat × (Option Int × Option Int) × (Int × Option Int × Bool) × Int × Oln × Tst ×
    Tables × Option Session :=
  (s.now, (s.exh.zeroA, s.exh.zeroB), (s.xhu.pos, s.xhu.demand, s.xhu.lastEnable), s.lch.tare, s.oln,
    s.tst, workingCopies s, s.cpt.session)

theorem calm_of_backbone {s t : State} (h : backbone t = backbone s) : calm t = calm s := by
  have hview : ∀ u : State, calm u = calm (backbone u) := fun _ => rfl
  rw [hview, h, ← hview]

/-- The force, the tare in progress and the dwell timer. -/
def ofLoad (s : State) : LastForce × Option TareJob × Option Dwell :=
  (s.lch.last, s.lch.tareJob, s.lch.dwell)

theorem ofLoad_of_backbone {s t : State} (h : backbone t = backbone s) : ofLoad t = ofLoad s := by
  have hview : ∀ u : State, ofLoad u = ofLoad (backbone u) := fun _ => rfl
  rw [hview, h, ← hview]

/-- Those of a lost LOAD (R26). -/
def staledLoad (s : State) : LastForce × Option TareJob × Option Dwell :=
  ({ s.lch.last with quality := .stale }, none, none)

/-- Position quality and the drive status. -/
def ofCrosshead (s : State) : Bool × DriveStatus :=
  (s.xhu.good, s.xhu.drive)

theorem ofCrosshead_of_backbone {s t : State} (h : backbone t = backbone s) :
    ofCrosshead t = ofCrosshead s := by
  have hview : ∀ u : State, ofCrosshead u = ofCrosshead (backbone u) := fun _ => rfl
  rw [hview, h, ← hview]

/-- Whether a test runs, and its record. -/
def testRecord (s : State) : Bool × Option Specimen :=
  (inTest s, if inTest s then s.tsq.specimen else none)

theorem testRecord_of_tsq {s t : State} (h : t.tsq = s.tsq) : testRecord t = testRecord s := by
  have hin : inTest t = inTest s := by simp only [inTest, h]
  simp only [testRecord, hin, h]

/-- What the loss of a channel but an arm leaves alone. -/
def sparedArms (s : State) : Exh × (Bool × Option Specimen) × Int :=
  (s.exh, testRecord s, s.xhu.strain)

theorem sparedArms_of_parts {s t : State} (hexh : t.exh = s.exh) (htsq : t.tsq = s.tsq)
    (hstrain : t.xhu.strain = s.xhu.strain) : sparedArms t = sparedArms s := by
  simp only [sparedArms, hexh, testRecord_of_tsq htsq, hstrain]

section acts

variable (s : State)

/-! ### Trips -/

theorem sequencerTrip_testRecord (c : TripClass) :
    testRecord (sequencerTrip c s) = testRecord s := by
  have hstate : ∀ (n : SeqState) (x : TestCause) (u : State), (changeState n x u).tsq.state = n := by
    intro n x u
    simp [changeState, enterState]
  unfold sequencerTrip
  split <;> simp [testRecord, inTest, *]

theorem trip_testRecord (c : TripClass) : testRecord (trip c s) = testRecord s := by
  unfold trip
  split
  · rfl
  · have hseq := sequencerTrip_testRecord (c := c) (raise .trip (.tripped c)
      (enterHold (s.setPru { s.pru with latch := s.pru.latch.set (tripNumber c) true })))
    have hraise : testRecord (raise .trip (.tripped c)
        (enterHold (s.setPru { s.pru with latch := s.pru.latch.set (tripNumber c) true }))) =
        testRecord s := testRecord_of_tsq (by simp)
    exact hseq.trans hraise

theorem spend_spared (c : TripClass) : sparedArms (spend c s) = sparedArms s := by
  have h : testRecord (spend c s) = testRecord s :=
    (trip_testRecord _ c).trans (testRecord_of_tsq (by simp))
  simp [sparedArms, h]

theorem spend_calm (c : TripClass) : calm (spend c s) = calm s :=
  calm_of_backbone (spend_backbone s c)

/-! ### LOAD -/

theorem loadStale_effect : calm (loadStale s) = calm s ∧ sparedArms (loadStale s) = sparedArms s ∧
    ofCrosshead (loadStale s) = ofCrosshead s ∧ ofLoad (loadStale s) = staledLoad s := by
  have hjob : (loadStale s).lch.tareJob = none := by
    unfold loadStale failTare
    split <;> simp_all
  refine ⟨?_, sparedArms_of_parts ?_ ?_ ?_, ?_, ?_⟩
  · simp [loadStale, calm, workingCopies]
  · simp [loadStale]
  · simp [loadStale]
  · simp [loadStale]
  · simp [loadStale, ofCrosshead]
  · simp only [ofLoad, hjob]
    simp [loadStale, staledLoad]

theorem judgeLoadLost_spared (up : Bool) : sparedArms (judgeLoadLost up s) = sparedArms s := by
  have hclear : sparedArms (clearLoadLost s) = sparedArms s :=
    sparedArms_of_parts (by simp) (by simp) (by simp)
  unfold judgeLoadLost
  split
  · rfl
  · split
    · split
      · split
        · exact spend_spared s _
        · rfl
      · rfl
    · exact hclear

/-- What a step of a loss of LOAD leaves alone but LOAD's own. -/
theorem judgeLoadLost_all (up : Bool) : calm (judgeLoadLost up s) = calm s ∧
    sparedArms (judgeLoadLost up s) = sparedArms s ∧
    ofCrosshead (judgeLoadLost up s) = ofCrosshead s ∧ ofLoad (judgeLoadLost up s) = ofLoad s :=
  ⟨calm_of_backbone (judgeLoadLost_backbone s up), judgeLoadLost_spared s up,
    ofCrosshead_of_backbone (judgeLoadLost_backbone s up),
    ofLoad_of_backbone (judgeLoadLost_backbone s up)⟩

theorem protectLoadLost_all : calm (protectLoadLost s) = calm s ∧
    sparedArms (protectLoadLost s) = sparedArms s ∧
    ofCrosshead (protectLoadLost s) = ofCrosshead s ∧ ofLoad (protectLoadLost s) = ofLoad s :=
  judgeLoadLost_all (clearForceConditions s) false

theorem startFallback_all : calm (startFallback s) = calm s ∧
    sparedArms (startFallback s) = sparedArms s ∧
    ofCrosshead (startFallback s) = ofCrosshead s ∧ ofLoad (startFallback s) = ofLoad s := by
  unfold startFallback
  split <;> exact ⟨rfl, rfl, rfl, rfl⟩

theorem restoreLoad_all : calm (restoreLoad s) = calm s ∧
    sparedArms (restoreLoad s) = sparedArms s ∧
    ofCrosshead (restoreLoad s) = ofCrosshead s ∧ ofLoad (restoreLoad s) = ofLoad s :=
  judgeLoadLost_all (s.setCpt { s.cpt with fallbackAt := none, count := 0 }) true

theorem raise_all (src : Source) (d : NoticeDetail) : calm (raise src d s) = calm s ∧
    sparedArms (raise src d s) = sparedArms s ∧ ofCrosshead (raise src d s) = ofCrosshead s ∧
    ofLoad (raise src d s) = ofLoad s :=
  ⟨calm_of_backbone (raise_backbone s src d), sparedArms_of_parts (by simp) (by simp) (by simp),
    ofCrosshead_of_backbone (raise_backbone s src d), ofLoad_of_backbone (raise_backbone s src d)⟩

theorem loseLoad_effect : calm (loseLoad s) = calm s ∧ sparedArms (loseLoad s) = sparedArms s ∧
    ofCrosshead (loseLoad s) = ofCrosshead s ∧ ofLoad (loseLoad s) = staledLoad s := by
  have each : ∀ act ∈ [loadStale, protectLoadLost, startFallback], ∀ t,
      calm (act t) = calm t ∧ sparedArms (act t) = sparedArms t ∧
        ofCrosshead (act t) = ofCrosshead t := by
    intro act h t
    simp only [List.mem_cons, List.not_mem_nil, or_false] at h
    obtain rfl | rfl | rfl := h
    · obtain ⟨hc, ha, hx, -⟩ := loadStale_effect t
      exact ⟨hc, ha, hx⟩
    · obtain ⟨hc, ha, hx, -⟩ := protectLoadLost_all t
      exact ⟨hc, ha, hx⟩
    · obtain ⟨hc, ha, hx, -⟩ := startFallback_all t
      exact ⟨hc, ha, hx⟩
  refine ⟨inOpenOrder_eq calm _ s (fun _ _ => rfl) fun act h t => (each act h t).1,
    inOpenOrder_eq sparedArms _ s (fun _ _ => rfl) fun act h t => (each act h t).2.1,
    inOpenOrder_eq ofCrosshead _ s (fun _ _ => rfl) fun act h t => (each act h t).2.2, ?_⟩
  have others : ∀ act ∈ [] ++ [protectLoadLost, startFallback], ∀ t, ofLoad (act t) = ofLoad t := by
    intro act h t
    simp only [List.nil_append, List.mem_cons, List.not_mem_nil, or_false] at h
    obtain rfl | rfl := h
    · exact (protectLoadLost_all t).2.2.2
    · exact (startFallback_all t).2.2.2
  refine inOpenOrder_through (P := fun t => ofLoad t = ofLoad s)
    (Q := fun t => ofLoad t = staledLoad s) (l₁ := []) (a := loadStale)
    (l₂ := [protectLoadLost, startFallback]) (fun _ _ h => h)
    (fun act h t ht => (others act h t).trans ht) (fun t ht => ?_)
    (fun act h t ht => (others act h t).trans ht) rfl
  have hlast : t.lch.last = s.lch.last := congrArg Prod.fst ht
  rw [(loadStale_effect t).2.2.2, staledLoad, hlast, staledLoad]

/-! ### The position and the drive -/

theorem losePosition_effect : calm (losePosition s) = calm s ∧
    sparedArms (losePosition s) = sparedArms s ∧
    ofCrosshead (losePosition s) = (false, s.xhu.drive) ∧ ofLoad (losePosition s) = ofLoad s := by
  unfold losePosition
  split
  · dsimp only
    split
    · refine ⟨(spend_calm _ _).trans rfl, (spend_spared _ _).trans rfl, ?_, ?_⟩
      · exact (ofCrosshead_of_backbone (spend_backbone _ _)).trans rfl
      · exact (ofLoad_of_backbone (spend_backbone _ _)).trans rfl
    · exact ⟨rfl, rfl, rfl, rfl⟩
  · exact ⟨rfl, rfl, by simp_all [ofCrosshead], rfl⟩

theorem loseDriveLane_effect : calm (loseDriveLane s) = calm s ∧
    sparedArms (loseDriveLane s) = sparedArms s ∧
    ofCrosshead (loseDriveLane s) = (s.xhu.good, noDriveStatus) ∧
    ofLoad (loseDriveLane s) = ofLoad s := by
  unfold loseDriveLane
  dsimp only
  split
  · refine ⟨(spend_calm _ _).trans rfl, (spend_spared _ _).trans rfl, ?_, ?_⟩
    · exact (ofCrosshead_of_backbone (spend_backbone _ _)).trans rfl
    · exact (ofLoad_of_backbone (spend_backbone _ _)).trans rfl
  · exact ⟨rfl, rfl, rfl, rfl⟩

/-! ### An arm -/

theorem endTest_state (new : SeqState) (cause : EndCause) :
    (endTest new cause s).tsq.state = new := by
  unfold endTest
  dsimp only
  split <;> simp

end acts

/-- An ATTACHED handler has lost an arm during a test: it is LOST with an O_x, and while the test runs a
crosshead-derived strain is reported (R78, R79). -/
structure Spliced (ox : Int) (x : Strain) (t : State) : Prop where
  handler : t.exh.handler = .lost
  ox : t.exh.ox = ox
  reported : inTest t = true → t.exh.reported = some x

section spliced

variable {ox : Int} {x : Strain} {s : State}

theorem Spliced.of_parts {t : State} (h : Spliced ox x s) (hexh : t.exh = s.exh)
    (htest : inTest t = true → inTest s = true) : Spliced ox x t :=
  ⟨by rw [hexh, h.handler], by rw [hexh, h.ox], fun ht => by rw [hexh, h.reported (htest ht)]⟩

theorem Spliced.endPhase (h : Spliced ox x s) (k : Nat) (p : Phase) :
    Spliced ox x (endPhase k p s) := by
  unfold Machine.endPhase
  extract_lets _ s1 s2
  have hstate : s1.tsq.state = s.tsq.state := by
    simp only [s1, handMilestone_keeps]
    rfl
  have h1 : Spliced ox x s1 := h.of_parts (by simp [s1]) (by simp [inTest, hstate])
  have h2 : Spliced ox x s2 := by
    simp only [s2]
    split
    · rw [requestRemoval, h1.handler]
      exact h1
    · exact h1
  split
  · exact h2.of_parts (by simp) (by simp [inTest])
  · exact ⟨by simp [h2.handler], by simp [h2.ox], fun ht => by simp [inTest, endTest_state] at ht⟩

theorem Spliced.judgeEnd (h : Spliced ox x s) (met : EndKind → Int → Bool) :
    Spliced ox x (judgeEnd met s) := by
  unfold Machine.judgeEnd
  split
  · split
    · exact h.endPhase _ _
    · exact h
  · exact h

theorem Spliced.offerStrain (h : Spliced ox x s) (st : Strain) : Spliced ox x (offerStrain st s) := by
  refine inOpenOrder_keeps (P := Spliced ox x) _ _ (fun _ _ h => ⟨h.handler, h.ox, h.reported⟩)
    (fun act ha t ht => ?_) h
  simp only [List.mem_cons, List.not_mem_nil, or_false] at ha
  obtain rfl | rfl := ha
  · exact ht.judgeEnd _
  · unfold evuStrain
    split
    · exact (ht.of_parts (by simp) (by simp [inTest])).judgeEnd _
    · exact ht

end spliced

/-- The offset O_x of a splice to the crosshead (R78). -/
def spliceOffset (s : State) : Int :=
  s.xhu.strain - rawCrossheadStrain s s.xhu.pos

/-- The strain the splice to the crosshead publishes (R73, R78). -/
def spliceStrain (s : State) : Strain :=
  { value := clampSigned32 (rawCrossheadStrain s s.xhu.pos + spliceOffset s), source := .crosshead }

theorem spliceToCrosshead_spliced {s : State} (h : s.exh.handler = .lost) :
    Spliced (spliceOffset s) (spliceStrain s) (spliceToCrosshead s) := by
  unfold spliceToCrosshead keepStrain
  extract_lets _ t t'
  split <;> exact ⟨h, rfl, fun _ => rfl⟩

/-- What the loss of an arm does to an ATTACHED handler: it is LOST, with the splice during a test and no
strain reported outside one (R79). -/
structure LostAttached (s t : State) : Prop where
  handler : t.exh.handler = .lost
  outside : inTest s = false → t.exh.reported = none
  during : inTest s = true → Spliced (spliceOffset s) (spliceStrain s) t

theorem LostAttached.of_parts {s t u : State} (h : LostAttached s t) (hexh : u.exh = t.exh)
    (htest : inTest u = true → inTest t = true) : LostAttached s u :=
  ⟨by rw [hexh, h.handler], fun hs => by rw [hexh, h.outside hs],
    fun hs => (h.during hs).of_parts hexh htest⟩

theorem loseArm_lostAttached (s : State) (armB : Bool) : LostAttached s (loseArm armB s) := by
  unfold loseArm
  extract_lets x _ t u
  split
  · rename_i htest
    have hu : Spliced (spliceOffset s) (spliceStrain s) u := spliceToCrosshead_spliced (s := t) rfl
    have h : Spliced (spliceOffset s) (spliceStrain s) (inOpenOrder
        [ offerStrain (crossheadStrain u),
          fun v => raiseExt (.lost armB) (handMilestone (plainMilestone .extLost x) v) ] u) := by
      refine inOpenOrder_keeps _ _ (fun _ _ h => ⟨h.handler, h.ox, h.reported⟩)
        (fun act ha v hv => ?_) hu
      simp only [List.mem_cons, List.not_mem_nil, or_false] at ha
      obtain rfl | rfl := ha
      · exact hv.offerStrain _
      · exact hv.of_parts (by simp) (by simp [inTest])
    exact ⟨h.handler, fun hs => by simp [htest] at hs, fun _ => h⟩
  · rename_i htest
    have hhandler : t.exh.handler = .lost := rfl
    exact ⟨by simpa using hhandler, fun _ => by simp, fun hs => absurd hs htest⟩

/-- An arm is in use (R66). -/
def ArmUsed (s : State) (armB : Bool) : Prop :=
  ∃ x, s.exh.extset = some x ∧ armInUse x armB = true

theorem armLost_eq (armB : Bool) (s : State) : armLost armB s = s ∨ ArmUsed s armB ∧
    (s.exh.handler = .settling ∧ armLost armB s = failAttach .channelLost .detached s ∨
      s.exh.handler = .attached ∧ armLost armB s = loseArm armB s) := by
  unfold armLost ArmUsed
  split
  · exact .inl rfl
  · rename_i x hx
    split
    · rename_i hu
      split
      · exact .inr ⟨⟨x, hx, hu⟩, .inl ⟨‹_›, rfl⟩⟩
      · exact .inr ⟨⟨x, hx, hu⟩, .inr ⟨‹_›, rfl⟩⟩
      · exact .inl rfl
    · exact .inl rfl

theorem armLost_used {armB : Bool} {s : State} (h : ArmUsed s armB) :
    (s.exh.handler = .settling → armLost armB s = failAttach .channelLost .detached s) ∧
    (s.exh.handler = .attached → armLost armB s = loseArm armB s) := by
  obtain ⟨x, hx, hu⟩ := h
  exact ⟨fun hs => by simp [armLost, hx, hu, hs], fun hs => by simp [armLost, hx, hu, hs]⟩

theorem loseArm_backbone (armB : Bool) (s : State) : backbone (loseArm armB s) = backbone s := by
  unfold loseArm
  dsimp only
  split
  · rw [inOpenOrder_backbone]
    · simp
      rfl
    · simp
  · simp
    rfl

theorem armLost_backbone (armB : Bool) (s : State) : backbone (armLost armB s) = backbone s := by
  obtain h | ⟨-, ⟨-, h⟩ | ⟨-, h⟩⟩ := armLost_eq armB s <;> rw [h]
  · exact failAttach_backbone _ _ _
  · exact loseArm_backbone _ _

end Sys2Proof.Machine
end

section
/-!
SUPPORT. Channels lost in an open order, and a lane that falls silent (R4, R10, R11, R15).
-/

namespace Sys2Proof.Machine

/-! ## The handler while channels are lost -/

/-- A step of an event that loses channels: it spares the handler, or it is the loss of an arm's channel. -/
def LossStep (lost : Bool → Prop) (t u : State) : Prop :=
  (sparedArms u = sparedArms t ∧ u.xhu.pos = t.xhu.pos) ∨ ∃ armB, lost armB ∧ u = armLost armB t

/-- A splice after steps that spare the handler is the splice before them. -/
theorem LostAttached.of_spared {s t u : State} (ha : sparedArms t = sparedArms s)
    (hp : t.xhu.pos = s.xhu.pos) (h : LostAttached t u) : LostAttached s u := by
  simp only [sparedArms, Prod.mk.injEq] at ha
  obtain ⟨hexh, hrecord, hstrain⟩ := ha
  simp only [testRecord, Prod.mk.injEq] at hrecord
  obtain ⟨htest, hspecimen⟩ := hrecord
  refine ⟨h.handler, fun hs => h.outside (htest.trans hs), fun hs => ?_⟩
  have ht : inTest t = true := htest.trans hs
  have hraw : rawCrossheadStrain t t.xhu.pos = rawCrossheadStrain s s.xhu.pos := by
    simp only [ht, hs, if_true] at hspecimen
    simp only [rawCrossheadStrain, hspecimen, hexh, hp]
  have hoffset : spliceOffset t = spliceOffset s := by
    simp only [spliceOffset, hraw, hstrain]
  have hsplice : spliceStrain t = spliceStrain s := by
    simp only [spliceStrain, hraw, hoffset]
  exact hoffset ▸ hsplice ▸ h.during ht

/-- The handler's data after an attach that failed with its channel (R70). -/
def detachedExh (x : Exh) : Exh :=
  { x with handler := .detached, settleAt := none, averaging := none }

theorem sparedArms_exh {t u : State} (h : sparedArms u = sparedArms t) : u.exh = t.exh :=
  congrArg Prod.fst h

theorem sparedArms_inTest {t u : State} (h : sparedArms u = sparedArms t) : inTest u = inTest t :=
  congrArg (fun x => x.2.1.1) h

section lossActs

variable {lost : Bool → Prop} {I : State → Prop} {acts : List (State → State)} {s : State}
  (hc : ∀ t n, I t → I { t with choices := n })
  (hI : ∀ act ∈ acts, ∀ t, I t → I (act t) ∧ LossStep lost t (act t)) (hs : I s)

include hc hI hs

theorem lossActs_unmoved (hu : ∀ armB, lost armB → ArmUsed s armB →
    s.exh.handler ≠ .attached ∧ s.exh.handler ≠ .settling) :
    (inOpenOrder acts s).exh = s.exh := by
  have h : I (inOpenOrder acts s) ∧ (inOpenOrder acts s).exh = s.exh := by
    refine inOpenOrder_keeps (P := fun t => I t ∧ t.exh = s.exh) _ _
      (fun t n ⟨hi, ht⟩ => ⟨hc t n hi, ht⟩) (fun act ha t ⟨hi, ht⟩ => ?_) ⟨hs, rfl⟩
    obtain ⟨hi', hspared | ⟨armB, hlost, heq⟩⟩ := hI act ha t hi
    · exact ⟨hi', (sparedArms_exh hspared.1).trans ht⟩
    · refine ⟨hi', ?_⟩
      obtain h | ⟨hused, h⟩ := armLost_eq armB t
      · rw [heq, h, ht]
      · obtain ⟨ha, hset⟩ := hu armB hlost (by simpa only [ArmUsed, ht] using hused)
        rw [ht] at h
        obtain ⟨h, -⟩ | ⟨h, -⟩ := h
        · exact absurd h hset
        · exact absurd h ha
  exact h.2

theorem lossActs_settling (hset : s.exh.handler = .settling) {armB : Bool} (hu : ArmUsed s armB)
    {a : State → State} (ha : a ∈ acts) (heq : ∀ t, I t → a t = armLost armB t) :
    (inOpenOrder acts s).exh = detachedExh s.exh := by
  have hfail : ∀ t, t.exh = s.exh →
      (failAttach .channelLost .detached t).exh = detachedExh s.exh := by
    intro t ht
    simp [failAttach, raiseExt, detachedExh, ht]
  have hgone : ∀ t b, t.exh = detachedExh s.exh → armLost b t = t := by
    intro t b ht
    have hd : t.exh.handler = .detached := by rw [ht]; rfl
    obtain h | ⟨-, ⟨h, -⟩ | ⟨h, -⟩⟩ := armLost_eq b t
    · exact h
    · simp [hd] at h
    · simp [hd] at h
  have h : I (inOpenOrder acts s) ∧ (inOpenOrder acts s).exh = detachedExh s.exh := by
    refine inOpenOrder_reaches
      (P := fun t => I t ∧ (t.exh = s.exh ∨ t.exh = detachedExh s.exh))
      (Q := fun t => I t ∧ t.exh = detachedExh s.exh) ha (fun t n ⟨hi, ht⟩ => ⟨hc t n hi, ht⟩)
      (fun act hact t ⟨hi, ht⟩ => ?_) (fun t ⟨hi, ht⟩ => ?_) (fun act hact t ⟨hi, ht⟩ => ?_)
      ⟨hs, .inl rfl⟩
    · obtain ⟨hi', hspared | ⟨b, -, hb⟩⟩ := hI act hact t hi
      · exact ⟨hi', by rwa [sparedArms_exh hspared.1]⟩
      · refine ⟨hi', ?_⟩
        obtain ht | ht := ht
        · obtain h | ⟨-, ⟨-, h⟩ | ⟨h, -⟩⟩ := armLost_eq b t
          · exact .inl (by rw [hb, h, ht])
          · exact .inr (by rw [hb, h, hfail t ht])
          · rw [ht, hset] at h
            exact absurd h (by simp)
        · exact .inr (by rw [hb, hgone t b ht, ht])
    · obtain ⟨hi', -⟩ := hI a ha t hi
      refine ⟨hi', ?_⟩
      rw [heq t hi]
      obtain ht | ht := ht
      · rw [(armLost_used (by simpa only [ArmUsed, ht] using hu)).1 (by rw [ht, hset]), hfail t ht]
      · rw [hgone t armB ht, ht]
    · obtain ⟨hi', hspared | ⟨b, -, hb⟩⟩ := hI act hact t hi
      · exact ⟨hi', (sparedArms_exh hspared.1).trans ht⟩
      · exact ⟨hi', by rw [hb, hgone t b ht, ht]⟩
  exact h.2

theorem lossActs_attached (hatt : s.exh.handler = .attached) {armB : Bool} (hu : ArmUsed s armB)
    {a : State → State} (ha : a ∈ acts) (heq : ∀ t, I t → a t = armLost armB t) :
    LostAttached s (inOpenOrder acts s) := by
  have hgone : ∀ t b, LostAttached s t → armLost b t = t := by
    intro t b ht
    obtain h | ⟨-, ⟨h, -⟩ | ⟨h, -⟩⟩ := armLost_eq b t
    · exact h
    · simp [ht.handler] at h
    · simp [ht.handler] at h
  have hkeep : ∀ act ∈ acts, ∀ t, I t → LostAttached s t → LostAttached s (act t) := by
    intro act hact t hi ht
    obtain ⟨-, hspared | ⟨b, -, hb⟩⟩ := hI act hact t hi
    · exact ht.of_parts (sparedArms_exh hspared.1)
        fun h => (sparedArms_inTest hspared.1).symm.trans h
    · rwa [hb, hgone t b ht]
  have hlose : ∀ t b, sparedArms t = sparedArms s ∧ t.xhu.pos = s.xhu.pos →
      armLost b t = t ∨ LostAttached s (armLost b t) := by
    rintro t b ⟨hspared, hpos⟩
    obtain h | ⟨-, ⟨h, -⟩ | ⟨-, h⟩⟩ := armLost_eq b t
    · exact .inl h
    · rw [sparedArms_exh hspared, hatt] at h
      exact absurd h (by simp)
    · rw [h]
      exact .inr ((loseArm_lostAttached t b).of_spared hspared hpos)
  have h : I (inOpenOrder acts s) ∧ LostAttached s (inOpenOrder acts s) := by
    refine inOpenOrder_reaches
      (P := fun t => I t ∧ (sparedArms t = sparedArms s ∧ t.xhu.pos = s.xhu.pos ∨ LostAttached s t))
      (Q := fun t => I t ∧ LostAttached s t) ha
      (fun t n ⟨hi, ht⟩ => ⟨hc t n hi, ht.imp id fun h => h.of_parts rfl id⟩)
      (fun act hact t ⟨hi, ht⟩ => ?_) (fun t ⟨hi, ht⟩ => ?_)
      (fun act hact t ⟨hi, ht⟩ => ⟨(hI act hact t hi).1, hkeep act hact t hi ht⟩)
      ⟨hs, .inl ⟨rfl, rfl⟩⟩
    · obtain ht | ht := ht
      · obtain ⟨hi', hspared | ⟨b, -, hb⟩⟩ := hI act hact t hi
        · exact ⟨hi', .inl ⟨hspared.1.trans ht.1, hspared.2.trans ht.2⟩⟩
        · refine ⟨hi', ?_⟩
          rw [hb]
          exact (hlose t b ht).imp (fun h => by rwa [h]) id
      · exact ⟨(hI act hact t hi).1, .inr (hkeep act hact t hi ht)⟩
    · refine ⟨(hI a ha t hi).1, ?_⟩
      obtain ht | ht := ht
      · have hexh := sparedArms_exh ht.1
        rw [heq t hi, (armLost_used (by simpa only [ArmUsed, hexh] using hu)).2 (by rw [hexh, hatt])]
        exact (loseArm_lostAttached t armB).of_spared ht.1 ht.2
      · exact hkeep a ha t hi ht
  exact h.2

end lossActs

/-! ## The loss of one channel -/

theorem channelLost_calm (c : Channel) (s : State) : calm (channelLost c s) = calm s := by
  cases c with
  | load => exact (loseLoad_effect s).1
  | xhead => exact (losePosition_effect s).1
  | extA => exact calm_of_backbone (armLost_backbone false s)
  | extB => exact calm_of_backbone (armLost_backbone true s)
  | unused => rfl

theorem channelLost_ofLoad (c : Channel) (s : State) : ofLoad (channelLost c s) =
    if c = .load then staledLoad s else ofLoad s := by
  cases c with
  | load => exact (loseLoad_effect s).2.2.2
  | xhead => exact (losePosition_effect s).2.2.2
  | extA => exact ofLoad_of_backbone (armLost_backbone false s)
  | extB => exact ofLoad_of_backbone (armLost_backbone true s)
  | unused => rfl

theorem channelLost_ofCrosshead (c : Channel) (s : State) : ofCrosshead (channelLost c s) =
    if c = .xhead then (false, s.xhu.drive) else ofCrosshead s := by
  cases c with
  | load => exact (loseLoad_effect s).2.2.1
  | xhead => exact (losePosition_effect s).2.2.1
  | extA => exact ofCrosshead_of_backbone (armLost_backbone false s)
  | extB => exact ofCrosshead_of_backbone (armLost_backbone true s)
  | unused => rfl

theorem calm_pos {s t : State} (h : calm t = calm s) : t.xhu.pos = s.xhu.pos :=
  congrArg (fun x => x.2.2.1.1) h

theorem channelLost_step (c : Channel) (s : State) :
    LossStep (fun armB => armChannel armB = c) s (channelLost c s) := by
  have hpos := calm_pos (channelLost_calm c s)
  cases c with
  | load => exact .inl ⟨(loseLoad_effect s).2.1, hpos⟩
  | xhead => exact .inl ⟨(losePosition_effect s).2.1, hpos⟩
  | extA => exact .inr ⟨false, rfl, rfl⟩
  | extB => exact .inr ⟨true, rfl, rfl⟩
  | unused => exact .inl ⟨rfl, rfl⟩

theorem channelLost_arm (armB : Bool) (s : State) :
    channelLost (armChannel armB) s = armLost armB s := by
  cases armB <;> rfl

/-! ## A lane falls silent (R4, R5, R10, R15) -/

/-- The lane's record and its LANE occurrence, before anything is lost. -/
def laneStaled (lane : Lane) (s : State) : State :=
  raise .lane (.lane lane false)
    (setLane lane { s.lif.lanes[lane] with status := .stale, silence := none } s)

/-- What is lost with a lane. -/
def lossesOf (lane : Lane) (s : State) : List (State → State) :=
  (if lane = 4 then [loseDriveLane] else []) ++ (channelsOn s lane).map channelLost

theorem goStale_eq (lane : Lane) (s : State) :
    goStale lane s = inOpenOrder (lossesOf lane s) (laneStaled lane s) := by
  have h : channelsOn (laneStaled lane s) lane = channelsOn s lane := by
    simp only [channelsOn, laneStaled, raise_keeps]
    rfl
  unfold goStale lossesOf
  exact congrArg (fun l => inOpenOrder (_ ++ List.map channelLost l) _) h

theorem mem_lossesOf {lane : Lane} {s : State} {act : State → State} : act ∈ lossesOf lane s ↔
    lane = 4 ∧ act = loseDriveLane ∨ ∃ c ∈ channelsOn s lane, act = channelLost c := by
  unfold lossesOf
  rw [List.mem_append, List.mem_map]
  simp only [eq_comm (b := act)]
  split <;> simp [*]

theorem laneStaled_keeps (lane : Lane) (s : State) : calm (laneStaled lane s) = calm s ∧
    sparedArms (laneStaled lane s) = sparedArms s ∧
    ofCrosshead (laneStaled lane s) = ofCrosshead s ∧ ofLoad (laneStaled lane s) = ofLoad s ∧
    (laneStaled lane s).lif.lanes =
      s.lif.lanes.set lane { s.lif.lanes[lane] with status := .stale, silence := none } := by
  obtain ⟨hc, ha, hx, hl⟩ := raise_all
    (setLane lane { s.lif.lanes[lane] with status := .stale, silence := none } s)
    .lane (.lane lane false)
  exact ⟨hc, ha, hx, hl, by simp [laneStaled, setLane]⟩

/-- A lane carries an arm in use. -/
def LosesArm (lane : Lane) (s : State) (armB : Bool) : Prop :=
  (entryOf s.rtb.route (armChannel armB)).map keyLane = some lane ∧ ArmUsed s armB

theorem armChannel_owned (armB : Bool) : armChannel armB ∈ ownedChannels := by
  cases armB <;> decide

section silent

variable (lane : Lane) (s : State)

theorem goStale_calm : calm (goStale lane s) = calm s := by
  rw [goStale_eq, inOpenOrder_eq calm _ _ (fun _ _ => rfl), (laneStaled_keeps lane s).1]
  intro act ha t
  obtain ⟨-, rfl⟩ | ⟨c, -, rfl⟩ := mem_lossesOf.1 ha
  · exact (loseDriveLane_effect t).1
  · exact channelLost_calm c t

theorem goStale_lanes : (goStale lane s).lif.lanes =
    s.lif.lanes.set lane { s.lif.lanes[lane] with status := .stale, silence := none } := by
  have m : SameStage (laneStaled lane s) (goStale lane s) := by
    rw [goStale_eq]
    refine (inOpenOrder_moves (b := true) _ _ fun act ha t => ?_).stage
    obtain ⟨-, rfl⟩ | ⟨c, -, rfl⟩ := mem_lossesOf.1 ha
    · exact loseDriveLane_moves t
    · exact channelLost_moves t c
  rw [m.lif, (laneStaled_keeps lane s).2.2.2.2]

theorem lossesOf_ofLoad {act : State → State} (h : act ∈ lossesOf lane s) (t : State) :
    ofLoad (act t) = ofLoad t ∨ Channel.load ∈ channelsOn s lane ∧ ofLoad (act t) = staledLoad t := by
  obtain ⟨-, rfl⟩ | ⟨c, hc, rfl⟩ := mem_lossesOf.1 h
  · exact .inl (loseDriveLane_effect t).2.2.2
  · rw [channelLost_ofLoad]
    by_cases hl : c = .load
    · exact .inr ⟨hl ▸ hc, if_pos hl⟩
    · exact .inl (if_neg hl)

theorem goStale_ofLoad : ofLoad (goStale lane s) =
    if Channel.load ∈ channelsOn s lane then staledLoad s else ofLoad s := by
  have hstart : ofLoad (laneStaled lane s) = ofLoad s := (laneStaled_keeps lane s).2.2.2.1
  have hstale : ∀ t, ofLoad t = ofLoad s ∨ ofLoad t = staledLoad s → staledLoad t = staledLoad s := by
    rintro t (ht | ht)
    · have : t.lch.last = s.lch.last := congrArg Prod.fst ht
      simp only [staledLoad, this]
    · have : t.lch.last = { s.lch.last with quality := .stale } := congrArg Prod.fst ht
      simp only [staledLoad, this]
  rw [goStale_eq]
  split
  · rename_i hload
    refine inOpenOrder_reaches
      (P := fun t => ofLoad t = ofLoad s ∨ ofLoad t = staledLoad s)
      (Q := fun t => ofLoad t = staledLoad s) (a := channelLost .load)
      (mem_lossesOf.2 (.inr ⟨_, hload, rfl⟩)) (fun _ _ h => h) (fun act ha t ht => ?_)
      (fun t ht => ?_) (fun act ha t ht => ?_) (.inl hstart)
    · obtain h | ⟨-, h⟩ := lossesOf_ofLoad lane s ha t
      · rwa [h]
      · exact .inr (h.trans (hstale t ht))
    · rw [channelLost_ofLoad, if_pos rfl, hstale t ht]
    · obtain h | ⟨-, h⟩ := lossesOf_ofLoad lane s ha t
      · rw [h, ht]
      · exact h.trans (hstale t (.inr ht))
  · rename_i hload
    rw [inOpenOrder_eq ofLoad _ _ (fun _ _ => rfl), hstart]
    intro act ha t
    obtain h | ⟨hl, -⟩ := lossesOf_ofLoad lane s ha t
    · exact h
    · exact absurd hl hload

theorem goStale_good : (goStale lane s).xhu.good =
    if Channel.xhead ∈ channelsOn s lane then false else s.xhu.good := by
  have hstart : (laneStaled lane s).xhu.good = s.xhu.good :=
    congrArg Prod.fst (laneStaled_keeps lane s).2.2.1
  have each : ∀ act ∈ lossesOf lane s, ∀ t, (act t).xhu.good = t.xhu.good ∨
      Channel.xhead ∈ channelsOn s lane ∧ (act t).xhu.good = false := by
    intro act h t
    obtain ⟨-, rfl⟩ | ⟨c, hc, rfl⟩ := mem_lossesOf.1 h
    · exact .inl (congrArg Prod.fst (loseDriveLane_effect t).2.2.1)
    · have hx := congrArg Prod.fst (channelLost_ofCrosshead c t)
      by_cases hl : c = .xhead
      · exact .inr ⟨hl ▸ hc, by rwa [if_pos hl] at hx⟩
      · exact .inl (by rwa [if_neg hl] at hx)
  rw [goStale_eq]
  split
  · rename_i hx
    refine inOpenOrder_reaches (P := fun _ => True) (Q := fun t => t.xhu.good = false)
      (a := channelLost .xhead) (mem_lossesOf.2 (.inr ⟨_, hx, rfl⟩)) (fun _ _ h => h)
      (fun _ _ _ _ => trivial) (fun t _ => congrArg Prod.fst (channelLost_ofCrosshead .xhead t))
      (fun act ha t ht => ?_) trivial
    obtain h | ⟨-, h⟩ := each act ha t
    · rw [h, ht]
    · exact h
  · rename_i hx
    rw [inOpenOrder_eq (fun t => t.xhu.good) _ _ (fun _ _ => rfl), hstart]
    intro act ha t
    obtain h | ⟨hl, -⟩ := each act ha t
    · exact h
    · exact absurd hl hx

theorem goStale_drive : (goStale lane s).xhu.drive = if lane = 4 then noDriveStatus else s.xhu.drive := by
  have hstart : (laneStaled lane s).xhu.drive = s.xhu.drive :=
    congrArg Prod.snd (laneStaled_keeps lane s).2.2.1
  have hchannel : ∀ c t, (channelLost c t).xhu.drive = t.xhu.drive := by
    intro c t
    have hx := congrArg Prod.snd (channelLost_ofCrosshead c t)
    by_cases hl : c = .xhead
    · rwa [if_pos hl] at hx
    · rwa [if_neg hl] at hx
  have hdrive : ∀ t, (loseDriveLane t).xhu.drive = noDriveStatus := fun t =>
    congrArg Prod.snd (loseDriveLane_effect t).2.2.1
  rw [goStale_eq]
  split
  · rename_i h4
    refine inOpenOrder_reaches (P := fun _ => True) (Q := fun t => t.xhu.drive = noDriveStatus)
      (a := loseDriveLane) (mem_lossesOf.2 (.inl ⟨h4, rfl⟩)) (fun _ _ h => h)
      (fun _ _ _ _ => trivial) (fun t _ => hdrive t) (fun act ha t ht => ?_) trivial
    obtain ⟨-, rfl⟩ | ⟨c, -, rfl⟩ := mem_lossesOf.1 ha
    · exact hdrive t
    · exact (hchannel c t).trans ht
  · rename_i h4
    rw [inOpenOrder_eq (fun t => t.xhu.drive) _ _ (fun _ _ => rfl), hstart]
    intro act ha t
    obtain ⟨h, -⟩ | ⟨c, -, rfl⟩ := mem_lossesOf.1 ha
    · exact absurd h h4
    · exact hchannel c t

theorem lossesOf_step {act : State → State} (h : act ∈ lossesOf lane s) (t : State) :
    LossStep (fun armB => armChannel armB ∈ channelsOn s lane) t (act t) := by
  obtain ⟨-, rfl⟩ | ⟨c, hc, rfl⟩ := mem_lossesOf.1 h
  · exact .inl ⟨(loseDriveLane_effect t).2.1, calm_pos (loseDriveLane_effect t).1⟩
  · obtain h | ⟨armB, hb, h⟩ := channelLost_step c t
    · exact .inl h
    · subst hb
      exact .inr ⟨armB, hc, h⟩

/-- The handler after a lane has fallen silent (R70, R79). -/
theorem goStale_exh :
    ((∀ armB, LosesArm lane s armB → s.exh.handler ≠ .attached ∧ s.exh.handler ≠ .settling) →
      (goStale lane s).exh = s.exh) ∧
    ∀ armB, LosesArm lane s armB →
      (s.exh.handler = .settling → (goStale lane s).exh = detachedExh s.exh) ∧
      (s.exh.handler = .attached → LostAttached s (goStale lane s)) := by
  obtain ⟨hcalm, hspared, -⟩ := laneStaled_keeps lane s
  have hexh := sparedArms_exh hspared
  have hsteps : ∀ act ∈ lossesOf lane s, ∀ t, True → True ∧
      LossStep (fun armB => armChannel armB ∈ channelsOn s lane) t (act t) :=
    fun act ha t _ => ⟨trivial, lossesOf_step lane s ha t⟩
  rw [goStale_eq, ← hexh]
  have hlost : ∀ armB, armChannel armB ∈ channelsOn s lane ↔
      (entryOf s.rtb.route (armChannel armB)).map keyLane = some lane :=
    fun armB => mem_channelsOn.trans (and_iff_right (armChannel_owned armB))
  refine ⟨fun h => lossActs_unmoved (I := fun _ => True) (fun _ _ h => h) hsteps trivial
    fun armB hm hu => h armB ⟨(hlost armB).1 hm, by simpa only [ArmUsed, hexh] using hu⟩,
    fun armB ⟨hon, hu⟩ => ?_⟩
  have hm := (hlost armB).2 hon
  have hmem : channelLost (armChannel armB) ∈ lossesOf lane s := mem_lossesOf.2 (.inr ⟨_, hm, rfl⟩)
  have hused : ArmUsed (laneStaled lane s) armB := by simpa only [ArmUsed, hexh] using hu
  exact ⟨fun hset => lossActs_settling (I := fun _ => True) (fun _ _ h => h) hsteps trivial hset hused
      hmem (fun t _ => channelLost_arm armB t),
    fun hatt => (lossActs_attached (I := fun _ => True) (fun _ _ h => h) hsteps trivial hatt hused
      hmem (fun t _ => channelLost_arm armB t)).of_spared hspared (calm_pos hcalm)⟩

end silent

/-- Settles O16. -/
theorem silenceMakesLaneStale : Obligations.SilenceMakesLaneStale := by
  intro lane deadline s hsilence
  have he : exec (.silenceTimerExpiry lane) s = .next (goStale lane (reach deadline s)) := by
    simp only [exec, execSilenceTimerExpiry, hsilence]
  have hcarried : ∀ c ∈ ownedChannels, c ∈ channelsOn (reach deadline s) lane ↔
      (entryOf s.rtb.route c).map keyLane = some lane := fun c hc =>
    mem_channelsOn.trans (and_iff_right hc)
  have hcalm := goStale_calm lane (reach deadline s)
  have hlanes := goStale_lanes lane (reach deadline s)
  have hload := goStale_ofLoad lane (reach deadline s)
  have hgood := goStale_good lane (reach deadline s)
  have hdrive := goStale_drive lane (reach deadline s)
  obtain ⟨hkept, harm⟩ := goStale_exh lane (reach deadline s)
  simp only [calm, Prod.mk.injEq] at hcalm
  obtain ⟨hnow, ⟨hzeroA, hzeroB⟩, ⟨hpos, hdemand, -⟩, htare, holn, htst, hcopies, -⟩ := hcalm
  rw [if_congr (hcarried .load (by decide)) rfl rfl] at hload
  rw [if_congr (hcarried .xhead (by decide)) rfl rfl] at hgood
  refine ⟨_, he, hnow, ?_, ?_, ?_, ?_, ?_, ?_, ?_, ?_, ?_, hzeroA, hzeroB, hdrive, hpos, hdemand, htare,
    holn, htst, hcopies⟩
  · rw [hlanes]
    exact Vector.getElem_set_self _
  · intro other ho
    have : lane.val ≠ other.val := fun h => ho (Fin.ext h.symm)
    rw [hlanes]
    exact Vector.getElem_set_ne _ _ this
  · exact fun h => by rw [hgood, if_pos h]
  · exact fun h => by rw [hgood, if_neg h]; rfl
  · intro h
    rw [if_pos h] at hload
    simp only [ofLoad, staledLoad, Prod.mk.injEq] at hload
    exact hload
  · intro h
    rw [if_neg h] at hload
    simp only [ofLoad, Prod.mk.injEq] at hload
    exact hload
  · intro hl hatt
    obtain ⟨armB, hb⟩ : ∃ armB, LosesArm lane (reach deadline s) armB :=
      hl.elim (fun h => ⟨false, h⟩) fun h => ⟨true, h⟩
    have h := (harm armB hb).2 hatt
    exact ⟨h.handler, h.outside, fun hs => ⟨(h.during hs).ox, fun ht => by
      rw [(h.during hs).reported ht, (h.during hs).ox]
      rfl⟩⟩
  · intro hl hset
    obtain ⟨armB, hb⟩ : ∃ armB, LosesArm lane (reach deadline s) armB :=
      hl.elim (fun h => ⟨false, h⟩) fun h => ⟨true, h⟩
    have h : (goStale lane (reach deadline s)).exh = detachedExh s.exh := (harm armB hb).1 hset
    rw [h]
    exact ⟨rfl, rfl, rfl⟩
  · intro h
    refine hkept fun armB hb => ?_
    obtain h | h := h
    · cases armB with
      | false => exact absurd (.inl hb) h
      | true => exact absurd (.inr hb) h
    · exact h

end Sys2Proof.Machine
end

section
/-!
SUPPORT. RESTART at the blocks (R17, R40, R62, R84, R107, R126, R132, R153, R168, R178).
-/

namespace Sys2Proof.Machine

/-! ## The blocks' own effects -/

/-- The Protection Unit with every condition CLEAR and the load-loss timer stopped (R153). -/
def clearedPru (p : Pru) : Pru :=
  { p with conditions := Vector.replicate 8 .clear, loadLossAt := none }

/-- The Crosshead Unit in HOLD (R52). -/
def heldXhu (x : Xhu) : Xhu :=
  { x with mode := .hold, a := 0, b := 0, target := none }

/-- The list with FMAX at its end, where its record is held and it is still to be recorded (R124, R125). -/
def finalList (s : State) : List Milestone :=
  match s.evu.fm with
  | none => s.evu.list
  | some fm =>
    if willRecord (plainMilestone .fmax fm) s then s.evu.list ++ [plainMilestone .fmax fm]
    else s.evu.list

/-- The evaluations closed by an end of a test (R116, R125, R127). -/
def closedEvu (new : SeqState) (cause : EndCause) (s : State) : Evu :=
  { s.evu with
    search := .closed, list := finalList s, listOpen := false
    result := { s.evu.result with endState := some new, endCause := some cause } }

theorem settleLoadLost_eq (s : State) : ∃ p : Pru, clearedPru p = clearedPru s.pru ∧
    settleLoadLost s = { s with pru := p } := by
  unfold settleLoadLost
  split
  · exact ⟨s.pru, rfl, rfl⟩
  · exact ⟨(clearLoadLost s).pru, rfl, rfl⟩

theorem enterHold_eq (s : State) : ∃ p : Pru, clearedPru p = clearedPru s.pru ∧
    enterHold s = { s with xhu := heldXhu s.xhu, pru := p } :=
  settleLoadLost_eq (s.setXhu (heldXhu s.xhu))

theorem evuEndOfTest_silent (new : SeqState) (cause : EndCause) (s : State) :
    evuEndOfTest new cause true s = { s with evu := closedEvu new cause s } := by
  have hw : ∀ m, willRecord m (s.setEvu { s.evu with search := .closed }) = willRecord m s :=
    fun _ => rfl
  unfold evuEndOfTest closedEvu finalList
  simp only [hw]
  cases hf : s.evu.fm with
  | none => simp [State.setEvu]
  | some fm =>
    cases hm : willRecord (plainMilestone .fmax fm) s <;> simp [State.setEvu, hm]

/-- The sequencer after an end of a test (R98). -/
def endedTsq (new : SeqState) (cause : EndCause) (s : State) : Tsq :=
  { s.tsq with
    state := new, phaseBase := phaseTime s, phaseSince := s.now, phaseTimer := none
    testTime := testTime s, limitAt := none, endCause := some cause, specimen := none }

/-- The handler after an end of a test (R74). -/
def endedExh (x : Exh) : Exh :=
  if x.handler = .attached then x else { x with reported := none }

theorem exhEndOfTest_eq (s : State) : exhEndOfTest s = { s with exh := endedExh s.exh } := by
  unfold exhEndOfTest endedExh
  split <;> rfl

/-- An end of a test by RESTART raises nothing (R107, R126). -/
theorem endTest_restart (s : State) : ∃ p : Pru, clearedPru p = clearedPru s.pru ∧
    endTest .aborted .restart s = { s with
      tsq := endedTsq .aborted .restart s, lch := { s.lch with stress := none }
      xhu := heldXhu s.xhu, exh := endedExh s.exh, evu := closedEvu .aborted .restart s, pru := p } := by
  obtain ⟨p, hp, hhold⟩ := enterHold_eq (s.setTsq { endedTsq .aborted .restart s with
    specimen := s.tsq.specimen })
  have hrest : endTest .aborted .restart s = settleLoadLost (exhEndOfTest
      (evuEndOfTest .aborted .restart true (releaseSpecimen (enterHold
        (s.setTsq { endedTsq .aborted .restart s with specimen := s.tsq.specimen }))))) := rfl
  rw [hrest, hhold, evuEndOfTest_silent, exhEndOfTest_eq]
  obtain ⟨q, hq, hsettle⟩ := settleLoadLost_eq { s with
    tsq := endedTsq .aborted .restart s, lch := { s.lch with stress := none }
    xhu := heldXhu s.xhu, exh := endedExh s.exh, evu := closedEvu .aborted .restart s, pru := p }
  exact ⟨q, hq.trans hp, hsettle⟩

/-- The sequencer after a RESTART (R107). -/
def restartedTsq (s : State) : Tsq :=
  if inTest s then endedTsq .aborted .restart s
  else if s.tsq.state = .armed then
    { s.tsq with slot := none, specimen := none, state := .idle, phaseBase := phaseTime s
                 phaseSince := s.now }
  else s.tsq

/-- The handler after a RESTART (R84). -/
def restartedExh (x : Exh) : Exh :=
  match x.handler with
  | .settling | .attached | .lost =>
    { x with handler := .detached, settleAt := none, averaging := none, zeroA := none, zeroB := none
             reported := none }
  | .opened | .detached => { x with reported := none }

/-- The part once the blocks have taken a RESTART, but for the notices and the session. -/
def restarted (s : State) : State :=
  { s with
    tsq := restartedTsq s
    lch := { s.lch with
      dwell := none
      stress := if inTest s = true ∨ s.tsq.state = .armed then none else s.lch.stress }
    xhu := heldXhu s.xhu, exh := restartedExh s.exh
    evu := if inTest s then closedEvu .aborted .restart s else s.evu
    pru := clearedPru s.pru }

theorem restartSequencer_eq (s : State) : ∃ p : Pru, clearedPru p = clearedPru s.pru ∧
    restartSequencer s = { s with
      tsq := restartedTsq s
      lch := { s.lch with
        stress := if inTest s = true ∨ s.tsq.state = .armed then none else s.lch.stress }
      xhu := if inTest s then heldXhu s.xhu else s.xhu
      exh := if inTest s then endedExh s.exh else s.exh
      evu := if inTest s then closedEvu .aborted .restart s else s.evu
      pru := p } := by
  have ended : inTest s = true → restartSequencer s = endTest .aborted .restart s := by
    intro h
    unfold inTest at h
    unfold restartSequencer
    split at h <;> simp_all
  by_cases ht : inTest s = true
  · obtain ⟨p, hp, he⟩ := endTest_restart s
    refine ⟨p, hp, ?_⟩
    rw [ended ht, he]
    simp only [restartedTsq, ht, if_true, true_or]
  · by_cases ha : s.tsq.state = .armed
    · have harmed : restartSequencer s = settleLoadLost
          (enterState .idle (releaseSpecimen (s.setTsq { s.tsq with slot := none }))) := by
        simp [restartSequencer, ha]
      obtain ⟨p, hp, he⟩ := settleLoadLost_eq
        (enterState .idle (releaseSpecimen (s.setTsq { s.tsq with slot := none })))
      refine ⟨p, hp, ?_⟩
      rw [harmed, he, restartedTsq, if_neg ht, if_pos ha, if_pos (.inr ha), if_neg ht, if_neg ht,
        if_neg ht]
      rfl
    · have hsame : restartSequencer s = s := by
        unfold inTest at ht
        unfold restartSequencer
        split at ht <;> simp_all
        split <;> simp_all
      refine ⟨s.pru, rfl, ?_⟩
      rw [hsame, restartedTsq, if_neg ht, if_neg ha, if_neg (by simp [ht, ha]), if_neg ht, if_neg ht,
        if_neg ht]

theorem restartBlocks_silent (s : State) :
    clearConditions (restartHandler (restartLoad (enterHold (restartSequencer s)))) = restarted s := by
  obtain ⟨p, hp, hseq⟩ := restartSequencer_eq s
  obtain ⟨q, hq, hhold⟩ := enterHold_eq (restartSequencer s)
  rw [hhold]
  rw [hseq] at hq ⊢
  have hpru : clearedPru q = clearedPru s.pru := hq.trans hp
  have hexh : ∀ x : Exh, restartedExh (if inTest s then endedExh x else x) = restartedExh x := by
    intro x
    split
    · unfold endedExh restartedExh
      cases hx : x.handler <;> simp [hx]
    · rfl
  have hhandler : ∀ u : State, restartHandler u = { u with exh := restartedExh u.exh } := by
    intro u
    unfold restartHandler restartedExh
    split <;> simp_all [State.setExh]
  have hxhu : heldXhu (if inTest s then heldXhu s.xhu else s.xhu) = heldXhu s.xhu := by
    split <;> rfl
  have htarget : restarted s = { restarted s with
      exh := restartedExh (if inTest s then endedExh s.exh else s.exh)
      xhu := heldXhu (if inTest s then heldXhu s.xhu else s.xhu), pru := clearedPru q } := by
    rw [hexh, hxhu, hpru]
    rfl
  rw [hhandler, htarget]
  rfl

/-! ## The notices (R178) -/

/-- A notice of a first occurrence now (R170). -/
def firstNotice (src : Source) (d : NoticeDetail) (s : State) : OutFrame :=
  .notice { source := src, level := noticeLevel s src, detail := d, count := 1
            time := (runClock s).setWidth 32 }

theorem noticed_eq (src : Source) (d : NoticeDetail) (s : State) : noticed src d s = { s with
    cpt := { s.cpt with
      link := if noticeLevel s src = .off then s.cpt.link
        else some (s.cpt.link.getD (firstNotice src d s)) }
    ntu := { s.ntu with
      records := if noticeLevel s src = .off ∨ s.cpt.link = none then s.ntu.records
        else s.ntu.records.set (sourceNumber src)
          (some (countOccurrence d (runClock s) s.ntu.records[sourceNumber src])) } } := by
  unfold noticed firstNotice
  cases hl : s.cpt.link with
  | none =>
    have hsame : { s.cpt with link := none } = s.cpt := by rw [← hl]
    cases hv : noticeLevel s src <;> simp [hsame]
  | some f =>
    have hsame : { s.cpt with link := some f } = s.cpt := by rw [← hl]
    cases hv : noticeLevel s src <;> simp [hsame]

/-- The link once the lowest-numbered latched class has been raised again. -/
def linkAgain (s : State) : Option OutFrame :=
  match latchedClasses s with
  | [] => s.cpt.link
  | c :: _ =>
    if noticeLevel s .trip = .off then s.cpt.link
    else some (s.cpt.link.getD (firstNotice .trip (.tripped c) s))

/-- The pending records then: the others are discarded. -/
def recordsAgain (s : State) : Vector (Option NoticeRecord) 10 :=
  match latchedClasses s with
  | [] => Vector.replicate 10 none
  | c :: _ =>
    if noticeLevel s .trip = .off ∨ s.cpt.link = none then Vector.replicate 10 none
    else (Vector.replicate 10 none).set (sourceNumber .trip)
      (some { detail := .tripped c, count := 1, time := runClock s })

theorem restartNotices_eq {s : State} (h : Settled s) : restartNotices s = { s with
    cpt := { s.cpt with link := linkAgain s }, ntu := { s.ntu with records := recordsAgain s } } := by
  have hs : Settled (s.setNtu { s.ntu with records := Vector.replicate 10 none }) := by
    intro hl
    obtain ⟨hd, hr, -⟩ := h hl
    exact ⟨hd, hr, fun k => by simp⟩
  have hc : latchedClasses (s.setNtu { s.ntu with records := Vector.replicate 10 none }) =
      latchedClasses s := rfl
  unfold restartNotices linkAgain recordsAgain
  dsimp only
  rw [hc]
  cases latchedClasses s with
  | nil => rfl
  | cons c rest =>
    dsimp only
    rw [raise_settled hs, noticed_eq]
    have hrecord : (Vector.replicate 10 none : Vector (Option NoticeRecord) 10)[sourceNumber
      .trip] = none := by simp
    simp only [State.setNtu_ntu, hrecord]
    rfl

/-! ## The whole of a RESTART -/

/-- The part once every block has taken a RESTART. -/
def restartDone (s : State) : State :=
  { restarted s with
    cpt := { s.cpt with link := linkAgain s, session := none }
    ntu := { s.ntu with records := recordsAgain s } }

theorem restartBlocks_eq {s : State} (h : Settled s) : restartBlocks s = restartDone s := by
  unfold restartBlocks
  rw [restartBlocks_silent, restartNotices_eq (s := restarted s) h]
  rfl

theorem restartDone_settled {s : State} (h : Settled s) : Settled (restartDone s) := by
  intro hl
  have hlink : linkAgain s = none := hl
  unfold linkAgain at hlink
  have hempty : s.cpt.link = none ∧ ∀ k : Fin 10, (recordsAgain s)[k] = none := by
    unfold recordsAgain
    split at hlink
    · exact ⟨hlink, fun k => by simp [*]⟩
    · split at hlink
      · exact ⟨hlink, fun k => by simp [*]⟩
      · cases hlink
  obtain ⟨hd, hr, -⟩ := h hempty.1
  exact ⟨hd, hr, hempty.2⟩

theorem exec_restart (dt : Nat) (tag : Byte) {s : State} (h : Ready s) :
    exec (.restart dt tag []) s =
      .next (answered (plainReply .restart tag .done) (restartDone (later dt s))) := by
  have he : exec (.restart dt tag []) s =
      .next (takeOrder .restart ownRestart tag [] (elapse dt s)) := rfl
  have hs : Settled (joinOutstanding (orderCode .restart) tag (later dt s)) := h.1
  rw [he, takeOrder_ready h rfl, ownRestart, restartBlocks_eq hs, reply,
    answer_settled (os := s.cpt.outstanding) (restartDone_settled hs) _ _ rfl]
  rfl

/-! ## What a RESTART leaves -/

theorem finalList_eq (s : State) : finalList s =
    if s.evu.listOpen = true ∧ (∀ m ∈ s.evu.list, m.kind ≠ .fmax) then
      s.evu.list ++ (s.evu.fm.map (plainMilestone .fmax)).toList
    else s.evu.list := by
  have hrecord : ∀ fm, willRecord (plainMilestone .fmax fm) s = true ↔
      s.evu.listOpen = true ∧ ∀ m ∈ s.evu.list, m.kind ≠ .fmax := by
    intro fm
    simp [willRecord, alreadyRecorded, listFull, reservedKind, plainMilestone]
  unfold finalList
  cases hf : s.evu.fm with
  | none => simp
  | some fm =>
    simp only [hrecord, Option.map_some, Option.toList_some]

theorem closedEvu_closed (new : SeqState) (cause : EndCause) {s t : State}
    (h : t.evu = closedEvu new cause s) : EvaluationClosed new cause s t := by
  have hlist := finalList_eq s
  constructor <;> rw [h]
  · exact ⟨rfl, rfl, rfl⟩
  · rfl
  · exact hlist

theorem latchedClasses_lowest {s : State} {c : TripClass} (hc : latched s c = true)
    (hlow : ∀ d : TripClass, (tripNumber d).val < (tripNumber c).val → latched s d = false) :
    ∃ rest, latchedClasses s = c :: rest := by
  have hsorted : allTrips.Pairwise fun a b => (tripNumber a).val < (tripNumber b).val := by decide
  have hmem : c ∈ allTrips := by cases c <;> decide
  obtain ⟨before, after, heq⟩ := List.append_of_mem hmem
  rw [heq] at hsorted
  have hnone : before.filter (latched s) = [] := List.filter_eq_nil_iff.2 fun d hd => by
    simp [hlow d ((List.pairwise_append.1 hsorted).2.2 d hd c (by simp))]
  exact ⟨after.filter (latched s), by
    rw [latchedClasses, heq, List.filter_append, hnone, List.filter_cons_of_pos hc, List.nil_append]⟩

theorem latchedClasses_empty {s : State} (h : latchEmpty s = true) : latchedClasses s = [] := by
  simpa [latchEmpty, latchedClasses] using h

theorem restartedTsq_cases (s : State) :
    (restartedTsq s).state =
      (if inTest s then .aborted else if s.tsq.state = .armed then .idle else s.tsq.state) ∧
    (restartedTsq s).endCause = (if inTest s then some .restart else s.tsq.endCause) ∧
    (inTest s = true ∨ s.tsq.state = .armed → (restartedTsq s).specimen = none) ∧
    (inTest s = false → s.tsq.state ≠ .armed → restartedTsq s = s.tsq) ∧
    ∀ t : State, t.now = s.now → t.tsq = restartedTsq s → testTime t = testTime s := by
  unfold restartedTsq
  by_cases ht : inTest s = true
  · simp [ht, endedTsq]
    intro t hn htsq
    simp [testTime, htsq]
  · by_cases ha : s.tsq.state = .armed
    · simp [ht, ha]
      intro t hn htsq
      simp [testTime, htsq, hn]
    · simp [ht, ha]
      intro t hn htsq
      simp [testTime, htsq, hn]

theorem restartedTsq_prog (s : State) : (restartedTsq s).prog = s.tsq.prog := by
  unfold restartedTsq
  split
  · rfl
  · split <;> rfl

theorem restartDone_workingCopies (s : State) : workingCopies (restartDone s) = workingCopies s := by
  have hexh : (restartedExh s.exh).extset = s.exh.extset := by
    unfold restartedExh
    split <;> rfl
  have h : workingCopies (restartDone s) = { workingCopies s with
      prog := (restartedTsq s).prog, extset := (restartedExh s.exh).extset } := rfl
  rw [h, restartedTsq_prog, hexh]
  rfl

/-- The handler after a RESTART. -/
theorem restartedExh_cases (x : Exh) :
    (restartedExh x).handler = (if x.handler = .opened then .opened else .detached) ∧
    (restartedExh x).reported = none ∧
    (x.handler = .settling ∨ x.handler = .attached ∨ x.handler = .lost →
      (restartedExh x).zeroA = none ∧ (restartedExh x).zeroB = none ∧
        (restartedExh x).settleAt = none ∧ (restartedExh x).averaging = none) := by
  unfold restartedExh
  cases hx : x.handler <;> simp

/-- The notices after a RESTART (R178). -/
theorem recordsAgain_cases (s : State) :
    (∀ src : Source, src ≠ .trip → (recordsAgain s)[sourceNumber src] = none) ∧
    (latchEmpty s = true ∨ noticeLevel s .trip = .off → (recordsAgain s)[sourceNumber .trip] = none) ∧
    (s.cpt.link = none → ∀ k : Fin 10, (recordsAgain s)[k] = none) := by
  unfold recordsAgain
  refine ⟨fun src hsrc => ?_, fun h => ?_, fun h k => ?_⟩
  · split
    · simp
    · split
      · simp
      · simp [sourceNumber_ne hsrc]
  · obtain h | h := h
    · simp [latchedClasses_empty h]
    · split <;> simp [h]
  · split <;> simp [h]

theorem linkAgain_free {s : State} (h : s.cpt.link = none) : linkAgain s = none ∨
    ∃ c, linkAgain s = some (firstNotice .trip (.tripped c) s) := by
  unfold linkAgain
  split
  · exact .inl h
  · rename_i c rest _
    split
    · exact .inl h
    · exact .inr ⟨c, by rw [h]; rfl⟩

/-- The lowest-numbered latched class is raised again, on a FREE link and on a BUSY one. -/
theorem raisedAgain {s : State} {c : TripClass} {rest : List TripClass}
    (h : latchedClasses s = c :: rest) (hv : noticeLevel s .trip ≠ .off) :
    (s.cpt.link = none → linkAgain s = some (firstNotice .trip (.tripped c) s)) ∧
    (s.cpt.link.isSome = true → (recordsAgain s)[sourceNumber .trip] =
      some { detail := .tripped c, count := 1, time := runClock s }) := by
  unfold linkAgain recordsAgain
  rw [h]
  refine ⟨fun hl => ?_, fun hl => ?_⟩
  · simp [hv, hl]
  · have hn : s.cpt.link ≠ none := Option.isSome_iff_ne_none.1 hl
    simp [hv, hn]

theorem firstNotice_eq (src : Source) (d : NoticeDetail) (s : State) : firstNotice src d s =
    .notice { source := src, level := noticeLevel s src, detail := d, count := 1
              time := BitVec.ofNat 32 s.now } := by
  simp [firstNotice, runClock]

/-- Settles O51. -/
theorem restartActsOnBlocks : Obligations.RestartActsOnBlocks := by
  intro dt tag s h
  obtain ⟨hstate, hcause, hspecimen, htsq, htime⟩ := restartedTsq_cases (later dt s)
  obtain ⟨hhandler, hreported, hzeros⟩ := restartedExh_cases s.exh
  obtain ⟨hothers, htrip, hfree⟩ := recordsAgain_cases (later dt s)
  refine ⟨_, exec_restart dt tag h, ?_, hstate, hcause, htime _ rfl rfl, hspecimen, htsq, ?_, ?_, ?_, rfl,
    hhandler, hreported, hzeros, rfl, rfl, rfl, rfl, rfl, rfl, rfl, rfl, rfl, rfl, ?_, rfl, rfl, rfl, ?_,
    rfl, hothers, htrip, ?_, rfl, rfl, rfl, rfl, rfl, rfl, rfl, rfl, rfl, rfl⟩
  case refine_1 =>
    refine ⟨⟨s.cpt.outstanding, rfl, rfl⟩, ?_⟩
    simp only [answered, restartDone]
    cases linkAgain (later dt s) with
    | none => exact .inl rfl
    | some f => exact .inr ⟨_, rfl⟩
  case refine_2 => exact fun ht => if_neg (Bool.eq_false_iff.1 ht)
  case refine_3 => exact fun ht => closedEvu_closed _ _ (if_pos ht)
  case refine_4 =>
    intro n hn hl
    simp only [answered, restartDone, Option.some.injEq] at hn
    obtain h | ⟨c, h⟩ := linkAgain_free (s := later dt s) hl
    · rw [h] at hn
      cases hn
    · rw [h] at hn
      cases hn
      rfl
  case refine_5 =>
    intro c
    simp [condition, answered, restartDone, restarted, clearedPru]
  case refine_6 => exact restartDone_workingCopies (later dt s)
  case refine_7 =>
    intro c hc hlow hv
    obtain ⟨rest, hrest⟩ := latchedClasses_lowest (s := later dt s) hc hlow
    obtain ⟨hsent, hpending⟩ := raisedAgain hrest hv
    refine ⟨fun hl => ⟨hfree hl _, ?_⟩, hpending⟩
    simp only [answered, restartDone, hsent hl, Option.getD_some]
    exact congrArg some (firstNotice_eq _ _ _)

end Sys2Proof.Machine
end

section
/-!
SUPPORT. The link at rest through an event's consequences, and the replacement of ROUTE (R9, R14, R162).
-/

namespace Sys2Proof.Machine

/-! ## The link at rest -/

theorem noticed_settled {s : State} (h : Settled s) (src : Source) (d : NoticeDetail) :
    Settled (noticed src d s) := by
  rw [noticed_eq]
  intro hl
  dsimp only at hl ⊢
  split at hl
  · rename_i hoff
    obtain ⟨hd, hr, hn⟩ := h hl
    exact ⟨hd, hr, fun k => by rw [if_pos (.inl hoff)]; exact hn k⟩
  · cases hl

/-- On a settled link no measurement frame starts: nothing waits afterwards either, and the route table
with its raw holdings stays. -/
theorem Moves.settled {b : Bool} {s t : State} (m : Moves b s t) (h : Settled s) :
    Settled t ∧ t.rtb = s.rtb := by
  induction m with
  | trans _ _ ih ih' =>
    obtain ⟨hs, hr⟩ := ih h
    obtain ⟨hs', hr'⟩ := ih' hs
    exact ⟨hs', hr'.trans hr⟩
  | quiet e | slipCounted _ _ e | entered _ e | lossArmed _ _ _ e | streamTimed _ _ _ e =>
    simp only [ledger, Ledger.mk.injEq] at e
    refine ⟨?_, by simp [e]⟩
    simpa [Settled, e] using h
  | raised src d s =>
    rw [raise_settled h]
    exact ⟨noticed_settled h src d, by rw [noticed_eq]⟩
  | tareAnswered tag code d p s =>
    unfold answerTare
    rw [joinReply_settled (by exact h)]
    exact ⟨fun hl => absurd hl (by simp), rfl⟩
  | recorded | tripCounted | lossCleared => exact ⟨h, rfl⟩

/-- The tags and kinds of outstanding orders. -/
def labels (os : List Outstanding) : List (Byte × Byte) := os.map fun o => (o.tag, o.kind)

/-- An order is the newest outstanding, behind orders of given tags and kinds. -/
def Newest (own : Outstanding) (ls : List (Byte × Byte)) (s : State) : Prop :=
  ∃ os, s.cpt.outstanding = os ++ [own] ∧ labels os = ls

theorem answerFirst_newest (tag kind : Byte) {own : Outstanding} (hk : own.kind ≠ kind) :
    ∀ os : List Outstanding, ∃ os', answerFirst tag kind (os ++ [own]) = os' ++ [own] ∧
      labels os' = labels os
  | [] => ⟨[], by simp [answerFirst, hk], rfl⟩
  | o :: os => by
    obtain ⟨os', heq, hl⟩ := answerFirst_newest tag kind hk os
    simp only [List.cons_append, answerFirst]
    split
    · exact ⟨_ :: os, rfl, rfl⟩
    · exact ⟨o :: os', by rw [heq]; rfl, congrArg (_ :: ·) hl⟩

/-- Only the TARE order is answered by an event's consequences. -/
theorem Moves.newest {b : Bool} {s t : State} (m : Moves b s t) {own : Outstanding}
    {ls : List (Byte × Byte)} (hk : own.kind ≠ orderCode .tare) (h : Newest own ls s) :
    Newest own ls t := by
  have same : ∀ {u v : State}, v.cpt.outstanding = u.cpt.outstanding → Newest own ls u →
      Newest own ls v := by
    rintro u v hc ⟨os, ho, hl⟩
    exact ⟨os, hc.trans ho, hl⟩
  induction m with
  | trans _ _ ih ih' => exact ih' (ih h)
  | quiet e | slipCounted _ _ e | entered _ e | lossArmed _ _ _ e | streamTimed _ _ _ e =>
    simp only [ledger, Ledger.mk.injEq] at e
    exact same (by simp [e]) h
  | raised | lossCleared => exact same (by simp) h
  | tareAnswered tag code d p s =>
    obtain ⟨os, ho, hl⟩ := h
    obtain ⟨os', heq, hl'⟩ := answerFirst_newest tag (orderCode .tare) hk os
    refine ⟨os', ?_, hl'.trans hl⟩
    simp [answerTare, joinReply, ho, heq]
  | recorded | tripCounted => exact h

/-! ## The events of a replacement of ROUTE -/

/-- The part with another route table and the raw holdings of entries tapped in both (R14). -/
def rerouted (new : Option RouteTable) (s : State) : State :=
  s.setRtb { route := new, holdings := keepHoldings s.rtb.route new s.rtb.holdings }

/-- A channel's entry is another one (R9). -/
def moved (new : Option RouteTable) (s : State) (c : Channel) : Bool :=
  decide (entryOf new c ≠ entryOf s.rtb.route c)

/-- A channel is lost by the replacement (R9). -/
def dropped (new : Option RouteTable) (s : State) (c : Channel) : Bool :=
  moved new s c && channelUp s c

/-- The loss of a channel by the replacement. -/
def dropChannel (new : Option RouteTable) (s : State) (c : Channel) (t : State) : State :=
  if dropped new s c then channelLost c t else t

/-- A channel is restored by the replacement (R9). -/
def gained (new : Option RouteTable) (s : State) (c : Channel) : Bool :=
  moved new s c && channelUp (rerouted new s) c

section route

variable {new : Option RouteTable} {s t : State}

theorem dropChannel_stage (ht : SameStage (rerouted new s) t) (c : Channel) :
    SameStage (rerouted new s) (dropChannel new s c t) := by
  unfold dropChannel
  split
  · exact ht.trans (channelLost_moves t c).stage
  · exact ht

/-- The events of one channel, on the stage of the replacement. -/
theorem routeEvents_eq (ht : SameStage (rerouted new s) t) (c : Channel) :
    routeEvents s.rtb.route c t =
      if gained new s c then channelRestored c (dropChannel new s c t) else dropChannel new s c t := by
  have hroute : t.rtb.route = new := ht.route
  have hup : channelUpUnder t s.rtb.route c = channelUp s c := by
    simp only [channelUpUnder, channelUp, laneUp, ht.lif]
    rfl
  unfold routeEvents
  rw [hroute]
  by_cases hm : entryOf new c = entryOf s.rtb.route c
  · have hdrop : dropped new s c = false := by simp [dropped, moved, hm]
    have hgain : gained new s c = false := by simp [gained, moved, hm]
    rw [if_pos hm.symm]
    simp [dropChannel, hdrop, hgain]
  · have hdrop : (if channelUpUnder t s.rtb.route c then channelLost c t else t) =
        dropChannel new s c t := by
      simp [dropChannel, dropped, moved, hm, hup]
    have hgain : gained new s c = channelUp (dropChannel new s c t) c := by
      simp [gained, moved, hm, (dropChannel_stage ht c).channelUp c]
    rw [if_neg (Ne.symm hm), hdrop, hgain]

theorem channelRestored_keeps (c : Channel) (t : State) :
    calm (channelRestored c t) = calm t ∧ sparedArms (channelRestored c t) = sparedArms t ∧
      ofCrosshead (channelRestored c t) = ofCrosshead t ∧ ofLoad (channelRestored c t) = ofLoad t := by
  cases c with
  | load => exact restoreLoad_all t
  | xhead | extA | extB | unused => exact ⟨rfl, rfl, rfl, rfl⟩

/-- The events of one channel are a run; they leave the calm fields, and LOAD's and the crosshead's own
unless theirs are dropped. -/
theorem routeEvents_keeps (ht : SameStage (rerouted new s) t) (c : Channel) :
    Moves true t (routeEvents s.rtb.route c t) ∧ calm (routeEvents s.rtb.route c t) = calm t ∧
    ofLoad (routeEvents s.rtb.route c t) =
      (if c = .load ∧ dropped new s c = true then staledLoad t else ofLoad t) ∧
    (routeEvents s.rtb.route c t).xhu.good =
      (if c = .xhead ∧ dropped new s c = true then false else t.xhu.good) ∧
    LossStep (fun armB => armChannel armB = c ∧ dropped new s c = true) t (routeEvents s.rtb.route c t) := by
  have hdrop : Moves true t (dropChannel new s c t) ∧ calm (dropChannel new s c t) = calm t ∧
      ofLoad (dropChannel new s c t) =
        (if c = .load ∧ dropped new s c = true then staledLoad t else ofLoad t) ∧
      (dropChannel new s c t).xhu.good =
        (if c = .xhead ∧ dropped new s c = true then false else t.xhu.good) ∧
      LossStep (fun armB => armChannel armB = c ∧ dropped new s c = true) t (dropChannel new s c t) := by
    unfold dropChannel
    cases hd : dropped new s c with
    | true =>
      have hgood := congrArg Prod.fst (channelLost_ofCrosshead c t)
      simp only [if_true, and_true]
      refine ⟨channelLost_moves t c, channelLost_calm c t, channelLost_ofLoad c t, ?_,
        channelLost_step c t⟩
      rw [apply_ite Prod.fst] at hgood
      exact hgood
    | false =>
      simp only [Bool.false_eq_true, if_false, and_false]
      exact ⟨.refl t, trivial, trivial, trivial, .inl ⟨rfl, rfl⟩⟩
  rw [routeEvents_eq ht]
  by_cases hg : gained new s c = true
  · obtain ⟨hm, hcalm, hload, hgood, hstep⟩ := hdrop
    obtain ⟨hcalm', hspared', hcross', hload'⟩ := channelRestored_keeps c (dropChannel new s c t)
    rw [if_pos hg]
    refine ⟨hm.trans (channelRestored_moves _ c), hcalm'.trans hcalm, hload'.trans hload,
      (congrArg Prod.fst hcross').trans hgood, ?_⟩
    cases c with
    | load =>
      obtain ⟨ha, hp⟩ | ⟨armB, ⟨h, -⟩, -⟩ := hstep
      · exact .inl ⟨hspared'.trans ha, (calm_pos hcalm').trans hp⟩
      · cases armB <;> cases h
    | xhead | extA | extB | unused => exact hstep
  · rw [if_neg hg]
    exact hdrop

end route

/-! ## All the events of a replacement -/

section events

variable (new : Option RouteTable) (s : State)

/-- The part after the channels' events. -/
def afterEvents : State :=
  inOpenOrder (ownedChannels.map (routeEvents s.rtb.route)) (rerouted new s)

theorem replaceRoute_eq : replaceRoute new s = fallbackUnmapped (afterEvents new s) := rfl

theorem afterEvents_moves : Moves true (rerouted new s) (afterEvents new s) := by
  refine inOpenOrder_keeps (P := Moves true (rerouted new s)) _ _
    (fun t n h => h.trans (choices_moves t n)) (fun act ha t ht => ?_) (.refl _)
  obtain ⟨c, -, rfl⟩ := List.mem_map.1 ha
  exact ht.trans (routeEvents_keeps ht.stage c).1

/-- A view no event of the replacement moves. -/
theorem afterEvents_view {α : Type} (view : State → α)
    (hc : ∀ t n, view { t with choices := n } = view t)
    (h : ∀ c ∈ ownedChannels, ∀ t, SameStage (rerouted new s) t →
      view (routeEvents s.rtb.route c t) = view t) :
    view (afterEvents new s) = view (rerouted new s) := by
  have hboth : SameStage (rerouted new s) (afterEvents new s) ∧
      view (afterEvents new s) = view (rerouted new s) := by
    refine inOpenOrder_keeps
      (P := fun t => SameStage (rerouted new s) t ∧ view t = view (rerouted new s)) _ _
      (fun t n ⟨hs, hv⟩ => ⟨hs.trans (choices_moves (b := true) t n).stage, (hc t n).trans hv⟩)
      (fun act ha t ⟨hs, hv⟩ => ?_) ⟨.refl _, rfl⟩
    obtain ⟨c, hm, rfl⟩ := List.mem_map.1 ha
    exact ⟨hs.trans (routeEvents_keeps hs c).1.stage, (h c hm t hs).trans hv⟩
  exact hboth.2

/-- The events of one channel bring about what all events keep. -/
theorem afterEvents_reaches {P Q : State → Prop} {c : Channel} (hm : c ∈ ownedChannels)
    (hc : ∀ t n, P t → P { t with choices := n })
    (hP : ∀ d ∈ ownedChannels, ∀ t, SameStage (rerouted new s) t → P t →
      P (routeEvents s.rtb.route d t))
    (ha : ∀ t, SameStage (rerouted new s) t → P t → Q (routeEvents s.rtb.route c t))
    (hQ : ∀ d ∈ ownedChannels, ∀ t, SameStage (rerouted new s) t → Q t →
      Q (routeEvents s.rtb.route d t))
    (hs : P (rerouted new s)) : Q (afterEvents new s) := by
  have step : ∀ (R : State → Prop), (∀ d ∈ ownedChannels, ∀ t, SameStage (rerouted new s) t → R t →
      R (routeEvents s.rtb.route d t)) → ∀ act ∈ ownedChannels.map (routeEvents s.rtb.route),
      ∀ t, SameStage (rerouted new s) t ∧ R t → SameStage (rerouted new s) (act t) ∧ R (act t) := by
    rintro R hR act hact t ⟨hst, hr⟩
    obtain ⟨d, hd, rfl⟩ := List.mem_map.1 hact
    exact ⟨hst.trans (routeEvents_keeps hst d).1.stage, hR d hd t hst hr⟩
  have h : SameStage (rerouted new s) (afterEvents new s) ∧ Q (afterEvents new s) := by
    refine inOpenOrder_reaches (P := fun t => SameStage (rerouted new s) t ∧ P t)
      (Q := fun t => SameStage (rerouted new s) t ∧ Q t)
      (List.mem_map.2 ⟨c, hm, rfl⟩)
      (fun t n ⟨hst, hp⟩ => ⟨hst.trans (choices_moves (b := true) t n).stage, hc t n hp⟩)
      (step P hP) (fun t ⟨hst, hp⟩ => ?_) (step Q hQ) ⟨.refl _, hs⟩
    exact ⟨hst.trans (routeEvents_keeps hst c).1.stage, ha t hst hp⟩
  exact h.2

theorem afterEvents_calm : calm (afterEvents new s) = calm (rerouted new s) :=
  afterEvents_view new s calm (fun _ _ => rfl) fun c _ _ ht => (routeEvents_keeps ht c).2.1

theorem afterEvents_ofLoad : ofLoad (afterEvents new s) =
    if dropped new s .load = true then staledLoad s else ofLoad s := by
  have hstale : ∀ t, ofLoad t = ofLoad s ∨ ofLoad t = staledLoad s → staledLoad t = staledLoad s := by
    rintro t (ht | ht)
    · have : t.lch.last = s.lch.last := congrArg Prod.fst ht
      simp only [staledLoad, this]
    · have : t.lch.last = { s.lch.last with quality := .stale } := congrArg Prod.fst ht
      simp only [staledLoad, this]
  split
  · rename_i hd
    have hstep : ∀ c t, SameStage (rerouted new s) t →
        ofLoad (routeEvents s.rtb.route c t) = ofLoad t ∨
          ofLoad (routeEvents s.rtb.route c t) = staledLoad t := by
      intro c t ht
      rw [(routeEvents_keeps ht c).2.2.1]
      split
      · exact .inr rfl
      · exact .inl rfl
    refine afterEvents_reaches new s (c := .load)
      (P := fun t => ofLoad t = ofLoad s ∨ ofLoad t = staledLoad s)
      (Q := fun t => ofLoad t = staledLoad s) (by decide) (fun _ _ h => h) (fun d _ t ht hp => ?_)
      (fun t ht hp => ?_) (fun d _ t ht hq => ?_) (.inl rfl)
    · obtain h | h := hstep d t ht
      · rwa [h]
      · exact .inr (h.trans (hstale t hp))
    · rw [(routeEvents_keeps ht .load).2.2.1, if_pos ⟨rfl, hd⟩, hstale t hp]
    · obtain h | h := hstep d t ht
      · rw [h, hq]
      · exact h.trans (hstale t (.inr hq))
  · rename_i hd
    refine afterEvents_view new s ofLoad (fun _ _ => rfl) fun c _ t ht => ?_
    rw [(routeEvents_keeps ht c).2.2.1, if_neg]
    rintro ⟨rfl, h⟩
    exact hd h

theorem afterEvents_good : (afterEvents new s).xhu.good =
    if dropped new s .xhead = true then false else s.xhu.good := by
  split
  · rename_i hd
    refine afterEvents_reaches new s (c := .xhead) (P := fun _ => True)
      (Q := fun t => t.xhu.good = false) (by decide) (fun _ _ h => h) (fun _ _ _ _ h => h)
      (fun t ht _ => ?_) (fun d _ t ht hq => ?_) trivial
    · rw [(routeEvents_keeps ht .xhead).2.2.2.1, if_pos ⟨rfl, hd⟩]
    · rw [(routeEvents_keeps ht d).2.2.2.1, hq, ite_self]
  · rename_i hd
    refine afterEvents_view new s (fun t => t.xhu.good) (fun _ _ => rfl) fun c _ t ht => ?_
    rw [(routeEvents_keeps ht c).2.2.2.1, if_neg]
    rintro ⟨rfl, h⟩
    exact hd h

/-- An arm in use is lost by the replacement. -/
def DropsArm (armB : Bool) : Prop := ArmUsed s armB ∧ dropped new s (armChannel armB) = true

theorem afterEvents_exh :
    ((∀ armB, DropsArm new s armB → s.exh.handler ≠ .attached ∧ s.exh.handler ≠ .settling) →
      (afterEvents new s).exh = s.exh) ∧
    ∀ armB, DropsArm new s armB →
      (s.exh.handler = .settling → (afterEvents new s).exh = detachedExh s.exh) ∧
      (s.exh.handler = .attached → LostAttached (rerouted new s) (afterEvents new s)) := by
  have hsteps : ∀ act ∈ ownedChannels.map (routeEvents s.rtb.route), ∀ t,
      SameStage (rerouted new s) t → SameStage (rerouted new s) (act t) ∧
        LossStep (fun armB => dropped new s (armChannel armB) = true) t (act t) := by
    intro act ha t ht
    obtain ⟨c, -, rfl⟩ := List.mem_map.1 ha
    obtain ⟨hm, -, -, -, hstep⟩ := routeEvents_keeps ht c
    refine ⟨ht.trans hm.stage, hstep.imp id ?_⟩
    rintro ⟨armB, ⟨rfl, hd⟩, h⟩
    exact ⟨armB, hd, h⟩
  have hchoice : ∀ t n, SameStage (rerouted new s) t → SameStage (rerouted new s)
      { t with choices := n } := fun t n h => h.trans (choices_moves (b := true) t n).stage
  refine ⟨fun h => lossActs_unmoved hchoice hsteps (.refl _) fun armB hd hu => h armB ⟨hu, hd⟩,
    fun armB ⟨hu, hd⟩ => ?_⟩
  have heq : ∀ t, SameStage (rerouted new s) t →
      routeEvents s.rtb.route (armChannel armB) t = armLost armB t := by
    intro t ht
    rw [routeEvents_eq ht, ← channelLost_arm, dropChannel, if_pos hd]
    cases armB <;> exact ite_self _
  have hmem : routeEvents s.rtb.route (armChannel armB) ∈
      ownedChannels.map (routeEvents s.rtb.route) := List.mem_map.2 ⟨_, armChannel_owned armB, rfl⟩
  exact ⟨fun hset => lossActs_settling hchoice hsteps (.refl _) hset hu hmem heq,
    fun hatt => lossActs_attached hchoice hsteps (.refl _) hatt hu hmem heq⟩

/-- A restored LOAD stops the fallback timer and counts force updates from 0 (R161, R162). -/
theorem afterEvents_restored (hg : gained new s .load = true) :
    streamTimes (afterEvents new s) = (none, 0) := by
  have hrestored : ∀ t, streamTimes (restoreLoad t) = (none, 0) := by
    intro t
    obtain ⟨-, hf, hc, -⟩ := restoreLoad_restored (protset := t.pru.protset) (t := t) rfl
    simp only [streamTimes, hf, hc]
  have hload : ∀ t, SameStage (rerouted new s) t →
      streamTimes (routeEvents s.rtb.route .load t) = (none, 0) := by
    intro t ht
    rw [routeEvents_eq ht, if_pos hg]
    exact hrestored _
  refine afterEvents_reaches new s (c := .load) (P := fun _ => True)
    (Q := fun t => streamTimes t = (none, 0)) (by decide) (fun _ _ h => h) (fun _ _ _ _ h => h)
    (fun t ht _ => hload t ht) (fun d hd t ht hq => ?_) trivial
  have hsame : ∀ c, c ≠ .load → streamTimes (channelLost c t) = streamTimes t ∧
      ∀ u, channelRestored c u = u := by
    intro c hc
    cases c with
    | load => exact absurd rfl hc
    | xhead => exact ⟨(losePosition_moves t).streamTimes, fun _ => rfl⟩
    | extA => exact ⟨(armLost_moves t false).streamTimes, fun _ => rfl⟩
    | extB => exact ⟨(armLost_moves t true).streamTimes, fun _ => rfl⟩
    | unused => exact ⟨rfl, fun _ => rfl⟩
  by_cases hl : d = .load
  · subst hl
    exact hload t ht
  · obtain ⟨hlost, hrest⟩ := hsame d hl
    rw [routeEvents_eq ht, hrest, ite_self, dropChannel]
    split
    · exact hlost.trans hq
    · exact hq

end events

end Sys2Proof.Machine
end

section
/-!
SUPPORT. The replacement of a working copy at its owner (R9, R14, R19, R32, R41, R63, R133, R173 to R175,
R183, R187, R190).
-/

namespace Sys2Proof.Machine

/-! ## ROUTE -/

theorem startFallback_on {s : State} (h : s.cpt.streamOn = true) :
    (startFallback s).cpt.fallbackAt = some (s.now + s.cpt.decimation * 250) := by
  simp [startFallback, h]

theorem fallbackUnmapped_all (s : State) : calm (fallbackUnmapped s) = calm s ∧
    sparedArms (fallbackUnmapped s) = sparedArms s ∧
    ofCrosshead (fallbackUnmapped s) = ofCrosshead s ∧ ofLoad (fallbackUnmapped s) = ofLoad s ∧
    Moves true s (fallbackUnmapped s) := by
  unfold fallbackUnmapped
  split
  · obtain ⟨hc, ha, hx, hl⟩ := startFallback_all s
    exact ⟨hc, ha, hx, hl, startFallback_moves s⟩
  · exact ⟨rfl, rfl, rfl, rfl, .refl s⟩

theorem replaceRoute_moves (new : Option RouteTable) (s : State) :
    Moves true (rerouted new s) (replaceRoute new s) :=
  (afterEvents_moves new s).trans (fallbackUnmapped_all _).2.2.2.2

theorem replaceRoute_calm (new : Option RouteTable) (s : State) :
    calm (replaceRoute new s) = calm (rerouted new s) :=
  (fallbackUnmapped_all _).1.trans (afterEvents_calm new s)

/-- The handler after a replacement of ROUTE. -/
theorem replaceRoute_handler (new : Option RouteTable) (s : State) :
    (replaceRoute new s).exh.handler =
      if ∃ armB : Bool, (∃ x, s.exh.extset = some x ∧ armInUse x armB = true) ∧
          entryOf new (armChannel armB) ≠ entryOf s.rtb.route (armChannel armB) ∧
          channelUp s (armChannel armB) = true then
        match s.exh.handler with
        | .attached => .lost
        | .settling => .detached
        | h => h
      else s.exh.handler := by
  obtain ⟨hkept, harm⟩ := afterEvents_exh new s
  have hexh : (replaceRoute new s).exh = (afterEvents new s).exh :=
    sparedArms_exh (fallbackUnmapped_all _).2.1
  have hdrop : ∀ armB, ((∃ x, s.exh.extset = some x ∧ armInUse x armB = true) ∧
      entryOf new (armChannel armB) ≠ entryOf s.rtb.route (armChannel armB) ∧
      channelUp s (armChannel armB) = true) ↔ DropsArm new s armB := by
    intro armB
    simp [DropsArm, ArmUsed, dropped, moved]
  rw [hexh]
  split
  · rename_i h
    obtain ⟨armB, h⟩ := h
    obtain ⟨hset, hatt⟩ := harm armB ((hdrop armB).1 h)
    cases hh : s.exh.handler with
    | attached => exact (hatt hh).handler
    | settling => rw [hset hh]; rfl
    | detached | lost | opened =>
      rw [hkept fun _ _ => by simp [hh], hh]
  · rename_i h
    rw [hkept fun armB hd => absurd ⟨armB, (hdrop armB).2 hd⟩ h]

theorem replaceRoute_replaced (new : Option RouteTable) {s : State} (h : Settled s) :
    RouteReplaced s (replaceRoute new s) := by
  have hm := replaceRoute_moves new s
  have hroute : (replaceRoute new s).rtb.route = new := hm.stage.route
  have hcross := congrArg Prod.fst (fallbackUnmapped_all (afterEvents new s)).2.2.1
  have hdrop : ∀ c, dropped new s c = true ↔
      entryOf new c ≠ entryOf s.rtb.route c ∧ channelUp s c = true := by
    intro c
    simp [dropped, moved]
  constructor
  · intro k
    have hr : (replaceRoute new s).rtb = (rerouted new s).rtb := (hm.settled (by exact h)).2
    rw [hr]
    simp [rerouted, keepHoldings]
  · have hl : ofLoad (replaceRoute new s) = _ :=
      (fallbackUnmapped_all _).2.2.2.1.trans (afterEvents_ofLoad new s)
    rw [if_congr (hdrop .load) rfl rfl] at hl
    rw [hroute]
    split
    · rename_i hd
      rw [if_pos hd] at hl
      simpa only [ofLoad, staledLoad, Prod.mk.injEq] using hl
    · rename_i hd
      rw [if_neg hd] at hl
      simpa only [ofLoad, Prod.mk.injEq] using hl
  · rw [hroute]
    have hg : (replaceRoute new s).xhu.good = _ := hcross.trans (afterEvents_good new s)
    rw [hg, dropped, moved]
    cases decide (entryOf new .xhead ≠ entryOf s.rtb.route .xhead) && channelUp s .xhead <;> simp
  · rw [hroute]
    exact replaceRoute_handler new s
  · intro hnone hon
    have hw := (afterEvents_moves new s).stage
    have hunmapped : (entryOf (afterEvents new s).rtb.route .load).isNone = true := by
      have : (afterEvents new s).rtb.route = new := hw.route
      rw [hroute] at hnone
      simp [this, hnone]
    rw [replaceRoute_eq, fallbackUnmapped, if_pos hunmapped,
      startFallback_on (hw.stream.1.trans hon), hw.now, hw.stream.2]
    rfl
  · intro hne hup
    have hup' : channelUp (rerouted new s) .load = true := by rwa [← hm.stage.channelUp]
    have hg : gained new s .load = true := by
      rw [hroute] at hne
      simp [gained, moved, hne, hup']
    have hmapped : ¬ (entryOf (afterEvents new s).rtb.route .load).isNone = true := by
      have hr : (afterEvents new s).rtb.route = new := (afterEvents_moves new s).stage.route
      have hu : channelUpUnder (rerouted new s) new .load = true := hup'
      unfold channelUpUnder at hu
      rw [hr]
      split at hu
      · cases hu
      · simp [*]
    rw [replaceRoute_eq, fallbackUnmapped, if_neg hmapped]
    have ht := afterEvents_restored new s hg
    simpa [streamTimes] using ht

/-! ## The calibration tables and LOADSET -/

theorem makeRequest_requested (h : Fin 4) (s : State) :
    (makeRequest h s).lch.requested = some h ∧ RequestMade (makeRequest h s) ∧
    (makeRequest h s).lch.dwell = none := by
  rw [makeRequest_eq]
  exact ⟨rfl, ⟨rfl, rfl⟩, rfl⟩

theorem coarsestValid_isSome {s : State} {g : Fin 4} (h : calValid s g = true) :
    (coarsestValid s).isSome = true := by
  rw [coarsestValid, List.find?_isSome]
  exact ⟨g, List.mem_finRange g, h⟩

/-- The part with another calibration table, its dwell timer stopped (R19). -/
def withCal (g : Fin 4) (new : Option CalTable) (s : State) : State :=
  s.setLch { s.lch with cal := s.lch.cal.set g new, dwell := none }

theorem calValid_withCal (g : Fin 4) (new : Option CalTable) (s : State) :
    calValid (withCal g new s) g = new.isSome := by
  simp [calValid, withCal]

/-- The range requested once a calibration table has been replaced, the new one being VALID or not, from
the coarsest VALID range then (R19, R39). -/
def calTarget (g : Fin 4) (s : State) (vld : Bool) (coarsest : Option (Fin 4)) : Option (Fin 4) :=
  if vld then
    if s.lch.requested.isSome then s.lch.requested
    else match (loadSettings s).mode with
      | .fixed h => some h
      | .auto => coarsest
  else if (loadSettings s).mode = .auto ∧ s.lch.requested = some g then coarsest
  else s.lch.requested

/-- The part with no range requested (assumption 40). -/
def unrequested (s : State) : State :=
  s.setLch { s.lch with requested := none, awaiting := false, repeatAt := none }

/-- The replacement leaves the request where its target is the requested range, else makes or ends it. -/
theorem replaceCal_eq (g : Fin 4) (new : Option CalTable) (s : State) :
    replaceCal false g new s =
      if calTarget g s new.isSome (coarsestValid (withCal g new s)) = s.lch.requested then
        withCal g new s
      else match calTarget g s new.isSome (coarsestValid (withCal g new s)) with
        | some h => makeRequest h (withCal g new s)
        | none => unrequested (withCal g new s) := by
  have hvalid := calValid_withCal g new s
  have hmode : loadSettings (withCal g new s) = loadSettings s := rfl
  have hreq : (withCal g new s).lch.requested = s.lch.requested := rfl
  have hfold : replaceCal false g new s =
      if new.isSome then
        if (withCal g new s).lch.requested.isNone && !false then initialRequest (withCal g new s)
        else withCal g new s
      else
        match (loadSettings (withCal g new s)).mode with
        | .fixed _ => withCal g new s
        | .auto =>
          if (withCal g new s).lch.requested = some g then
            match coarsestValid (withCal g new s) with
            | some h => makeRequest h (withCal g new s)
            | none => unrequested (withCal g new s)
          else withCal g new s := rfl
  rw [hfold, hmode, hreq]
  unfold calTarget
  cases hn : new.isSome with
  | true =>
    obtain ⟨k, hk⟩ := Option.isSome_iff_exists.1 (coarsestValid_isSome (hvalid.trans hn))
    cases hr : s.lch.requested with
    | some r => simp
    | none =>
      simp only [initialRequest, hk, hmode]
      cases (loadSettings s).mode <;> simp
  | false =>
    have hne : coarsestValid (withCal g new s) ≠ some g := by
      intro hc
      have := List.find?_some hc
      rw [hvalid, hn] at this
      cases this
    cases (loadSettings s).mode with
    | fixed _ => simp
    | auto =>
      by_cases hr : s.lch.requested = some g
      · simp [hr, hne]
      · simp [hr]

theorem replaceCal_replaced (g : Fin 4) (new : Option CalTable) (s : State) :
    CalReplaced g s (replaceCal false g new s) := by
  have hvalid := calValid_withCal g new s
  have target : ∀ t : State, calValid t g = new.isSome → coarsestValid t =
      coarsestValid (withCal g new s) → calTarget g s new.isSome (coarsestValid (withCal g new s)) =
        calTarget g s (calValid t g) (coarsestValid t) := by
    intro t hv hc
    rw [hv, hc]
  rw [replaceCal_eq]
  split
  · rename_i hsame
    exact ⟨rfl, ⟨rfl, rfl, rfl, rfl⟩, hsame.symm.trans (target _ hvalid rfl),
      fun _ h => absurd rfl h, fun h h' => by
        have : s.lch.requested = none := h
        simp [this] at h'⟩
  · rename_i hdiff
    split
    · rename_i h ht
      obtain ⟨hr, hmade, hdwell⟩ := makeRequest_requested h (withCal g new s)
      have hlch : (makeRequest h (withCal g new s)).lch.cal = (withCal g new s).lch.cal := by
        rw [makeRequest_eq]
      refine ⟨hdwell, by rw [makeRequest_eq]; exact ⟨rfl, rfl, rfl, rfl⟩, ?_, fun _ _ => hmade,
        fun h' => by rw [hr] at h'; cases h'⟩
      rw [hr, ← ht]
      exact target _ (by simpa [calValid, hlch] using hvalid) (by rw [makeRequest_eq]; rfl)
    · rename_i ht
      refine ⟨rfl, ⟨rfl, rfl, rfl, rfl⟩, ?_, fun h => absurd h (by simp [unrequested]), fun _ _ => rfl⟩
      exact ht.symm.trans (target _ hvalid rfl)

/-- The part with another LOADSET, its dwell timer stopped (R32). -/
def withLoadSet (new : Option LoadSet) (s : State) : State :=
  s.setLch { s.lch with loadset := new, dwell := none }

theorem replaceLoadSet_replaced (new : Option LoadSet) (s : State) :
    LoadSetReplaced s (replaceLoadSet false new s) := by
  have hfold : replaceLoadSet false new s =
      match (loadSettings (withLoadSet new s)).mode with
      | .fixed g =>
        if (withLoadSet new s).lch.requested = some g || false then withLoadSet new s
        else makeRequest g (withLoadSet new s)
      | .auto => withLoadSet new s := rfl
  rw [hfold]
  cases hmode : (loadSettings (withLoadSet new s)).mode with
  | auto =>
    refine ⟨rfl, ⟨rfl, rfl, rfl, rfl⟩, ?_, fun h => absurd rfl h⟩
    dsimp only
    rw [hmode]
    rfl
  | fixed g =>
    dsimp only
    split
    · rename_i hr
      refine ⟨rfl, ⟨rfl, rfl, rfl, rfl⟩, ?_, fun h => absurd rfl h⟩
      rw [hmode]
      simpa using hr
    · obtain ⟨hr, hmade, hdwell⟩ := makeRequest_requested g (withLoadSet new s)
      have hsettings : loadSettings (makeRequest g (withLoadSet new s)) =
          loadSettings (withLoadSet new s) := by
        rw [makeRequest_eq]
        rfl
      refine ⟨hdwell, by rw [makeRequest_eq]; exact ⟨rfl, rfl, rfl, rfl⟩, ?_, fun _ => hmade⟩
      rw [hsettings, hmode, hr]

/-! ## XSET -/

section tripped

variable {c d : TripClass} (s : State)

theorem settleLoadLost_condition (h : d ≠ .loadLost) :
    condition (settleLoadLost s) d = condition s d := by
  have hne : (tripNumber .loadLost).val ≠ (tripNumber d).val := by
    cases d <;> simp_all [tripNumber]
  unfold settleLoadLost
  split
  · rfl
  · simp [condition, clearLoadLost, hne]

theorem sequencerTrip_condition (h : d ≠ .loadLost) :
    condition (sequencerTrip c s) d = condition s d := by
  have hchange : ∀ n x u, condition (changeState n x u) d = condition u d := by
    intro n x u
    refine (settleLoadLost_condition _ h).trans ?_
    simp [condition, enterState]
  have htrip : ∀ u, condition (handTrip c u) d = condition u d := by
    intro u
    simp [condition]
  unfold sequencerTrip
  split
  · rw [hchange]
    rfl
  · rw [htrip, hchange]
  · rw [htrip, hchange]
  · rw [htrip]
  · rfl
  · rfl
  · rfl

/-- A trip moves its own class and LOAD-LOST only, and leaves the class latched (R134, R139, R142). -/
theorem spend_condition (h : d ≠ .loadLost) (hc : d ≠ c) :
    condition (spend c s) d = condition s d := by
  have hne : (tripNumber c).val ≠ (tripNumber d).val := by
    cases c <;> cases d <;> simp_all [tripNumber]
  have hset : condition (setCondition c .spent s) d = condition s d := by
    simp [condition, setCondition, hne]
  have htrip : ∀ u, condition (trip c u) d = condition u d := by
    intro u
    unfold trip
    split
    · rfl
    · refine (sequencerTrip_condition _ h).trans ?_
      have hraise : ∀ v, condition (raise .trip (.tripped c) v) d = condition v d := by
        intro v
        simp [condition]
      rw [hraise]
      exact settleLoadLost_condition _ h
  rw [spend, htrip, hset]

theorem spend_latched : latched (spend c s) c = true := by
  unfold spend trip
  split
  · rename_i h
    exact h
  · simp [latched, updateHistory]

end tripped

theorem replaceXSet_replaced (new : Option XSet) (s : State) :
    (replaceXSet new s).xhu.pos = s.xhu.pos ∧ (replaceXSet new s).xhu.demand = s.xhu.demand ∧
      ((replaceXSet new s).xhu.xset.isSome = true →
        (replaceXSet new s).xhu = { s.xhu with xset := (replaceXSet new s).xhu.xset } ∧
        (replaceXSet new s).pru = s.pru) ∧
      ((replaceXSet new s).xhu.xset = none → (replaceXSet new s).xhu.good = false ∧
        condition (replaceXSet new s) .travel = .clear ∧
        (s.xhu.good = true → s.xhu.lastEnable = true →
          latched (replaceXSet new s) .positionLost = true)) := by
  cases new with
  | some x => exact ⟨rfl, rfl, fun _ => ⟨rfl, rfl⟩, fun h => by cases h⟩
  | none =>
    have hfold : replaceXSet none s =
        losePosition (setCondition .travel .clear (s.setXhu { s.xhu with xset := none })) := rfl
    obtain ⟨hcalm, -, hcross, -⟩ :=
      losePosition_effect (setCondition .travel .clear (s.setXhu { s.xhu with xset := none }))
    rw [← hfold] at hcalm hcross
    have hxset : (replaceXSet none s).xhu.xset = none := by simp [hfold]
    simp only [calm, Prod.mk.injEq] at hcalm
    obtain ⟨-, -, ⟨hpos, hdemand, -⟩, -⟩ := hcalm
    refine ⟨hpos, hdemand, fun h => by simp [hxset] at h, fun _ => ⟨congrArg Prod.fst hcross, ?_, ?_⟩⟩
    · have htravel : ∀ u, condition (setCondition .travel .clear u) .travel = .clear := by
        intro u
        simp [condition, setCondition]
      rw [hfold, losePosition]
      split
      · dsimp only
        split
        · rw [spend_condition _ (by decide) (by decide), htravel]
        · exact htravel _
      · exact htravel _
    · intro hgood henable
      rw [hfold, losePosition, if_pos (by exact hgood)]
      exact (congrArg (latched · _) (if_pos henable)).trans (spend_latched _)

/-! ## EXTSET -/

theorem replaceExtSet_replaced (new : Option ExtSet) (s : State) :
    match s.exh.handler with
    | .settling => (replaceExtSet new s).exh.handler = .detached ∧
        (replaceExtSet new s).exh.settleAt = none ∧ (replaceExtSet new s).exh.averaging = none
    | .attached | .lost => (replaceExtSet new s).exh.handler = .detached ∧
        (replaceExtSet new s).exh.zeroA = none ∧ (replaceExtSet new s).exh.zeroB = none ∧
        (replaceExtSet new s).exh.reported = none
    | .detached | .opened =>
      (replaceExtSet new s).exh = { s.exh with extset := (replaceExtSet new s).exh.extset } := by
  unfold replaceExtSet
  cases hh : s.exh.handler <;> simp [failAttach, detach, raiseExt]

/-! ## NLEVELS -/

/-- Discarding the records of the sources that are OFF. -/
theorem discard_records (off : Source → Bool) (k : Source) :
    ∀ (srcs : List Source) (rs : Vector (Option NoticeRecord) 10),
      (srcs.foldl (fun rs src => if off src then rs.set (sourceNumber src) none else rs)
        rs)[sourceNumber k] =
      if k ∈ srcs ∧ off k = true then none else rs[sourceNumber k]
  | [], rs => by simp
  | src :: srcs, rs => by
    rw [List.foldl_cons, discard_records off k srcs]
    by_cases hk : k = src
    · subst hk
      cases off k <;> simp
    · have hne := sourceNumber_ne hk
      cases off src <;> simp [hk, hne]

theorem replaceLevels_records (new : Option NoticeLevels) (s : State) (src : Source) :
    (replaceLevels new s).ntu.records[sourceNumber src] =
      if noticeLevel (replaceLevels new s) src = .off then none
      else s.ntu.records[sourceNumber src] := by
  have hmem : src ∈ allSources := by cases src <;> decide
  have h := discard_records
    (fun x => decide (noticeLevel (replaceLevels new s) x = .off)) src allSources s.ntu.records
  simp only [hmem, true_and, decide_eq_true_eq] at h
  exact h

/-! ## The replacement at whichever owner -/

/-- A replacement is judged alike from two states that differ in the editions and the orders outstanding. -/
theorem Replaced.of_tst {x : TableId} {s u : State} (c : Tst) (os : List Outstanding)
    (h : Replaced x { s with tst := c, cpt := { s.cpt with outstanding := os } } u) :
    Replaced x s u := by
  cases x with
  | route =>
    obtain ⟨h1, h2, h3, h4, h5, h6⟩ : RouteReplaced _ u := h
    exact RouteReplaced.mk h1 h2 h3 h4 h5 h6
  | cal g =>
    obtain ⟨h1, h2, h3, h4, h5⟩ : CalReplaced g _ u := h
    exact CalReplaced.mk h1 h2 h3 h4 h5
  | loadset =>
    obtain ⟨h1, h2, h3, h4⟩ : LoadSetReplaced _ u := h
    exact LoadSetReplaced.mk h1 h2 h3 h4
  | extset | xset | protset | lineset | nlevels | prog k => exact h

/-- What ends the step a replacement is part of: an occurrence of the Table Store or the load session, the
answer to an order, the operation of the store. -/
structure Ending (u t : State) : Prop where
  only : t = { u with cpt := t.cpt, ntu := { u.ntu with records := t.ntu.records }, tst := t.tst }
  stream : t.cpt.fallbackAt = u.cpt.fallbackAt ∧ t.cpt.count = u.cpt.count
  records : ∀ src : Source, src ≠ .table → src ≠ .store →
    t.ntu.records[sourceNumber src] = u.ntu.records[sourceNumber src]

theorem Replaced.ending {x : TableId} {s u t : State} (h : Replaced x s u) (e : Ending u t) :
    Replaced x s t := by
  obtain ⟨honly, ⟨hfall, hcount⟩, hrec⟩ := e
  generalize t.cpt = c at honly hfall hcount
  generalize t.ntu.records = rs at honly hrec
  generalize t.tst = k at honly
  subst honly
  cases x with
  | route =>
    obtain ⟨h1, h2, h3, h4, h5, h6⟩ : RouteReplaced s u := h
    exact RouteReplaced.mk h1 h2 h3 h4 (fun hn ho => hfall.trans (h5 hn ho))
      fun hn hu => ⟨hfall.trans (h6 hn hu).1, hcount.trans (h6 hn hu).2⟩
  | cal g =>
    obtain ⟨h1, h2, h3, h4, h5⟩ : CalReplaced g s u := h
    exact CalReplaced.mk h1 h2 h3 h4 h5
  | loadset =>
    obtain ⟨h1, h2, h3, h4⟩ : LoadSetReplaced s u := h
    exact LoadSetReplaced.mk h1 h2 h3 h4
  | nlevels =>
    intro src h1 h2
    exact (hrec src h1 h2) ▸ h src h1 h2
  | extset | xset | protset | lineset | prog k => exact h

/-! ## The installation of a working copy -/

/-- What a replacement leaves alone beside the other working copies. -/
def steady (s : State) : Nat × Int × (Int × Option Int) × Option Session :=
  (s.now, s.lch.tare, (s.xhu.pos, s.xhu.demand), s.cpt.session)

theorem steady_of_calm {s t : State} (h : calm t = calm s) : steady t = steady s := by
  simp only [calm, Prod.mk.injEq] at h
  obtain ⟨hnow, -, ⟨hpos, hdemand, -⟩, htare, -, -, -, hsession⟩ := h
  simp only [steady, hnow, hpos, hdemand, htare, hsession]

theorem copies_of_calm {s t : State} (h : calm t = calm s) :
    workingCopies t = workingCopies s ∧ t.tst = s.tst := by
  simp only [calm, Prod.mk.injEq] at h
  obtain ⟨-, -, -, -, -, htst, hcopies, -⟩ := h
  exact ⟨hcopies, htst⟩

/-- The tables a replacement finds, and the rest it leaves alone. -/
structure Copied (x : TableId) (copy : Tables) (s u : State) : Prop where
  copies : workingCopies u = replacedCopies x copy s
  steady : steady u = steady s
  tst : u.tst = { s.tst with
    editions := s.tst.editions.set (tableNumber x) (s.tst.editions[tableNumber x] + 1) }

theorem makeRequest_calm (h : Fin 4) (s : State) : calm (makeRequest h s) = calm s := by
  rw [makeRequest_eq]
  rfl

theorem Copied.of_calm {x : TableId} {copy : Tables} {s t u : State} (h : Copied x copy s t)
    (hc : calm u = calm t) : Copied x copy s u := by
  obtain ⟨hcopies, htst⟩ := copies_of_calm hc
  exact ⟨hcopies.trans h.copies, (steady_of_calm hc).trans h.steady, htst.trans h.tst⟩

theorem install_copied (x : TableId) (copy : Tables) (s : State) :
    Copied x copy s (install false x copy s) := by
  cases x with
  | route =>
    have h : Copied .route copy s (rerouted copy.route (advanceEdition .route s)) := ⟨rfl, rfl, rfl⟩
    exact h.of_calm (replaceRoute_calm _ _)
  | cal g =>
    have h : Copied (.cal g) copy s (withCal g copy.cal[g] (advanceEdition (.cal g) s)) :=
      ⟨rfl, rfl, rfl⟩
    refine h.of_calm ?_
    have hi : install false (.cal g) copy s =
        replaceCal false g copy.cal[g] (advanceEdition (.cal g) s) := rfl
    rw [hi, replaceCal_eq]
    split
    · rfl
    · split
      · exact makeRequest_calm _ _
      · rfl
  | loadset =>
    have h : Copied .loadset copy s (withLoadSet copy.loadset (advanceEdition .loadset s)) :=
      ⟨rfl, rfl, rfl⟩
    refine h.of_calm ?_
    unfold install replaceLoadSet
    dsimp only
    split
    · split
      · rfl
      · exact makeRequest_calm _ _
    · rfl
  | extset =>
    have hraise : ∀ d u, Copied .extset copy s u → Copied .extset copy s (raiseExt d u) :=
      fun d u h => h.of_calm (calm_of_backbone (raiseExt_backbone u d))
    unfold install replaceExtSet
    dsimp only
    split
    · exact hraise _ _ ⟨rfl, rfl, rfl⟩
    · exact hraise _ _ ⟨rfl, rfl, rfl⟩
    · exact hraise _ _ ⟨rfl, rfl, rfl⟩
    · exact ⟨rfl, rfl, rfl⟩
    · exact ⟨rfl, rfl, rfl⟩
  | xset =>
    have h : Copied .xset copy s ((advanceEdition .xset s).setXhu
        { s.xhu with xset := copy.xset }) := ⟨rfl, rfl, rfl⟩
    unfold install replaceXSet
    dsimp only
    split
    · exact (h.of_calm (u := setCondition .travel .clear _) rfl).of_calm (losePosition_effect _).1
    · exact h
  | protset | lineset | nlevels | prog k => exact ⟨rfl, rfl, rfl⟩

/-- The owner applies the effects of a replacement on a settled link. -/
theorem install_replaced (x : TableId) (copy : Tables) {s : State} (h : Settled s) :
    Replaced x s (install false x copy s) := by
  refine Replaced.of_tst (advanceEdition x s).tst s.cpt.outstanding ?_
  have hs : Settled (advanceEdition x s) := h
  cases x with
  | route => exact replaceRoute_replaced copy.route hs
  | cal g => exact replaceCal_replaced g copy.cal[g] _
  | loadset => exact replaceLoadSet_replaced copy.loadset _
  | extset => exact replaceExtSet_replaced copy.extset (advanceEdition .extset s)
  | xset => exact replaceXSet_replaced copy.xset (advanceEdition .xset s)
  | protset => rfl
  | lineset =>
    refine ⟨rfl, fun i => ?_⟩
    simp only [lineFunction]
    cases (install false .lineset copy s).oln.lineset <;> rfl
  | nlevels =>
    intro src _ _
    have hr := replaceLevels_records copy.nlevels (advanceEdition .nlevels s) src
    refine ⟨fun hoff => hr.trans (if_pos hoff), fun hon _ => hr.trans (if_neg hon)⟩
  | prog k => rfl

/-- An installation is the replacement of the table and a run of consequences. -/
theorem install_moves (x : TableId) (copy : Tables) (s : State) : ∃ v : State, v.cpt = s.cpt ∧
    (Settled s → Settled v) ∧ Moves true v (install false x copy s) := by
  cases x with
  | route => exact ⟨rerouted copy.route (advanceEdition .route s), rfl, id, replaceRoute_moves _ _⟩
  | cal g => exact ⟨advanceEdition (.cal g) s, rfl, id, replaceCal_moves _ _ _ _⟩
  | loadset => exact ⟨advanceEdition .loadset s, rfl, id, replaceLoadSet_moves _ _ _⟩
  | extset => exact ⟨advanceEdition .extset s, rfl, id, replaceExtSet_moves _ _⟩
  | xset => exact ⟨advanceEdition .xset s, rfl, id, replaceXSet_moves _ _⟩
  | protset => exact ⟨advanceEdition .protset s, rfl, id,
      .after (clearConditions_moves _) (.quiet rfl)⟩
  | lineset => exact ⟨advanceEdition .lineset s, rfl, id, .quiet rfl⟩
  | prog k => exact ⟨advanceEdition (.prog k) s, rfl, id, .quiet rfl⟩
  | nlevels =>
    refine ⟨install false .nlevels copy s, rfl, fun h hl => ?_, .refl _⟩
    obtain ⟨hd, hr, hn⟩ := h hl
    refine ⟨hd, hr, fun k => ?_⟩
    obtain ⟨src, -, rfl⟩ : ∃ src ∈ allSources, sourceNumber src = k := by
      revert k
      decide
    have hrec := replaceLevels_records copy.nlevels (advanceEdition .nlevels s) src
    refine hrec.trans ?_
    split
    · rfl
    · exact hn _

theorem getElem_set_fin {α : Type} {n : Nat} (v : Vector α n) (g k : Fin n) (c : α) :
    (v.set g c)[k] = if k = g then c else v[k] := by
  simp only [Fin.getElem_fin, Vector.getElem_set, Fin.ext_iff, eq_comm]

theorem hasContent_copyTable (x : TableId) (src dst : Tables) (y : TableId) :
    hasContent (copyTable x src dst) y = if y = x then hasContent src x else hasContent dst y := by
  by_cases hy : y = x
  · subst hy
    cases y <;> simp [copyTable, hasContent]
  · rw [if_neg hy]
    cases x with
    | cal g =>
      cases y with
      | cal k =>
        have hk : k ≠ g := fun h => hy (congrArg TableId.cal h)
        exact congrArg Option.isSome ((getElem_set_fin dst.cal g k src.cal[g]).trans (if_neg hk))
      | route | loadset | extset | xset | protset | lineset | nlevels | prog _ => rfl
    | prog g =>
      cases y with
      | prog k =>
        have hk : k ≠ g := fun h => hy (congrArg TableId.prog h)
        exact congrArg Option.isSome ((getElem_set_fin dst.prog g k src.prog[g]).trans (if_neg hk))
      | route | loadset | extset | xset | protset | lineset | nlevels | cal _ => rfl
    | route | loadset | extset | xset | protset | lineset | nlevels =>
      cases y <;> simp_all [copyTable, hasContent]

/-- A replaced copy is VALID as its content is. -/
theorem valid_replaced {x : TableId} {copy : Tables} {s u : State}
    (h : workingCopies u = replacedCopies x copy s) (y : TableId) :
    valid u y = if y = x then hasContent copy x else valid s y := by
  unfold valid
  rw [h, replacedCopies, hasContent_copyTable]
  cases x with
  | nlevels => simp [hasContent]
  | route | cal g | loadset | extset | xset | protset | lineset | prog k => rfl

end Sys2Proof.Machine
end

section
/-!
SUPPORT. What ends a recall's step and a commit: the occurrence, the operation, the answer (R158, R170,
R182, R183, R190).
-/

namespace Sys2Proof.Machine

/-! ## Endings -/

theorem Ending.refl (u : State) : Ending u u := ⟨rfl, ⟨rfl, rfl⟩, fun _ _ _ => rfl⟩

theorem Ending.trans {s t u : State} (h : Ending s t) (h' : Ending t u) : Ending s u where
  only := by
    have h1 := h'.only
    rw [h.only] at h1
    rw [h1]
  stream := ⟨h'.stream.1.trans h.stream.1, h'.stream.2.trans h.stream.2⟩
  records := fun src h1 h2 => (h'.records src h1 h2).trans (h.records src h1 h2)

/-- The copies an ending leaves. -/
theorem Ending.copies {u t : State} (h : Ending u t) : workingCopies t = workingCopies u := by
  rw [h.only]
  rfl

/-- An occurrence of the Table Store or the load session on a settled link ends a step. -/
theorem ending_raise {u : State} (hs : Settled u) {src : Source} (hsrc : src = .table ∨ src = .store)
    (d : NoticeDetail) : Ending u (raise src d u) ∧ (raise src d u).tst = u.tst := by
  rw [raise_settled hs, noticed_eq]
  refine ⟨⟨rfl, ⟨rfl, rfl⟩, fun other h1 h2 => ?_⟩, rfl⟩
  have hne : other ≠ src := by
    rintro rfl
    exact hsrc.elim h1 h2
  dsimp only
  split
  · rfl
  · simp [sourceNumber_ne hne]

theorem ending_setStoreOp (op : StoreOp) (u : State) : Ending u (setStoreOp op u) :=
  ⟨rfl, ⟨rfl, rfl⟩, fun _ _ _ => rfl⟩

/-! ## A recall (R190) -/

/-- The part once a recall has reached a table, before the store goes on. -/
def recalledTable (intact : Bool) (x : TableId) (s : State) : State :=
  if tableInUse s x then s else install false x (recalledCopy intact s) s

/-- The tables a recall has left BLANK, after one more. -/
def blankAfter (intact : Bool) (x : TableId) (blank : List TableId) (s : State) : List TableId :=
  if tableInUse s x = false ∧ hasContent (recalledCopy intact s) x = false then blank ++ [x] else blank

/-- The tables a recall has kept, after one more. -/
def keptAfter (x : TableId) (kept : List TableId) (s : State) : List TableId :=
  if tableInUse s x then kept ++ [x] else kept

theorem completeRead_ends (intact : Bool) (target : StoreTarget) (x : TableId)
    (todo blank kept : List TableId) {s : State} (hs : Settled (recalledTable intact x s)) :
    Ending (recalledTable intact x s) (completeRead intact target x todo blank kept s) ∧
    (completeRead intact target x todo blank kept s).tst = { (recalledTable intact x s).tst with
      op := if todo = [] then .idle
        else .recalling target todo (blankAfter intact x blank s) (keptAfter x kept s) } := by
  have hblank : (if !tableInUse s x && !hasContent (recalledCopy intact s) x then blank ++ [x]
      else blank) = blankAfter intact x blank s := by
    simp [blankAfter]
  unfold completeRead
  dsimp only
  rw [hblank]
  cases todo with
  | nil =>
    obtain ⟨he, ht⟩ := ending_raise (u := setStoreOp .idle (recalledTable intact x s)) hs (.inr rfl)
      (.store .recall target
        (!(blankAfter intact x blank s).isEmpty || !(keptAfter x kept s).isEmpty)
        (blankAfter intact x blank s) (keptAfter x kept s))
    exact ⟨(ending_setStoreOp _ _).trans he, ht⟩
  | cons y rest => exact ⟨ending_setStoreOp _ _, rfl⟩

theorem recalledTable_settled {intact : Bool} {x : TableId} {s : State} (h : Settled s) :
    Settled (recalledTable intact x s) := by
  unfold recalledTable
  split
  · exact h
  · obtain ⟨v, -, hv, hm⟩ := install_moves x (recalledCopy intact s) s
    exact (hm.settled (hv h)).1

/-- Settles O29. -/
theorem recallReachesTable : Obligations.RecallReachesTable := by
  intro dt intact target x todo blank kept s hs hop
  have he : exec (.storeRecallReadComplete dt intact) s =
      .next (completeRead intact target x todo blank kept (elapse dt s)) := by
    simp only [exec, execStoreRecallReadComplete, hop]
  have hsettled : Settled (elapse dt s) := hs
  obtain ⟨hend, htst⟩ := completeRead_ends intact target x todo blank kept
    (recalledTable_settled (intact := intact) (x := x) hsettled)
  have hcopied := install_copied x (recalledCopy intact (elapse dt s)) (elapse dt s)
  refine ⟨_, he, ?_, fun hu => ?_, fun hu => ?_, fun ht => ?_, fun ht => ?_⟩
  · rw [htst]
    unfold recalledTable
    split
    · rfl
    · rw [hcopied.tst]
      rfl
  · have hkept : recalledTable intact x (elapse dt s) = elapse dt s := if_pos hu
    rw [hend.copies, htst, hkept]
    exact ⟨rfl, rfl⟩
  · have hinst : recalledTable intact x (elapse dt s) =
        install false x (recalledCopy intact (elapse dt s)) (elapse dt s) :=
      if_neg (by exact Bool.eq_false_iff.1 hu)
    rw [hinst] at hend htst
    have hcopies := hend.copies.trans hcopied.copies
    refine ⟨?_, valid_replaced hcopies, hcopies, (install_replaced x _ hsettled).ending hend⟩
    rw [htst, hcopied.tst]
    rfl
  · rw [htst, if_pos ht]
  · rw [htst, if_neg ht]
    exact ⟨_, _, rfl, rfl, rfl⟩

end Sys2Proof.Machine
end

section
/-!
SUPPORT. TABLE-COMMIT: its refusals and the accepted commit (R182, R183).
-/

namespace Sys2Proof.Machine

/-! ## The condition a refusal names (assumption 4) -/

theorem mem_failing {id : TableId} {es : List Entry} {n : Nat} :
    n ∈ failing id es ↔ (conditions id es)[n]? = some false := by
  simp only [failing, List.mem_filter, List.mem_range, List.getD_eq_getElem?_getD]
  cases h : (conditions id es)[n]? with
  | none => simp
  | some b =>
    obtain ⟨hlt, -⟩ := List.getElem?_eq_some_iff.1 h
    simp [hlt]

theorem failing_ne_nil {id : TableId} {es : List Entry} (h : validates id es = false) :
    failing id es ≠ [] := by
  obtain ⟨b, hb, hf⟩ := List.all_eq_false.1 h
  obtain ⟨n, hn, rfl⟩ := List.getElem_of_mem hb
  refine List.ne_nil_of_mem (a := n) (mem_failing.2 ?_)
  rw [List.getElem?_eq_getElem hn]
  exact congrArg some (Bool.eq_false_iff.2 hf)

/-- A refused validation names a condition that fails, whatever is chosen. -/
theorem namedCondition_fails {failed : List Nat} (h : failed ≠ []) (s : State) :
    ∃ n ∈ failed, ∃ c, namedCondition failed s = (n, { s with choices := c }) := by
  have hchosen : ∃ n ∈ failed, (failed[(openChoice failed.length s).1]?).getD 0 = n := by
    have hlt : (openChoice failed.length s).1 < failed.length :=
      Nat.mod_lt _ (List.length_pos_of_ne_nil h)
    exact ⟨_, List.getElem_mem hlt, by rw [List.getElem?_eq_getElem hlt]; rfl⟩
  unfold namedCondition
  split
  · rename_i n
    exact ⟨n, by simp, s.choices, rfl⟩
  · obtain ⟨n, hn, heq⟩ := hchosen
    exact ⟨n, hn, s.choices + 1, by rw [heq]; rfl⟩

/-! ## An accepted commit (R183) -/

/-- A commit that is accepted leaves a settled link, its own order the newest outstanding. -/
theorem commitTable_ends (x : TableId) (es : List Entry) {s : State} (h : Settled s)
    {own : Outstanding} {ls : List (Byte × Byte)} (hk : own.kind ≠ orderCode .tare)
    (hn : Newest own ls s) :
    Settled (commitTable x es s) ∧ Newest own ls (commitTable x es s) ∧
    Ending (install false x (readTable x es) s) (commitTable x es s) ∧
    (commitTable x es s).cpt.session = none ∧
    (commitTable x es s).tst = (install false x (readTable x es) s).tst := by
  obtain ⟨v, hcpt, hv, hm⟩ := install_moves x (readTable x es) s
  have hsettled : Settled (closeSession (install false x (readTable x es) s)) :=
    (hm.settled (hv h)).1
  have hnewest : Newest own ls (install false x (readTable x es) s) :=
    hm.newest hk (by simpa only [Newest, hcpt] using hn)
  have hclose : Ending (install false x (readTable x es) s)
      (closeSession (install false x (readTable x es) s)) :=
    ⟨rfl, ⟨rfl, rfl⟩, fun _ _ _ => rfl⟩
  obtain ⟨hend, htst⟩ := ending_raise hsettled (.inl rfl) (.table x false)
  refine ⟨?_, ?_, hclose.trans hend, ?_, htst⟩
  · rw [commitTable, raise_settled hsettled]
    exact noticed_settled hsettled _ _
  · obtain ⟨os, ho, hl⟩ := hnewest
    exact ⟨os, by simpa [commitTable] using ho, hl⟩
  · simp [commitTable, closeSession]

theorem hasContent_readTable (x : TableId) (es : List Entry) :
    hasContent (readTable x es) x = true := by
  cases x <;> simp [readTable, hasContent]

theorem ending_answered (r : Reply) (u : State) (os : List Outstanding) :
    Ending u (answered r { u with cpt := { u.cpt with outstanding := os } }) :=
  ⟨rfl, ⟨rfl, rfl⟩, fun _ _ _ => rfl⟩

/-- An answered order is the newest outstanding, and its reply is formed. -/
theorem answered_formed (r : Reply) {s u : State} {os : List Outstanding}
    (h : labels os = labels s.cpt.outstanding) :
    ReplyFormed r s (answered r { u with cpt := { u.cpt with outstanding := os } }) := by
  refine ⟨⟨os, rfl, h⟩, ?_⟩
  simp only [answered]
  cases u.cpt.link with
  | none => exact .inl rfl
  | some f => exact .inr ⟨_, rfl⟩

/-- The order TABLE-COMMIT has joined the outstanding set. -/
abbrev commitTaken (dt : Nat) (tag : Byte) (s : State) : State :=
  joinOutstanding (orderCode .tableCommit) tag (later dt s)

/-- The refusals of a commit that names a session, the first that applies deciding (R182). -/
theorem tableCommit_refused (dt : Nat) (tag : Byte) {s : State} (h : Ready s) {x : Session}
    (hx : s.cpt.session = some x) :
    let own := ownTableCommit tag [] (commitTaken dt tag s)
    let closed := { later dt s with cpt := { s.cpt with session := none } }
    let kept := { later dt s with cpt := { s.cpt with
      session := some { x with deadline := s.now + dt + 2000000 } } }
    (hasForm x.table x.staging = false →
      own = answered (detailReply .tableCommit tag .badArgument .entries) closed) ∧
    (hasForm x.table x.staging = true → validates x.table x.staging = false →
      ∃ n c, (conditions x.table x.staging)[n]? = some false ∧
        own = answered (detailReply .tableCommit tag .badArgument (.condition n))
          { closed with choices := c }) ∧
    (hasForm x.table x.staging = true → validates x.table x.staging = true →
      (tableInUse s x.table = true → own = answered (plainReply .tableCommit tag .inUse) kept) ∧
      (tableInUse s x.table = false → storeConcerns s x.table = true →
        own = answered (plainReply .tableCommit tag .busyStore) kept) ∧
      (tableInUse s x.table = false → storeConcerns s x.table = false →
        own = reply .tableCommit tag .done none none
          (commitTable x.table x.staging (commitTaken dt tag s)))) := by
  intro own closed kept
  have hx' : (commitTaken dt tag s).cpt.session = some x := hx
  have huse : tableInUse (commitTaken dt tag s) x.table =
      tableInUse s x.table := by cases x.table <;> rfl
  have hstore : storeConcerns (commitTaken dt tag s) x.table =
      storeConcerns s x.table := rfl
  have hclosed : Settled closed := h.1
  have hkept : Settled kept := h.1
  simp only [own, ownTableCommit, hx', huse, hstore]
  refine ⟨fun hf => ?_, fun hf hv => ?_, fun hf hv => ⟨fun hu => ?_, fun hu hc => ?_, fun hu hc => ?_⟩⟩
  · rw [hf]
    exact reply_join hclosed _ tag _ _ _
  · obtain ⟨n, hn, c, hnamed⟩ := namedCondition_fails (failing_ne_nil hv)
      (commitTaken dt tag s)
    refine ⟨n, c, mem_failing.1 hn, ?_⟩
    rw [hf, hv, hnamed]
    exact reply_join (s := { closed with choices := c }) hclosed _ tag _ _ _
  · rw [hf, hv, hu]
    exact reply_join hkept _ tag _ _ _
  · rw [hf, hv, hu, hc]
    exact reply_join hkept _ tag _ _ _
  · rw [hf, hv, hu, hc]
    rfl

/-- The accepted commit ends the replacement's step: its reply is formed and the session closed (R183). -/
theorem tableCommit_accepted (dt : Nat) (tag : Byte) {s : State} (h : Ready s) (x : Session) :
    let u := install false x.table (readTable x.table x.staging) (commitTaken dt tag s)
    let t := reply .tableCommit tag .done none none
      (commitTable x.table x.staging (commitTaken dt tag s))
    ReplyFormed (plainReply .tableCommit tag .done) s t ∧ t.cpt.session = none ∧
      Ending u t ∧ t.tst = u.tst := by
  intro u t
  have hs : Settled (commitTaken dt tag s) := h.1
  have hkind : orderCode .tableCommit ≠ orderCode .tare := by decide
  obtain ⟨hsettled, ⟨os, ho, hl⟩, hend, hsession, htst⟩ := commitTable_ends x.table x.staging hs
    (own := { tag := tag, kind := orderCode .tableCommit, answered := false })
    (ls := labels s.cpt.outstanding) hkind ⟨s.cpt.outstanding, rfl, rfl⟩
  have ht : t = answered (plainReply .tableCommit tag .done)
      { commitTable x.table x.staging (commitTaken dt tag s) with
        cpt := { (commitTable x.table x.staging (commitTaken dt tag s)).cpt with
          outstanding := os } } :=
    answer_settled hsettled os _ _ ho _ _ _
  rw [ht]
  exact ⟨answered_formed _ hl, hsession, hend.trans (ending_answered _ _ os), htst⟩

/-- What an ending leaves of the calm fields. -/
theorem Ending.fields {u t : State} (h : Ending u t) : t.now = u.now ∧ t.lch.tare = u.lch.tare ∧
    t.xhu.pos = u.xhu.pos ∧ t.xhu.demand = u.xhu.demand := by
  rw [h.only]
  exact ⟨rfl, rfl, rfl, rfl⟩

/-- The accepted commit replaces the copy, and leaves the rest (R183). -/
theorem tableCommit_replaces (dt : Nat) (tag : Byte) {s : State} (h : Ready s) (x : Session) :
    let t := reply .tableCommit tag .done none none
      (commitTable x.table x.staging (commitTaken dt tag s))
    (∀ y : TableId, valid t y = if y = x.table then true else valid s y) ∧
      workingCopies t = replacedCopies x.table (readTable x.table x.staging) s ∧
      Replaced x.table (later dt s) t ∧
      t.tst.editions =
        s.tst.editions.set (tableNumber x.table) (s.tst.editions[tableNumber x.table] + 1) ∧
      t.tst.stored = s.tst.stored ∧ t.tst.op = s.tst.op ∧ t.lch.tare = s.lch.tare ∧
      t.xhu.pos = s.xhu.pos ∧ t.xhu.demand = s.xhu.demand ∧ t.now = s.now + dt := by
  intro t
  obtain ⟨-, -, hend, htst⟩ := tableCommit_accepted dt tag h x
  obtain ⟨hcopies, hsteady, htst'⟩ := install_copied x.table (readTable x.table x.staging)
    (commitTaken dt tag s)
  have hcopies' := hend.copies.trans hcopies
  have hreplaced := (install_replaced x.table (readTable x.table x.staging)
    (s := commitTaken dt tag s) h.1).ending hend
  simp only [steady, Prod.mk.injEq] at hsteady
  obtain ⟨hnow, htare, ⟨hpos, hdemand⟩, -⟩ := hsteady
  obtain ⟨hnow', htare', hpos', hdemand'⟩ := hend.fields
  have hstore := htst.trans htst'
  refine ⟨fun y => ?_, hcopies', Replaced.of_tst s.tst (commitTaken dt tag s).cpt.outstanding hreplaced,
    congrArg Tst.editions hstore, (congrArg Tst.stored hstore :), (congrArg Tst.op hstore :),
    htare'.trans htare, hpos'.trans hpos, hdemand'.trans hdemand, hnow'.trans hnow⟩
  rw [valid_replaced hcopies' y, hasContent_readTable]
  rfl

/-- Settles O38: the refusals in their order, and the accepted commit. -/
theorem tableCommitReplacesCopy : Obligations.TableCommitReplacesCopy := by
  intro dt tag s h
  have he : exec (.tableCommit dt tag []) s =
      .next (ownTableCommit tag [] (commitTaken dt tag s)) :=
    congrArg Host.Outcome.next (takeOrder_ready h rfl)
  rw [he]
  refine ⟨fun hnone => ?_, fun x hx => ?_⟩
  · have hn : (commitTaken dt tag s).cpt.session = none := hnone
    simp only [ownTableCommit, hn]
    exact congrArg Host.Outcome.next (reply_join (s := later dt s) h.1 _ tag _ _ _)
  · obtain ⟨hform, hvalidates, hdone⟩ := tableCommit_refused dt tag h hx
    intro closed kept
    cases hf : hasForm x.table x.staging with
    | false => exact congrArg Host.Outcome.next (hform hf)
    | true =>
      cases hv : validates x.table x.staging with
      | false =>
        obtain ⟨n, c, hc, ht⟩ := hvalidates hf hv
        exact ⟨n, c, hc, congrArg Host.Outcome.next ht⟩
      | true =>
        obtain ⟨huse, hbusy, haccepted⟩ := hdone hf hv
        cases hu : tableInUse s x.table with
        | true => exact congrArg Host.Outcome.next (huse hu)
        | false =>
          cases hc : storeConcerns s x.table with
          | true => exact congrArg Host.Outcome.next (hbusy hu hc)
          | false =>
            obtain ⟨hformed, hsession, -⟩ := tableCommit_accepted dt tag h x
            exact ⟨_, congrArg Host.Outcome.next (haccepted hu hc), hformed, hsession,
              tableCommit_replaces dt tag h x⟩

end Sys2Proof.Machine
end

section
/-!
SUPPORT. The interpolation of a calibration table (R21): rounding, segments, and the line of each
segment.
-/

namespace Sys2Proof.Machine

/-! ## Rounding to nearest (section 4.3) -/

theorem roundDiv_mono {d a b : Int} (hd : 0 < d) (h : a ≤ b) : roundDiv a d ≤ roundDiv b d := by
  have hd2 : 0 < 2 * d := by omega
  have pos : ∀ n : Int, 0 ≤ n → 0 ≤ (2 * n + d) / (2 * d) := fun n hn =>
    Int.ediv_nonneg (by omega) hd2.le
  unfold roundDiv
  split
  · rw [if_pos (by omega)]
    exact Int.ediv_le_ediv hd2 (by omega)
  · split
    · have := pos (-a) (by omega)
      have := pos b ‹_›
      omega
    · exact Int.neg_le_neg (Int.ediv_le_ediv hd2 (by omega))

/-- A quotient that comes out even is not rounded. -/
theorem roundDiv_mul_self {d : Int} (hd : 0 < d) (k : Int) : roundDiv (k * d) d = k := by
  have even : ∀ n : Int, (2 * (n * d) + d) / (2 * d) = n := by
    intro n
    rw [show 2 * (n * d) + d = d + n * (2 * d) by ring, Int.add_mul_ediv_right _ _ (by omega),
      Int.ediv_eq_zero_of_lt hd.le (by omega), Int.zero_add]
  unfold roundDiv
  split
  · exact even k
  · rw [← Int.neg_mul, even, Int.neg_neg]

theorem clampForce_mono {v w : Int} (h : v ≤ w) : clampForce v ≤ clampForce w := by
  unfold clampForce clamp
  (repeat' split) <;> omega

theorem clampForce_id {v : Int} (hlo : -2147483647 ≤ v) (hhi : v ≤ 2147483647) :
    clampForce v = v := by
  unfold clampForce clamp
  rw [if_neg (by omega), if_neg (by omega)]

/-! ## Segments of a calibration table (R21) -/

theorem rising_pairwise : ∀ {xs : List Int}, rising xs = true → xs.Pairwise (· < ·)
  | [], _ => .nil
  | [_], _ => List.pairwise_singleton _ _
  | a :: b :: rest, h => by
    simp only [rising, Bool.and_eq_true, decide_eq_true_eq] at h
    obtain ⟨hab, hrest⟩ := h
    have ih := rising_pairwise hrest
    refine List.pairwise_cons.2 ⟨fun x hx => ?_, ih⟩
    rcases List.mem_cons.1 hx with rfl | hx
    · exact hab
    · exact hab.trans ((List.pairwise_cons.1 ih).1 x hx)

/-- A field that rises from point to point. -/
theorem rising_getElem_lt {field : CalPoint → Int} {t : CalTable}
    (h : rising (t.map field) = true) {i j : Nat} (hij : i < j) (hj : j < t.length) :
    field (t[i]'(hij.trans hj)) < field t[j] :=
  List.pairwise_iff_getElem.1 (List.pairwise_map.1 (rising_pairwise h)) i j _ hj hij

/-- The number of points of a table at or below a count, on a table of rising counts. -/
def pointsBelow (t : CalTable) (c : Int) : Nat := t.findIdx fun p => !decide (p.count ≤ c)

theorem count_le_of_lt_pointsBelow {t : CalTable} {c : Int} {i : Nat} (h : i < pointsBelow t c)
    (hi : i < t.length) : t[i].count ≤ c := by
  simpa using List.not_of_lt_findIdx h

theorem lt_count_pointsBelow {t : CalTable} {c : Int} (h : pointsBelow t c < t.length) :
    c < t[pointsBelow t c].count := by
  have := List.findIdx_getElem (w := h)
  simp only [Bool.not_eq_true', decide_eq_false_iff_not, not_le] at this
  exact this

theorem segmentOf_eq (t : CalTable) (c : Int) :
    segmentOf t c = min (pointsBelow t c - 1) (t.length - 2) := by
  have hle : pointsBelow t c ≤ t.length := List.findIdx_le_length
  unfold segmentOf
  rw [List.takeWhile_eq_take_findIdx_not, List.length_take]
  exact congrArg (fun n => min (n - 1) (t.length - 2)) (min_eq_left hle)

theorem pointsBelow_mono {t : CalTable} {c d : Int} (h : c ≤ d) :
    pointsBelow t c ≤ pointsBelow t d :=
  List.findIdx_le_findIdx fun p _ hp => by
    simp only [Bool.not_eq_true', decide_eq_false_iff_not] at hp ⊢
    omega

theorem segmentOf_mono {t : CalTable} {c d : Int} (h : c ≤ d) : segmentOf t c ≤ segmentOf t d := by
  have := pointsBelow_mono (t := t) h
  rw [segmentOf_eq, segmentOf_eq]
  omega

theorem segmentOf_lt {t : CalTable} (hlen : 2 ≤ t.length) (c : Int) :
    segmentOf t c + 1 < t.length := by
  rw [segmentOf_eq]
  omega

/-- Past the first segment, the first point of a count's segment is at or below it. -/
theorem segmentOf_count_le {t : CalTable} {c : Int} {i : Nat} (hi : i < t.length)
    (hpos : 0 < i) (hseg : i ≤ segmentOf t c) : t[i].count ≤ c := by
  refine count_le_of_lt_pointsBelow (hseg.trans_lt ?_) hi
  rw [segmentOf_eq] at hseg ⊢
  omega

/-- Before the last segment, the points past a count's segment are above it. -/
theorem segmentOf_lt_count {t : CalTable} (hcount : rising (t.map CalPoint.count) = true) {c : Int}
    {i : Nat} (hi : i < t.length) (hlast : segmentOf t c + 2 < t.length) (hseg : segmentOf t c < i) :
    c < t[i].count := by
  have hp : pointsBelow t c ≤ i ∧ pointsBelow t c < t.length := by
    rw [segmentOf_eq] at hlast hseg
    omega
  obtain ⟨hpi, hlt⟩ := hp
  have hc := lt_count_pointsBelow hlt
  rcases hpi.lt_or_eq with hpi | rfl
  · exact hc.trans (rising_getElem_lt hcount hpi hi)
  · exact hc

/-- A point opens the segment of its count, but for the last one, which closes it. -/
theorem segmentOf_point {t : CalTable} (hcount : rising (t.map CalPoint.count) = true)
    (hlen : 2 ≤ t.length) {i : Nat} (hi : i < t.length) :
    i = segmentOf t t[i].count ∨ i = segmentOf t t[i].count + 1 := by
  have hlt := segmentOf_lt hlen t[i].count
  by_contra hne
  rcases Nat.lt_or_ge i (segmentOf t t[i].count) with h | h
  · have := segmentOf_count_le (i := segmentOf t t[i].count) (by omega) (by omega) le_rfl
    have := rising_getElem_lt hcount h (by omega)
    omega
  · have := segmentOf_lt_count (c := t[i].count) hcount hi (by omega) (by omega)
    omega

/-! ## The line through the points of a segment (R21) -/

/-- The force at a count on the line through two points, before the clamp. -/
def lineAt (p q : CalPoint) (c : Int) : Int :=
  p.force + roundDiv ((q.force - p.force) * (c - p.count)) (q.count - p.count)

theorem interpolate_eq {t : CalTable} (hlen : 2 ≤ t.length) (c : Int) :
    interpolate t c = clampForce (lineAt (t[segmentOf t c]'(by have := segmentOf_lt hlen c; omega))
      (t[segmentOf t c + 1]'(segmentOf_lt hlen c)) c) := by
  have hlt := segmentOf_lt hlen c
  simp only [interpolate, List.getElem?_eq_getElem hlt,
    List.getElem?_eq_getElem ((Nat.lt_succ_self _).trans hlt)]
  rfl

theorem lineAt_first {p q : CalPoint} (h : p.count < q.count) : lineAt p q p.count = p.force := by
  have hzero := roundDiv_mul_self (d := q.count - p.count) (by omega) 0
  rw [Int.zero_mul] at hzero
  rw [lineAt, Int.sub_self, Int.mul_zero, hzero, Int.add_zero]

theorem lineAt_second {p q : CalPoint} (h : p.count < q.count) : lineAt p q q.count = q.force := by
  rw [lineAt, roundDiv_mul_self (by omega)]
  omega

theorem lineAt_mono {p q : CalPoint} (hc : p.count < q.count) (hf : p.force ≤ q.force) {c d : Int}
    (h : c ≤ d) : lineAt p q c ≤ lineAt p q d :=
  Int.add_le_add_left (roundDiv_mono (by omega)
    (Int.mul_le_mul_of_nonneg_left (by omega) (by omega))) _

theorem interpolate_point {t : CalTable} (hlen : 2 ≤ t.length)
    (hcount : rising (t.map CalPoint.count) = true) {p : CalPoint} (hp : p ∈ t)
    (hlo : -2147483647 ≤ p.force) (hhi : p.force ≤ 2147483647) :
    interpolate t p.count = p.force := by
  obtain ⟨i, hi, rfl⟩ := List.getElem_of_mem hp
  have hlt := segmentOf_lt hlen t[i].count
  rw [interpolate_eq hlen]
  refine Eq.trans (congrArg clampForce ?_) (clampForce_id hlo hhi)
  rcases segmentOf_point hcount hlen hi with h | h
  · simp only [← h]
    exact lineAt_first (rising_getElem_lt hcount i.lt_succ_self (by omega))
  · simp only [← h]
    exact lineAt_second (rising_getElem_lt hcount (by omega) hi)

theorem interpolate_mono {t : CalTable} (hlen : 2 ≤ t.length)
    (hcount : rising (t.map CalPoint.count) = true) (hforce : rising (t.map CalPoint.force) = true)
    {c d : Int} (h : c ≤ d) : interpolate t c ≤ interpolate t d := by
  rw [interpolate_eq hlen, interpolate_eq hlen]
  refine clampForce_mono ?_
  have hc := segmentOf_lt hlen c
  have hd := segmentOf_lt hlen d
  have line : ∀ {i : Nat} (hi : i + 1 < t.length) {a b : Int}, a ≤ b →
      lineAt t[i] t[i + 1] a ≤ lineAt t[i] t[i + 1] b := fun {i} hi =>
    lineAt_mono (rising_getElem_lt hcount i.lt_succ_self hi)
      (rising_getElem_lt hforce i.lt_succ_self hi).le
  rcases (segmentOf_mono (t := t) h).eq_or_lt with heq | hlt
  · simp only [heq]
    exact line hd h
  · calc lineAt t[segmentOf t c] t[segmentOf t c + 1] c
        ≤ lineAt t[segmentOf t c] t[segmentOf t c + 1] t[segmentOf t c + 1].count :=
          line hc (segmentOf_lt_count hcount hc (by omega) (by omega)).le
      _ = t[segmentOf t c + 1].force :=
          lineAt_second (rising_getElem_lt hcount (Nat.lt_succ_self _) hc)
      _ ≤ t[segmentOf t d].force := by
          rcases (Nat.succ_le_of_lt hlt).eq_or_lt with heq | hlt'
          · simp only [← heq]; rfl
          · exact (rising_getElem_lt hforce hlt' (by omega)).le
      _ = lineAt t[segmentOf t d] t[segmentOf t d + 1] t[segmentOf t d].count :=
          (lineAt_first (rising_getElem_lt hcount (Nat.lt_succ_self _) hd)).symm
      _ ≤ lineAt t[segmentOf t d] t[segmentOf t d + 1] d :=
          line hd (segmentOf_count_le (by omega) (by omega) le_rfl)

/-- Settles O6: a segment's line rises, and neighbouring lines meet at the point they share. -/
theorem interpolationRises : Obligations.InterpolationRises := by
  intro t hlen hcount hforce hrange
  refine ⟨fun p hp => ?_, fun c d h => interpolate_mono hlen hcount hforce h⟩
  obtain ⟨hlo, hhi⟩ := hrange p hp
  exact interpolate_point hlen hcount hp hlo hhi

end Sys2Proof.Machine
end

section
/-!
SUPPORT. The start-up recall: a table installed without a request, and the initial request after the last
(R19, R32, R39, R191).
-/

namespace Sys2Proof.Machine

/-- The tables whose replacement can request a range (R19, R32). -/
def Ranging (x : TableId) : Prop := x = .loadset ∨ ∃ g, x = .cal g

/-! ## An installation at start-up -/

/-- At start-up only the tables that can request a range are installed otherwise than by a recall. -/
theorem install_startUp {x : TableId} (hx : ¬ Ranging x) (copy : Tables) (s : State) :
    install true x copy s = install false x copy s := by
  cases x with
  | cal g => exact absurd (.inr ⟨g, rfl⟩) hx
  | loadset => exact absurd (.inl rfl) hx
  | route | extset | xset | protset | lineset | nlevels | prog k => rfl

/-- At start-up the replacement of a calibration table makes no initial request; it moves or ends the
request for the range it makes BLANK (R19). -/
theorem replaceCal_startUp (g : Fin 4) (new : Option CalTable) (s : State) :
    replaceCal true g new s = withCal g new s ∨ s.lch.requested = some g ∧
      (replaceCal true g new s = unrequested (withCal g new s) ∨
        ∃ h, replaceCal true g new s = makeRequest h (withCal g new s)) := by
  unfold replaceCal
  extract_lets _ t
  split
  · exact .inl (if_neg (by simp))
  · split
    · exact .inl rfl
    · split
      · rename_i hreq
        refine .inr ⟨hreq, ?_⟩
        split
        · exact .inr ⟨_, rfl⟩
        · exact .inl rfl
      · exact .inl rfl

/-- At start-up the replacement of LOADSET requests nothing (R32). -/
theorem replaceLoadSet_startUp (new : Option LoadSet) (s : State) :
    replaceLoadSet true new s = withLoadSet new s := by
  unfold replaceLoadSet
  dsimp only
  split
  · rw [if_pos (by simp)]
    rfl
  · rfl

/-- What the installation of a table that can request a range leaves at start-up: its copy, the dwell
timer stopped, and, where no range was requested, no request. -/
structure RangingInstalled (x : TableId) (copy : Tables) (s u : State) : Prop where
  copied : Copied x copy s u
  dwell : u.lch.dwell = none
  unrequested : s.lch.requested = none → u.lch.requested = none ∧ u.sent = s.sent
  settled : Settled s → Settled u

theorem install_ranging {x : TableId} (hx : Ranging x) (copy : Tables) (s : State) :
    RangingInstalled x copy s (install true x copy s) := by
  rcases hx with rfl | ⟨g, rfl⟩
  · have hi : install true .loadset copy s =
        withLoadSet copy.loadset (advanceEdition .loadset s) := replaceLoadSet_startUp _ _
    rw [hi]
    exact ⟨⟨rfl, rfl, rfl⟩, rfl, fun h => ⟨h, rfl⟩, id⟩
  · have hi : install true (.cal g) copy s =
        replaceCal true g copy.cal[g] (advanceEdition (.cal g) s) := rfl
    have hcopied : Copied (.cal g) copy s (withCal g copy.cal[g] (advanceEdition (.cal g) s)) :=
      ⟨rfl, rfl, rfl⟩
    have hsettled : Settled s → Settled (install true (.cal g) copy s) := fun h =>
      ((replaceCal_moves (b := false) (advanceEdition (.cal g) s) true g copy.cal[g]).settled h).1
    rw [hi] at hsettled ⊢
    rcases replaceCal_startUp g copy.cal[g] (advanceEdition (.cal g) s) with
      heq | ⟨hreq, heq | ⟨h, heq⟩⟩
    · rw [heq] at hsettled ⊢
      exact ⟨hcopied, rfl, fun h => ⟨h, rfl⟩, hsettled⟩
    · rw [heq] at hsettled ⊢
      exact ⟨hcopied.of_calm rfl, rfl, fun hn => absurd (hn.symm.trans hreq) nofun, hsettled⟩
    · rw [heq] at hsettled ⊢
      exact ⟨hcopied.of_calm (makeRequest_calm _ _), (makeRequest_requested _ _).2.2,
        fun hn => absurd (hn.symm.trans hreq) nofun, hsettled⟩

theorem install_startUp_copied (x : TableId) (copy : Tables) {s : State} (h : Settled s) :
    Copied x copy s (install true x copy s) ∧ Settled (install true x copy s) := by
  by_cases hx : Ranging x
  · obtain ⟨hcopied, -, -, hsettled⟩ := install_ranging hx copy s
    exact ⟨hcopied, hsettled h⟩
  · obtain ⟨v, -, hv, hm⟩ := install_moves x copy s
    rw [install_startUp hx]
    exact ⟨install_copied x copy s, (hm.settled (hv h)).1⟩

/-! ## The initial request (R39) -/

theorem initialRequest_calm (s : State) : calm (initialRequest s) = calm s := by
  unfold initialRequest
  split
  · rfl
  · split <;> exact makeRequest_calm _ _

theorem makeRequest_settings (h : Fin 4) (s : State) :
    loadSettings (makeRequest h s) = loadSettings s ∧
      coarsestValid (makeRequest h s) = coarsestValid s := by
  rw [makeRequest_eq]
  exact ⟨rfl, rfl⟩

/-- The initial request is for the FIXED range, or the coarsest VALID one. -/
theorem initialRequest_requested {s : State} {g : Fin 4}
    (h : coarsestValid (initialRequest s) = some g) :
    (initialRequest s).lch.requested =
      some (match (loadSettings (initialRequest s)).mode with | .auto => g | .fixed h => h) := by
  cases hc : coarsestValid s with
  | none =>
    have hi : initialRequest s = s := by simp only [initialRequest, hc]
    rw [hi, hc] at h
    cases h
  | some c =>
    have hi : initialRequest s = makeRequest
        (match (loadSettings s).mode with | .auto => c | .fixed h => h) s := by
      simp only [initialRequest, hc]
      cases (loadSettings s).mode <;> rfl
    obtain ⟨hsettings, hcoarsest⟩ :=
      makeRequest_settings (match (loadSettings s).mode with | .auto => c | .fixed h => h) s
    rw [hi, hcoarsest, hc] at h
    cases h
    rw [hi, hsettings]
    exact (makeRequest_requested _ _).1

/-! ## A table at start-up (R191) -/

/-- The part once the start-up recall has installed a table, before the store goes on. -/
abbrev startedTable (intact : Bool) (x : TableId) (s : State) : State :=
  install true x (recalledCopy intact s) s

/-- The tables the start-up recall has left BLANK, after one more. -/
abbrev blankStarted (intact : Bool) (x : TableId) (blank : List TableId) (s : State) : List TableId :=
  if hasContent (recalledCopy intact s) x then blank else blank ++ [x]

/-- A table that is not the last leaves the store STARTING with the rest. -/
theorem completeStartUp_cons (intact : Bool) (x : TableId) {todo : List TableId} (ht : todo ≠ [])
    (blank : List TableId) (s : State) : completeStartUp intact x todo blank s =
      setStoreOp (.starting todo (blankStarted intact x blank s)) (startedTable intact x s) := by
  cases todo with
  | nil => exact absurd rfl ht
  | cons y rest => rfl

/-- After the last table the store is IDLE and the Load Channel has made its initial request. -/
theorem completeStartUp_last (intact : Bool) (x : TableId) (blank : List TableId) {s : State}
    (hs : Settled (startedTable intact x s)) : ∃ w, completeStartUp intact x [] blank s =
      initialRequest w ∧ workingCopies w = workingCopies (startedTable intact x s) ∧
      w.tst = { (startedTable intact x s).tst with op := .idle } := by
  obtain ⟨hend, htst⟩ := ending_raise (u := setStoreOp .idle (startedTable intact x s)) hs (.inr rfl)
    (.store .startUp .all (!(blankStarted intact x blank s).isEmpty) (blankStarted intact x blank s) [])
  exact ⟨_, rfl, ((ending_setStoreOp _ _).trans hend).copies, htst⟩

/-- The copies and the store once the start-up recall has reached a table. -/
theorem completeStartUp_store (intact : Bool) (x : TableId) (todo blank : List TableId) {s : State}
    (h : Settled s) :
    workingCopies (completeStartUp intact x todo blank s) =
      replacedCopies x (recalledCopy intact s) s ∧
    (completeStartUp intact x todo blank s).tst = { s.tst with
      editions := s.tst.editions.set (tableNumber x) (s.tst.editions[tableNumber x] + 1)
      op := if todo = [] then .idle else .starting todo (blankStarted intact x blank s) } := by
  obtain ⟨hcopied, hsettled⟩ := install_startUp_copied x (recalledCopy intact s) h
  by_cases ht : todo = []
  · subst ht
    obtain ⟨w, heq, hcopies, htst⟩ := completeStartUp_last intact x blank hsettled
    obtain ⟨hcopies', htst'⟩ := copies_of_calm (initialRequest_calm w)
    rw [heq, hcopies', htst', hcopies, htst, hcopied.copies, hcopied.tst]
    exact ⟨rfl, rfl⟩
  · rw [completeStartUp_cons intact x ht, if_neg ht]
    refine ⟨hcopied.copies, ?_⟩
    rw [setStoreOp, State.setTst_tst, hcopied.tst]

/-- Settles O30: a table that can request no range is installed as by a recall, and the others are
replaced without a request. -/
theorem startUpReachesTable : Obligations.StartUpReachesTable := by
  intro dt intact x todo blank s hs hop copy ranging
  have he : exec (.startUpTableRead dt intact) s =
      .next (completeStartUp intact x todo blank (elapse dt s)) := by
    simp only [exec, execStartUpTableRead, hop]
  have hsettled : Settled (elapse dt s) := hs
  obtain ⟨hcopies, htst⟩ := completeStartUp_store intact x todo blank hsettled
  refine ⟨_, he, (congrArg Tst.stored htst :), (congrArg Tst.editions htst :),
    valid_replaced hcopies, hcopies, fun ht hx => ?_, fun ht hx => ?_, fun ht => ?_, fun ht => ?_⟩
  · rw [completeStartUp_cons intact x ht, startedTable, install_startUp hx]
    exact (install_replaced x _ hsettled).ending (ending_setStoreOp _ _)
  · rw [completeStartUp_cons intact x ht]
    obtain ⟨-, hdwell, hunrequested, -⟩ := install_ranging hx (recalledCopy intact (elapse dt s))
      (elapse dt s)
    exact ⟨hdwell, hunrequested⟩
  · refine ⟨(congrArg Tst.op htst).trans (if_pos ht), fun g hg => ?_⟩
    subst ht
    exact initialRequest_requested hg
  · exact (congrArg Tst.op htst).trans (if_neg ht)

end Sys2Proof.Machine
end

section
/-!
SUPPORT. The specimen record and its stress on a force update: the record stays with its stress, or is
released (R27, R98).
-/

namespace Sys2Proof.Machine

/-- The specimen record and the stress held with it. -/
def stressRecord (s : State) : Option Specimen × Option Int := (s.tsq.specimen, s.lch.stress)

/-- The specimen record stays with its stress, or is released (R27, R98). -/
def StressKept (s t : State) : Prop := stressRecord t = stressRecord s ∨ t.tsq.specimen = none

theorem StressKept.refl (s : State) : StressKept s s := .inl rfl

theorem StressKept.trans {s t u : State} (h : StressKept s t) (h' : StressKept t u) :
    StressKept s u := by
  rcases h' with h' | h'
  · rcases h with h | h
    · exact .inl (h'.trans h)
    · exact .inr ((congrArg Prod.fst h').trans h)
  · exact .inr h'

/-- One run after another, the later one given first. -/
theorem StressKept.after {s t u : State} (h' : StressKept t u) (h : StressKept s t) :
    StressKept s u := h.trans h'

variable (s : State)

theorem inOpenOrder_stress (acts : List (State → State))
    (h : ∀ act ∈ acts, ∀ t, StressKept t (act t)) : StressKept s (inOpenOrder acts s) :=
  inOpenOrder_keeps (P := StressKept s) acts s (fun _ _ ht => ht.trans (.inl rfl))
    (fun act ha _ ht => ht.trans (h act ha _)) (.refl s)

/-! ## Milestones and the evaluations that keep the record -/

@[simp] theorem recordMilestone_stressRecord (m : Milestone) :
    stressRecord (recordMilestone m s) = stressRecord s := by simp [stressRecord]

@[simp] theorem setEvu_stressRecord (x : Evu) : stressRecord (s.setEvu x) = stressRecord s := rfl

@[simp] theorem closeAtLimit_stressRecord (x : EvalSample) :
    stressRecord (closeAtLimit x s) = stressRecord s := by simp [stressRecord]

@[simp] theorem endPlateau_stressRecord (x : EvalSample) :
    stressRecord (endPlateau x s) = stressRecord s := by simp [stressRecord]

@[simp] theorem judgePlateau_stressRecord (r : Specimen) (strain : Int) (x : EvalSample) :
    stressRecord (judgePlateau r strain x s) = stressRecord s := by
  unfold judgePlateau
  dsimp only
  split
  · rfl
  · split <;> simp

theorem searchYield_stressRecord (r : Specimen) (strain : Int) (x : EvalSample) :
    stressRecord (searchYield r strain x s) = stressRecord s := by
  unfold searchYield
  split
  · rfl
  · dsimp only
    split
    · simp
    · split <;> simp [foundUpperYield]
  · split <;> simp

theorem judgeChord_stressRecord (x : EvalSample) (r : Specimen) (strain : Int) :
    stressRecord (judgeChord x r strain s) = stressRecord s := by
  unfold judgeChord
  dsimp only
  split
  · split <;> simp
  · split
    · rfl
    · split <;> simp
  · rfl

theorem judgeProof_stressRecord (x : EvalSample) (r : Specimen) (strain : Int) :
    stressRecord (judgeProof x r strain s) = stressRecord s := by
  unfold judgeProof
  split
  · split <;> simp
  · rfl

theorem whileRunning_stressRecord {f : Specimen → Int → State → State}
    (hf : ∀ r v t, stressRecord (f r v t) = stressRecord t) (x : EvalSample) :
    stressRecord (whileRunning f x s) = stressRecord s := by
  unfold whileRunning
  split
  · split
    · exact hf _ _ _
    · rfl
  · rfl

/-! ## The end of a test and the trips -/

theorem endTest_specimen (new : SeqState) (cause : EndCause) :
    (endTest new cause s).tsq.specimen = none := by
  unfold endTest
  dsimp only
  split <;> simp [releaseSpecimen]

theorem endTest_stress (new : SeqState) (cause : EndCause) :
    StressKept s (endTest new cause s) := .inr (endTest_specimen s new cause)

theorem sequencerTrip_stress (c : TripClass) : StressKept s (sequencerTrip c s) := by
  unfold sequencerTrip
  split
  · exact .inr (by simp [releaseSpecimen])
  · exact .inl (by simp [stressRecord])
  · exact .inl (by simp [stressRecord])
  · exact .inl (by simp [stressRecord])
  all_goals exact .refl s

theorem trip_stress (c : TripClass) : StressKept s (trip c s) := by
  unfold trip
  split
  · exact .inl rfl
  · refine .after (.inl rfl) (.after (sequencerTrip_stress _ _) (.inl ?_))
    simp [stressRecord]

theorem spend_stress (c : TripClass) : StressKept s (spend c s) :=
  .after (trip_stress _ c) (.inl rfl)

theorem judgeDelayed_stress (c : TripClass) (h : Bool) (d : Nat) :
    StressKept s (judgeDelayed c h d s) := by
  unfold judgeDelayed
  split
  · split
    · split
      · exact spend_stress s c
      · exact .inl rfl
    · split
      · exact spend_stress s c
      · exact .refl s
    · exact .refl s
  · exact .inl rfl

theorem judgeTension2_stress (h : Bool) (n : Nat) : StressKept s (judgeTension2 h n s) := by
  unfold judgeTension2
  split
  · split
    · split
      · exact spend_stress s _
      · exact .inl rfl
    · split
      · exact spend_stress s _
      · exact .inl rfl
    · exact .refl s
  · exact .inl rfl

theorem protectForce_stress : StressKept s (protectForce s) := by
  unfold protectForce
  split
  · exact .refl s
  · refine inOpenOrder_stress s _ fun act ha t => ?_
    simp only [List.mem_cons, List.not_mem_nil, or_false] at ha
    obtain rfl | rfl | rfl := ha
    · exact judgeDelayed_stress t _ _ _
    · exact judgeTension2_stress t _ _
    · exact judgeDelayed_stress t _ _ _

/-! ## Removals and phases -/

theorem removeArms_stress {react : Strain → State → State}
    (hr : ∀ st t, StressKept t (react st t)) (cause : RemovalCause) :
    StressKept s (removeArms react cause s) := by
  unfold removeArms
  dsimp only
  split
  · refine .trans (t := spliceToCrosshead (s.setExh { s.exh with handler := .opened }))
      (.inl (by simp [stressRecord])) (inOpenOrder_stress _ _ fun act ha t => ?_)
    simp only [List.mem_cons, List.not_mem_nil, or_false] at ha
    obtain rfl | rfl := ha
    · exact hr _ _
    · exact .inl (by simp [stressRecord])
  · exact .inl (by simp [stressRecord])

theorem requestRemoval_stress {react : Strain → State → State}
    (hr : ∀ st t, StressKept t (react st t)) (cause : RemovalCause) :
    StressKept s (requestRemoval react cause s) := by
  unfold requestRemoval
  split
  · exact .inl (by simp [stressRecord])
  · exact .inl (by simp [stressRecord])
  · exact removeArms_stress s hr cause
  · split
    · exact .inl (by simp [stressRecord])
    · exact .refl s
  · exact .refl s

theorem handMilestone_stress (m : Milestone) : StressKept s (handMilestone m s) :=
  .inl (by simp [stressRecord])

theorem evuStrainLimit_stress (st : Strain) : StressKept s (evuStrainLimit st s) :=
  .inl (by simp [stressRecord])

theorem endPhase_stress (k : Nat) (p : Phase) : StressKept s (endPhase k p s) := by
  unfold endPhase
  extract_lets _ s1 s2
  have h1 : StressKept s s1 := .after (handMilestone_stress _ _) (.inl rfl)
  have h2 : StressKept s1 s2 := by
    unfold s2
    split
    · exact requestRemoval_stress s1 (fun st t => evuStrainLimit_stress t st) _
    · exact .refl s1
  refine (h1.trans h2).trans ?_
  split
  · exact .inl (by simp [stressRecord])
  · exact endTest_stress _ _ _

theorem judgeEnd_stress (met : EndKind → Int → Bool) : StressKept s (judgeEnd met s) := by
  unfold judgeEnd
  split
  · split
    · exact endPhase_stress s _ _
    · exact .refl s
  · exact .refl s

theorem evuStrain_stress (st : Strain) : StressKept s (evuStrain st s) := by
  unfold evuStrain
  split
  · exact .after (judgeEnd_stress _ _) (.inl (by simp))
  · exact .refl s

theorem offerStrain_stress (st : Strain) : StressKept s (offerStrain st s) := by
  refine inOpenOrder_stress s _ fun act ha t => ?_
  simp only [List.mem_cons, List.not_mem_nil, or_false] at ha
  obtain rfl | rfl := ha
  · exact judgeEnd_stress t _
  · exact evuStrain_stress t st

/-! ## The blocks that take a force update -/

theorem takeBreak_stress (x : EvalSample) : StressKept s (takeBreak x s) := by
  unfold takeBreak
  extract_lets _ s1 _ _ s2 s3
  have h2 : StressKept s s2 := .inl (by simp [s2, s1])
  have h3 : StressKept s2 s3 :=
    .after (requestRemoval_stress _ (fun st t => offerStrain_stress t st) _)
      (.inl (by simp [stressRecord]))
  refine (h2.trans h3).trans ?_
  split
  · exact endTest_stress _ _ _
  · exact endTest_stress _ _ _
  · exact .refl _

theorem detectBreak_stress (x : EvalSample) : StressKept s (detectBreak x s) := by
  unfold detectBreak
  split
  · exact .refl s
  · split
    · exact takeBreak_stress s x
    · exact .refl s

theorem evaluateRest_stress (x : EvalSample) : StressKept s (evaluateRest x s) := by
  unfold evaluateRest
  refine .after (detectBreak_stress _ x) (.inl ?_)
  have hchord := whileRunning_stressRecord s (fun r v t => judgeChord_stressRecord t x r v) x
  split
  · exact (whileRunning_stressRecord _ (fun r v t => judgeProof_stressRecord t x r v) x).trans hchord
  · exact hchord

theorem evuForce_stress : StressKept s (evuForce s) := by
  unfold evuForce
  split
  · extract_lets x s1 s2
    have h2 : StressKept s s2 :=
      .inl (whileRunning_stressRecord s1 (fun r v t => searchYield_stressRecord t r v x) x)
    refine h2.trans ?_
    split
    · refine inOpenOrder_stress s2 _ fun act ha t => ?_
      simp only [List.mem_cons, List.not_mem_nil, or_false] at ha
      obtain rfl | rfl := ha
      · exact judgeEnd_stress t _
      · exact evaluateRest_stress t x
    · exact evaluateRest_stress s2 x
  · exact .refl s

theorem exhForce_stress : StressKept s (exhForce s) := by
  unfold exhForce
  split
  · exact removeArms_stress s (fun st t => offerStrain_stress t st) _
  · exact .refl s

end Sys2Proof.Machine
end

section
/-!
SUPPORT. A LOAD sample: the force it forms, and what no block moves on the force update (R20 to R27).
-/

namespace Sys2Proof.Machine

/-! ## The converted sample (R20 to R24, R27) -/

theorem convertForce_blank {f : SampleFrame} {s : State} (h : s.lch.cal[f.range] = none) :
    convertForce s f = { s.lch.last with quality := .noCal, range := some f.range } := by
  simp only [convertForce, h]

theorem convertForce_valid {f : SampleFrame} {s : State} {c : CalTable}
    (h : s.lch.cal[f.range] = some c) : convertForce s f =
      { net := clampForce (grossOf c f - s.lch.tare), gross := grossOf c f
        quality := qualityOf (some c) f, range := some f.range } := by
  simp only [convertForce, h]

/-- The part with the force a sample forms, its stress apart. -/
def formed (f : SampleFrame) (s : State) : State :=
  s.setLch { s.lch with
    received := some f.range, awaiting := false, last := convertForce s f }

theorem receiveRange_backbone (g : Fin 4) (s : State) : backbone (receiveRange g s) =
    backbone (s.setLch { s.lch with received := some g, awaiting := false }) := by
  unfold receiveRange
  dsimp only
  split
  · rfl
  · split
    · rfl
    · exact raise_backbone _ _ _

theorem converted_backbone (f : SampleFrame) (s : State) :
    backbone (converted f s) = backbone (formed f s) := by
  have hview : ∀ u : State, backbone (convertSample f u) = backbone ((backbone u).setLch
      { (backbone u).lch with last := convertForce (backbone u) f }) := fun _ => rfl
  rw [converted, hview, receiveRange_backbone, ← hview]
  rfl

/-- Stress follows the force while a specimen record is held (R27). -/
def StressFollows (s : State) : Prop :=
  ∀ r : Specimen, s.tsq.specimen = some r → s.lch.stress = some (stressOf s.lch.last.net r.s0)

theorem convertSample_stressFollows (f : SampleFrame) (s : State) :
    StressFollows (convertSample f s) := by
  intro r hr
  have hs : s.tsq.specimen = some r := hr
  simp [convertSample, hs]

theorem StressFollows.kept {s t : State} (h : StressFollows s) (hk : StressKept s t)
    (hl : t.lch.last = s.lch.last) : StressFollows t := by
  intro r hr
  rcases hk with hk | hk
  · simp only [stressRecord, Prod.mk.injEq] at hk
    obtain ⟨hspec, hstress⟩ := hk
    rw [hstress, hl]
    exact h r (hspec.symm.trans hr)
  · exact absurd (hk.symm.trans hr) nofun

/-! ## What no block moves on a force update -/

/-- The state with everything put to a fixed value that the stream and the Load Channel's own work on a
sample may move: the tare, the requests, and the frames. -/
def unloaded (s : State) : State :=
  { s with
    pending := []
    sent := []
    choices := 0
    rtb := { s.rtb with holdings := Vector.replicate 10 none }
    lch := { s.lch with
      tare := 0, tareJob := none, requested := none, awaiting := false, repeatAt := none, dwell := none }
    cpt := State.reset.cpt
    ntu := { s.ntu with records := Vector.replicate 10 none } }

@[simp] theorem unloaded_answerTare (tag : Byte) (code : ReplyCode) (d : Option Detail)
    (p : Option Payload) (s : State) : unloaded (answerTare tag code d p s) = unloaded s := by
  simp [unloaded]

theorem unloaded_tareSample (s : State) : unloaded (tareSample s) = unloaded s := by
  have hfail : ∀ c, unloaded (failTare c s) = unloaded s := by
    intro c
    unfold failTare
    split
    · rfl
    · exact unloaded_answerTare _ _ _ _ _
  have hadd : ∀ job, unloaded (addToTare job s) = unloaded s := by
    intro job
    unfold addToTare
    dsimp only
    split
    · rfl
    · exact unloaded_answerTare _ _ _ _ _
  unfold tareSample
  split
  · rfl
  · split
    · exact hadd _
    · exact hadd _
    · exact hfail _
    · exact hfail _
    · rfl

theorem unloaded_matchRequest (g : Fin 4) (s : State) :
    unloaded (matchRequest g s) = unloaded s := by
  rw [matchRequest_eq]
  rfl

theorem unloaded_rangeSample (outstanding : Bool) (g : Fin 4) (s : State) :
    unloaded (rangeSample outstanding g s) = unloaded s := by
  rw [rangeSample_eq]
  split
  · rw [makeRequest_eq]
    rfl
  · rfl

theorem unloaded_loadWork (before : Bool) (g : Fin 4) (s : State) :
    unloaded (loadWork before g s) = unloaded s := by
  have htare : unloaded (tareSample (matchRequest g s)) = unloaded s :=
    (unloaded_tareSample _).trans (unloaded_matchRequest g s)
  unfold loadWork
  dsimp only
  split
  · exact (unloaded_rangeSample _ g _).trans htare
  · exact (unloaded_rangeSample _ g _).trans htare

theorem streamForce_levels (s : State) : (streamForce s).ntu.nlevels = s.ntu.nlevels := by
  unfold streamForce
  dsimp only
  split
  · split <;> simp
  · rfl

theorem unloaded_streamForce (s : State) : unloaded (streamForce s) = unloaded s := by
  simp [unloaded, streamForce_keeps s, streamForce_levels s]

/-- What no block moves on a force update. -/
def offered (s : State) : State := unloaded (backbone s)

theorem offered_of_backbone {s t : State} (h : backbone t = backbone s) : offered t = offered s :=
  congrArg unloaded h

theorem offered_of_unloaded {s t : State} (h : unloaded t = unloaded s) : offered t = offered s := by
  have hview : ∀ u : State, offered u = backbone (unloaded u) := fun _ => rfl
  rw [hview, h, ← hview]

/-- The blocks beside the CPT and the Load Channel that take a force update. -/
abbrev judges : List (State → State) := [protectForce, evuForce, sequencerForce, exhForce]

theorem judges_backbone {act : State → State} (h : act ∈ judges) (t : State) :
    backbone (act t) = backbone t := by
  simp only [judges, List.mem_cons, List.not_mem_nil, or_false] at h
  obtain rfl | rfl | rfl | rfl := h
  · exact protectForce_backbone t
  · exact evuForce_backbone t
  · exact sequencerForce_backbone t
  · exact exhForce_backbone t

theorem judges_stress {act : State → State} (h : act ∈ judges) (t : State) :
    StressKept t (act t) := by
  simp only [judges, List.mem_cons, List.not_mem_nil, or_false] at h
  obtain rfl | rfl | rfl | rfl := h
  · exact protectForce_stress t
  · exact evuForce_stress t
  · exact judgeEnd_stress t _
  · exact exhForce_stress t

/-- A force update is taken by the judging blocks, the stream and the Load Channel (R25). -/
theorem mem_forceActs {before : Bool} {g : Fin 4} {act : State → State}
    (h : act ∈ [protectForce, evuForce, sequencerForce, exhForce, streamForce, loadWork before g]) :
    act ∈ judges ∨ act = streamForce ∨ act = loadWork before g := by
  simpa [or_assoc] using h

theorem forceActs_stress {before : Bool} {g : Fin 4} {act : State → State}
    (h : act ∈ [protectForce, evuForce, sequencerForce, exhForce, streamForce, loadWork before g])
    (t : State) : offered (act t) = offered t ∧ StressKept t (act t) := by
  have hunloaded : ∀ u, unloaded u = unloaded t → offered u = offered t ∧ StressKept t u :=
    fun u hu => ⟨offered_of_unloaded hu, .inl (congrArg stressRecord hu :)⟩
  rcases mem_forceActs h with h | rfl | rfl
  · exact ⟨offered_of_backbone (judges_backbone h t), judges_stress h t⟩
  · exact hunloaded _ (unloaded_streamForce t)
  · exact hunloaded _ (unloaded_loadWork before g t)

/-! ## The sample as a whole -/

theorem loadSample_offered (f : SampleFrame) (s : State) :
    offered (loadSample f s) = offered (formed f s) ∧
      StressKept (converted f s) (loadSample f s) := by
  refine inOpenOrder_keeps (P := fun t => offered t = offered (formed f s) ∧
    StressKept (converted f s) t) _ _ (fun t n ⟨ht, hk⟩ => ⟨ht, hk.trans (.inl rfl)⟩)
    (fun act ha t ⟨ht, hk⟩ => ?_)
    ⟨offered_of_backbone (converted_backbone f s), .refl _⟩
  obtain ⟨hact, hstress⟩ := forceActs_stress ha t
  exact ⟨hact.trans ht, hk.trans hstress⟩

theorem loadSample_stressFollows (f : SampleFrame) (s : State) :
    StressFollows (loadSample f s) := by
  obtain ⟨hoffered, hkept⟩ := loadSample_offered f s
  have hlast : (loadSample f s).lch.last = (formed f s).lch.last :=
    congrArg (fun t => t.lch.last) hoffered
  have hconverted : (converted f s).lch.last = (formed f s).lch.last :=
    congrArg (fun t => t.lch.last) (converted_backbone f s)
  exact (convertSample_stressFollows f _).kept hkept (hlast.trans hconverted.symm)

/-- What the sample moves on its way to its owner is no part of `offered`. -/
theorem offered_formed (dt : Nat) (lane : Lane) (k : Fin 10) (v : Int) (f : SampleFrame) (s : State) :
    offered (formed f (withTap k v (heard dt lane s))) = offered (formed f (heard dt lane s)) := by
  unfold withTap
  split <;> rfl

/-- Settles O10: the sample is converted before any block takes the force update, and no block moves
what it has formed. -/
theorem loadSampleFormsForce : Obligations.LoadSampleFormsForce := by
  intro dt lane rx f s hsteered
  have hstress := loadSample_stressFollows f (withTap (routeKey lane f.sub) f.value (heard dt lane s))
  obtain ⟨hoffered, -⟩ :=
    loadSample_offered f (withTap (routeKey lane f.sub) f.value (heard dt lane s))
  refine ⟨_, exec_sample_steered hsteered, ?_⟩
  simp only [deliver]
  generalize loadSample f (withTap (routeKey lane f.sub) f.value (heard dt lane s)) = t at *
  have h : offered t = offered (formed f (heard dt lane s)) :=
    hoffered.trans (offered_formed dt lane _ _ f s)
  have hlast : t.lch.last = convertForce s f := congrArg (fun u => u.lch.last) h
  refine ⟨congrArg (fun u => u.lch.received) h, fun hc => hlast.trans (convertForce_blank hc),
    fun c hc => ?_, hstress, congrArg (fun u => u.xhu.demand) h, congrArg (fun u => u.xhu.pos) h,
    congrArg (fun u => u.xhu.good) h, congrArg (fun u => u.xhu.drive) h,
    congrArg (fun u => u.xhu.lastEnable) h, congrArg (fun u => u.exh.zeroA) h,
    congrArg (fun u => u.exh.zeroB) h, (congrArg State.oln h :), (congrArg State.tst h :),
    (congrArg workingCopies h :)⟩
  rw [hlast, convertForce_valid hc]
  exact ⟨rfl, rfl, rfl, rfl⟩

end Sys2Proof.Machine
end

section
/-!
SUPPORT. The tare (R28 to R30, R158): its order, its timer, and a sample taken into it while the other
blocks take the force update.
-/

namespace Sys2Proof.Machine

/-! ## The order and its timer (R28, R30) -/

/-- TARE is refused, failed, or starts a tare without a reply. -/
theorem tare_taken (dt : Nat) (tag : Byte) {s : State} (h : Ready s) :
    exec (.tare dt tag []) s = .next
      (if s.lch.tareJob.isSome then answered (plainReply .tare tag .busy) (later dt s)
      else if s.tsq.state ≠ .idle ∧ s.tsq.state ≠ .armed then
        answered (plainReply .tare tag .wrongState) (later dt s)
      else if channelUp s .load = false then
        answered (detailReply .tare tag .failed (.tare .channelLost)) (later dt s)
      else
        { later dt s with
          lch := { s.lch with
            tareJob := some
              { tag := tag, count := 0, sum := 0, deadline := s.now + dt + 10000 } }
          cpt := { s.cpt with
            outstanding := s.cpt.outstanding ++
              [{ tag := tag, kind := orderCode .tare, answered := false }] } }) := by
  have he : exec (.tare dt tag []) s =
      .next (ownTare tag [] (joinOutstanding (orderCode .tare) tag (later dt s))) :=
    congrArg Host.Outcome.next (takeOrder_ready h rfl)
  have hup : channelUp (joinOutstanding (orderCode .tare) tag (later dt s)) .load =
      channelUp s .load := rfl
  have hjoin := reply_join (s := later dt s) h.1 .tare tag
  rw [he]
  refine congrArg Host.Outcome.next ?_
  unfold ownTare
  refine if_congr .rfl (hjoin _ _ _) (if_congr .rfl (hjoin _ _ _) (if_congr ?_ (hjoin _ _ _) rfl))
  rw [hup, Bool.not_eq_true']

/-- The tare sample timer fails the tare on a settled link (R30). -/
theorem tareTimer_fails {job : TareJob} {s : State} (hs : Settled s)
    (hj : s.lch.tareJob = some job) : exec .tareSampleTimerExpiry s = .next
      { atExpiry job.deadline s with
        lch := { s.lch with tareJob := none }
        cpt := { s.cpt with
          outstanding := answerFirst job.tag (orderCode .tare) s.cpt.outstanding
          link := some (s.cpt.link.getD
            (.reply (detailReply .tare job.tag .failed (.tare .noSample))))
          replies :=
            match s.cpt.link with
            | none => []
            | some _ =>
              s.cpt.replies ++ [detailReply .tare job.tag .failed (.tare .noSample)] } } := by
  have he : exec .tareSampleTimerExpiry s = .next (failTare .noSample (atExpiry job.deadline s)) := by
    simp only [exec, execTareSampleTimerExpiry, hj]
    rfl
  have hjob : (atExpiry job.deadline s).lch.tareJob = some job := hj
  rw [he, failTare, hjob]
  dsimp only
  rw [answerTare, joinReply_settled (by exact hs)]
  rfl

/-! ## A reply that waits (R158, R159) -/

/-- A reply is in transmission or in the queue. -/
def Waits (r : Reply) (s : State) : Prop := s.cpt.link = some (.reply r) ∨ r ∈ s.cpt.replies

theorem Waits.of_cpt {r : Reply} {s t : State} (h : Waits r s) (hl : t.cpt.link = s.cpt.link)
    (hr : t.cpt.replies = s.cpt.replies) : Waits r t := by
  unfold Waits
  rwa [hl, hr]

theorem startNotice_replies (src : Source) (s : State) :
    (startNotice src s).cpt.replies = s.cpt.replies := by
  unfold startNotice
  split <;> rfl

/-- The arbiter starts the reply, or lets it wait. -/
theorem Waits.arbitrate {r : Reply} {s : State} (h : Waits r s) : Waits r (arbitrate s) := by
  have notice : ∀ src, s.cpt.link = none → Waits r (startNotice src s) := fun src hl =>
    .inr (startNotice_replies src s ▸ h.resolve_left (by simp [hl]))
  unfold Machine.arbitrate
  split
  · exact h
  · rename_i hl
    have hmem : r ∈ s.cpt.replies := h.resolve_left (by simp [hl])
    split
    · exact .inr hmem
    · split
      · exact notice _ hl
      · split
        · rename_i first rest hq
          rw [hq] at hmem
          rcases List.mem_cons.1 hmem with rfl | hmem
          · exact .inl rfl
          · exact .inr hmem
        · rename_i hq
          rw [hq] at hmem
          exact absurd hmem List.not_mem_nil

theorem joinReply_waits (r : Reply) (s : State) : Waits r (joinReply r s) :=
  Waits.arbitrate (.inr (by simp))

theorem Waits.joinReply {r : Reply} {s : State} (h : Waits r s) (other : Reply) :
    Waits r (joinReply other s) :=
  Waits.arbitrate (h.imp id (List.mem_append_left _))

theorem Moves.waits {b : Bool} {s t : State} (m : Moves b s t) {r : Reply} (h : Waits r s) :
    Waits r t := by
  induction m with
  | trans _ _ ih ih' => exact ih' (ih h)
  | quiet e | slipCounted _ _ e | entered _ e | lossArmed _ _ _ e | streamTimed _ _ _ e =>
    simp only [ledger, Ledger.mk.injEq] at e
    exact h.of_cpt (by simp [e]) (by simp [e])
  | raised src d s =>
    unfold raise
    split
    · exact h
    · exact Waits.arbitrate h
  | tareAnswered =>
    unfold answerTare
    refine Waits.joinReply ?_ _
    exact h
  | recorded | tripCounted | lossCleared => exact h

theorem streamForce_waits {r : Reply} {s : State} (h : Waits r s) : Waits r (streamForce s) := by
  have hdue : ∀ t : State, Waits r t → Waits r (makeDue t) := by
    intro t ht
    unfold makeDue
    split
    · exact ht
    · exact Waits.arbitrate ht
  unfold streamForce
  dsimp only
  split
  · split
    · exact hdue _ h
    · exact h
  · exact h

/-! ## A sample of a tare in progress (R29, R30) -/

/-- A tare has ended: its order of the outstanding ones `os` is answered, with a reply (R29, R30). -/
def TareEnded (job : TareJob) (os : List Outstanding) (r : Reply) (t : State) : Prop :=
  t.lch.tareJob = none ∧ t.cpt.outstanding = answerFirst job.tag (orderCode .tare) os ∧ Waits r t

/-- A usable sample at `now` has been taken into a tare, and the sixteenth has completed it; `tare` and
`os` are the tare value and the outstanding orders the sample finds (R29). -/
def TareSummed (job : TareJob) (now : Nat) (tare : Int) (os : List Outstanding) (t : State) : Prop :=
  if job.count + 1 < 16 then
    t.lch.tare = tare ∧ t.cpt.outstanding = os ∧
      t.lch.tareJob = some
        { job with count := job.count + 1, sum := job.sum + t.lch.last.gross, deadline := now + 10000 }
  else
    t.lch.tare = roundDiv (job.sum + t.lch.last.gross) 16 ∧
      TareEnded job os
        (payloadReply .tare job.tag (.tare (roundDiv (job.sum + t.lch.last.gross) 16))) t

/-- A sample has been taken into a tare, or has failed it (R29, R30). -/
def TareTaken (job : TareJob) (now : Nat) (tare : Int) (os : List Outstanding) (t : State) : Prop :=
  match t.lch.last.quality with
  | .overrange => t.lch.tare = tare ∧
      TareEnded job os (detailReply .tare job.tag .failed (.tare .overrange)) t
  | .noCal => t.lch.tare = tare ∧
      TareEnded job os (detailReply .tare job.tag .failed (.tare .noCal)) t
  | .good | .beyondCal | .stale => TareSummed job now tare os t

/-- The parts of the state a tare is told by. -/
def tareView (s : State) : Int × Option TareJob × LastForce × List Outstanding :=
  (s.lch.tare, s.lch.tareJob, s.lch.last, s.cpt.outstanding)

theorem tareView_of_backbone {s t : State} (h : backbone t = backbone s) :
    tareView t = tareView s := by
  have hview : ∀ u : State, tareView u = tareView (backbone u) := fun _ => rfl
  rw [hview, h, ← hview]

/-- What keeps the view, and the replies that wait, keeps what a sample has done to a tare. -/
theorem TareTaken.of_view {job : TareJob} {now : Nat} {tare : Int} {os : List Outstanding}
    {t u : State} (h : TareTaken job now tare os t) (hv : tareView u = tareView t)
    (hw : ∀ r, Waits r t → Waits r u) : TareTaken job now tare os u := by
  simp only [tareView, Prod.mk.injEq] at hv
  obtain ⟨htare, hjob, hlast, hos⟩ := hv
  have hended : ∀ r, TareEnded job os r t → TareEnded job os r u :=
    fun r ⟨hidle, hreplied, hwaits⟩ => ⟨hjob.trans hidle, hos.trans hreplied, hw r hwaits⟩
  have hsummed : TareSummed job now tare os t → TareSummed job now tare os u := by
    unfold TareSummed
    rw [hlast, htare, hjob, hos]
    split
    · exact id
    · exact And.imp_right (hended _)
  unfold TareTaken at h ⊢
  rw [hlast, htare]
  cases hq : t.lch.last.quality with
  | overrange | noCal =>
    simp only [hq] at h
    obtain ⟨ht, he⟩ := h
    exact ⟨ht, hended _ he⟩
  | good | beyondCal | stale =>
    simp only [hq] at h
    exact hsummed h

theorem answerTare_ended (job : TareJob) (code : ReplyCode) (d : Option Detail) (p : Option Payload)
    {s : State} (h : s.lch.tareJob = none) : TareEnded job s.cpt.outstanding
      { tag := job.tag, kind := orderCode .tare, code := code, detail := d, payload := p }
      (answerTare job.tag code d p s) :=
  ⟨by simpa using h, by simp [answerTare], joinReply_waits _ _⟩

theorem addToTare_summed {job : TareJob} (s : State) :
    (addToTare job s).lch.last = s.lch.last ∧
      TareSummed job s.now s.lch.tare s.cpt.outstanding (addToTare job s) := by
  unfold addToTare TareSummed
  dsimp only
  split
  · exact ⟨rfl, rfl, rfl, rfl⟩
  · have hended := answerTare_ended job .done none
      (some (.tare (roundDiv (job.sum + s.lch.last.gross) 16)))
      (s := s.setLch { s.lch with
        tareJob := none, tare := roundDiv (job.sum + s.lch.last.gross) 16 }) rfl
    simpa [payloadReply] using hended

theorem failTare_failed {job : TareJob} {s : State} (hj : s.lch.tareJob = some job)
    (cause : TareFailure) : (failTare cause s).lch.last = s.lch.last ∧
      (failTare cause s).lch.tare = s.lch.tare ∧
      TareEnded job s.cpt.outstanding (detailReply .tare job.tag .failed (.tare cause))
        (failTare cause s) := by
  have hended := answerTare_ended job .failed (some (.tare cause)) none
    (s := s.setLch { s.lch with tareJob := none }) rfl
  simp only [failTare, hj]
  exact ⟨by simp, by simp, hended⟩

theorem tareSample_taken {job : TareJob} {s : State} (hj : s.lch.tareJob = some job)
    (hq : s.lch.last.quality ≠ .stale) :
    TareTaken job s.now s.lch.tare s.cpt.outstanding (tareSample s) := by
  obtain ⟨hlast, hsummed⟩ := addToTare_summed (job := job) s
  have hfail := failTare_failed hj
  unfold tareSample TareTaken
  simp only [hj]
  cases hs : s.lch.last.quality with
  | good | beyondCal =>
    dsimp only
    rw [hlast, hs]
    exact hsummed
  | overrange | noCal =>
    dsimp only
    rw [(hfail _).1, hs]
    exact (hfail _).2
  | stale => exact absurd hs hq

/-! ## The tare on a force update -/

theorem tareView_matchRequest (g : Fin 4) (s : State) :
    tareView (matchRequest g s) = tareView s ∧ (matchRequest g s).now = s.now := by
  rw [matchRequest_eq]
  exact ⟨rfl, rfl⟩

theorem tareView_rangeSample (outstanding : Bool) (g : Fin 4) (s : State) :
    tareView (rangeSample outstanding g s) = tareView s := by
  rw [rangeSample_eq]
  split
  · rw [makeRequest_eq]
    rfl
  · rfl

/-- The Load Channel's own work takes the sample into the tare. -/
theorem loadWork_taken (before : Bool) (g : Fin 4) {job : TareJob} {s : State}
    (hj : s.lch.tareJob = some job) (hq : s.lch.last.quality ≠ .stale) :
    TareTaken job s.now s.lch.tare s.cpt.outstanding (loadWork before g s) := by
  obtain ⟨hview, hnow⟩ := tareView_matchRequest g s
  simp only [tareView, Prod.mk.injEq] at hview
  obtain ⟨htare, hjob, hlast, hos⟩ := hview
  have htaken := tareSample_taken (hjob.trans hj) (hlast.symm ▸ hq)
  rw [hnow, htare, hos] at htaken
  unfold loadWork
  extract_lets after t choice
  have hranged : ∀ outstanding (u : State), u.cpt = t.cpt → tareView u = tareView t →
      TareTaken job s.now s.lch.tare s.cpt.outstanding (rangeSample outstanding g u) :=
    fun outstanding u hc hu => htaken.of_view ((tareView_rangeSample outstanding g u).trans hu)
      fun r hr => (rangeSample_moves (b := false) u outstanding g).waits
        (hr.of_cpt (congrArg Cpt.link hc) (congrArg Cpt.replies hc))
  split
  · exact hranged _ choice.2 rfl rfl
  · exact hranged _ t rfl rfl

theorem tareView_streamForce (s : State) : tareView (streamForce s) = tareView s := by
  unfold streamForce
  dsimp only
  split
  · split <;> simp [tareView]
  · rfl

/-- The acts of a force update beside the Load Channel's own. -/
theorem otherActs_tare {act : State → State} (h : act ∈ judges ++ [streamForce]) (t : State) :
    tareView (act t) = tareView t ∧ (act t).now = t.now ∧ ∀ r, Waits r t → Waits r (act t) := by
  rcases List.mem_append.1 h with h | h
  · have hb := judges_backbone h t
    have hm : Moves false t (act t) :=
      forceActs_moves (before := false) (g := 0) (List.mem_append_left _ h) t
    exact ⟨tareView_of_backbone hb, hm.stage.now, fun r hr => hm.waits hr⟩
  · obtain rfl := List.mem_singleton.1 h
    exact ⟨tareView_streamForce t, (streamForce_stage t).now, fun r hr => streamForce_waits hr⟩

/-- A LOAD sample is taken into the tare in progress, in whatever order the blocks take it. -/
theorem loadSample_taken (f : SampleFrame) {job : TareJob} {s : State}
    (hj : s.lch.tareJob = some job) :
    TareTaken job s.now s.lch.tare s.cpt.outstanding (loadSample f s) := by
  have hview : tareView (converted f s) = (s.lch.tare, some job, convertForce s f, s.cpt.outstanding) :=
    (tareView_of_backbone (converted_backbone f s)).trans (by rw [← hj]; rfl)
  have hnow : (converted f s).now = s.now := (loadSample_prepared (b := false) f s).stage.now
  refine inOpenOrder_through
    (P := fun t => t.now = s.now ∧
      tareView t = (s.lch.tare, some job, convertForce s f, s.cpt.outstanding))
    (Q := TareTaken job s.now s.lch.tare s.cpt.outstanding)
    (l₁ := judges ++ [streamForce]) (l₂ := [])
    (fun _ _ h => h) (fun act h t ⟨htn, ht⟩ => ?_) (fun t ⟨htn, ht⟩ => ?_) (fun act h t ht => ?_)
    ⟨hnow, hview⟩
  · obtain ⟨hv, hn, -⟩ := otherActs_tare (by simpa using h) t
    exact ⟨hn.trans htn, hv.trans ht⟩
  · simp only [tareView, Prod.mk.injEq] at ht
    obtain ⟨htare, hjob, hlast, hos⟩ := ht
    rw [← htn, ← htare, ← hos]
    exact loadWork_taken _ _ hjob (hlast ▸ (convertForce_quality f s).2)
  · obtain ⟨hv, -, hw⟩ := otherActs_tare (by simpa using h) t
    exact ht.of_view hv hw

/-- The tare and the link as a sample that has reached its owner finds them. -/
theorem arrived_keeps (dt : Nat) (lane : Lane) (k : Fin 10) (v : Int) (s : State) :
    (withTap k v (heard dt lane s)).now = s.now + dt ∧
      (withTap k v (heard dt lane s)).lch = s.lch ∧ (withTap k v (heard dt lane s)).cpt = s.cpt := by
  unfold withTap
  split <;> exact ⟨rfl, rfl, rfl⟩

/-- Settles O44: the order and the timer in one step each; the sample is taken into the tare by the Load
Channel's own work, which the other blocks leave alone. -/
theorem tareRunsAndEnds : Obligations.TareRunsAndEnds := by
  refine ⟨fun dt tag s h => tare_taken dt tag h, fun job s hs hj => tareTimer_fails hs hj, ?_⟩
  intro dt lane rx f job s hsteered hj
  refine ⟨_, exec_sample_steered hsteered, ?_⟩
  obtain ⟨hnow, hlch, hcpt⟩ := arrived_keeps dt lane (routeKey lane f.sub) f.value s
  have htaken := loadSample_taken f (s := withTap (routeKey lane f.sub) f.value (heard dt lane s))
    (job := job) (by rw [hlch, hj])
  rw [hnow, hlch, hcpt] at htaken
  simp only [deliver]
  generalize loadSample f (withTap (routeKey lane f.sub) f.value (heard dt lane s)) = t at htaken ⊢
  unfold TareTaken at htaken
  cases hq : t.lch.last.quality with
  | overrange | noCal | good | beyondCal | stale =>
    simp only [hq] at htaken
    exact htaken

end Sys2Proof.Machine
end

section
/-!
SUPPORT. What the test's invariant and the freezing of the demand stand on, and what one act after another
does to it. Every operation of the model but the few that change the sequencer's state by an order is shown
once to be `Guarded`.
-/

namespace Sys2Proof.Machine

/-! ## What the invariant and the frozen demand read -/

/-- Whether a frame on a lane is a DEMAND frame. -/
def isDemand : LaneOut → Bool
  | .demand _ _ _ => true
  | .rangeRequest _ _ => false

/-- The parts of the state that the test's invariant and the freezing of the demand read. -/
structure Dials where
  state : SeqState
  specimen : Option Specimen
  latch : Vector Bool 8
  mode : XhuMode
  demand : Option Int
  strain : Int
  latest : Option Strain
  chord : ChordState
  proof : ProofState
  frames : List (Lane × LaneOut)

/-- The dials of a state. -/
def dials (s : State) : Dials :=
  { state := s.tsq.state
    specimen := s.tsq.specimen
    latch := s.pru.latch
    mode := s.xhu.mode
    demand := s.xhu.demand
    strain := s.xhu.strain
    latest := s.evu.strain
    chord := s.evu.chord
    proof := s.evu.proof
    frames := s.sent.filter fun x => isDemand x.2 }

theorem latchEmpty_congr {s t : State} (h : t.pru.latch = s.pru.latch) : latchEmpty t = latchEmpty s := by
  simp only [latchEmpty, latched, h]

theorem jogActive_congr {s t : State} (h : t.xhu.mode = s.xhu.mode) : jogActive t = jogActive s := by
  simp only [jogActive, h]

theorem inTest_congr {s t : State} (h : t.tsq.state = s.tsq.state) : inTest t = inTest s := by
  simp only [inTest, h]

/-- A latch with a class in it is not empty. -/
theorem latchEmpty_of_latched {s : State} {c : TripClass} (h : latched s c = true) :
    latchEmpty s = false := by
  have hc : c ∈ allTrips := by cases c <;> decide
  simp only [latchEmpty, List.all_eq_false]
  exact ⟨c, hc, by simp [h]⟩

/-- A latch that has taken one more class is not empty. -/
theorem latchEmpty_of_set {s t : State} {c : TripClass}
    (h : t.pru.latch = s.pru.latch.set (tripNumber c) true) : latchEmpty t = false :=
  latchEmpty_of_latched (c := c) (by simp [latched, h])

/-! ## The two halves of the invariant -/

/-- The sequencer's half of the invariant. -/
structure Sequenced (s : State) : Prop where
  latch : s.tsq.state = .armed ∨ s.tsq.state = .running ∨ s.tsq.state = .held → latchEmpty s = true
  record : s.tsq.specimen.isSome = true ↔
    s.tsq.state = .armed ∨ s.tsq.state = .running ∨ s.tsq.state = .held ∨ s.tsq.state = .tripped
  strain : inTest s = true → ∀ x : Strain, s.evu.strain = some x →
    s.xhu.strain = x.value ∧ -2147483648 ≤ x.value ∧ x.value ≤ 2147483647
  proof : s.evu.proof = .watching → s.evu.chord = .complete

/-- The crosshead's half of the invariant. -/
structure Moded (s : State) : Prop where
  mode : s.xhu.mode ≠ .hold → s.tsq.state = .running ∨ jogActive s = true
  jog : jogActive s = true → inTest s = false ∧ latchEmpty s = true

theorem TestInvariant.of_halves {s : State} (h : Sequenced s) (m : Moded s) : TestInvariant s :=
  ⟨h.latch, h.record, m.mode, m.jog, h.strain, h.proof⟩

theorem TestInvariant.sequenced {s : State} (h : TestInvariant s) : Sequenced s :=
  ⟨h.latch, h.record, h.strain, h.proof⟩

theorem TestInvariant.moded {s : State} (h : TestInvariant s) : Moded s := ⟨h.mode, h.jog⟩

/-- In HOLD the crosshead's half says nothing. -/
theorem Moded.of_hold {s : State} (h : s.xhu.mode = .hold) : Moded s :=
  ⟨fun hm => absurd h hm, fun hj => by simp [jogActive, jogVelocity, h] at hj⟩

/-! ## Guarded acts -/

/-- What an act does to the demand: once a class is latched it leaves the latch not empty, and the crosshead
in HOLD with a set demand as it is. It sends no DEMAND frame. -/
structure Frozen (s t : State) : Prop where
  latched : latchEmpty s = false → latchEmpty t = false
  demand : latchEmpty s = false → s.xhu.mode = .hold → s.xhu.demand.isSome = true →
    t.xhu.mode = .hold ∧ t.xhu.demand = s.xhu.demand
  frames : (dials t).frames = (dials s).frames

theorem Frozen.trans {s t u : State} (h : Frozen s t) (h' : Frozen t u) : Frozen s u where
  latched := h'.latched ∘ h.latched
  frames := h'.frames.trans h.frames
  demand := by
    intro hl hm hd
    obtain ⟨hm', hd'⟩ := h.demand hl hm hd
    obtain ⟨hm'', hd''⟩ := h'.demand (h.latched hl) hm' (by rwa [hd'])
    exact ⟨hm'', hd''.trans hd'⟩

/-- An act that leaves the latch, the mode and the demand alone and sends no DEMAND frame. -/
theorem Frozen.of_eq {s t : State} (hl : t.pru.latch = s.pru.latch) (hm : t.xhu.mode = s.xhu.mode)
    (hd : t.xhu.demand = s.xhu.demand) (hf : (dials t).frames = (dials s).frames) : Frozen s t where
  latched := by rw [latchEmpty_congr hl]; exact id
  demand _ h _ := ⟨hm.trans h, hd⟩
  frames := hf

/-- An act that leaves the latch, the mode and the demand alone, before another. -/
theorem Frozen.framed {s s' t : State} (f : Frozen s' t) (hl : s'.pru.latch = s.pru.latch)
    (hm : s'.xhu.mode = s.xhu.mode) (hd : s'.xhu.demand = s.xhu.demand)
    (hf : (dials s').frames = (dials s).frames) : Frozen s t :=
  (Frozen.of_eq hl hm hd hf).trans f

/-- An act that keeps both halves of the test's invariant and freezes the demand. -/
structure Guarded (s t : State) : Prop where
  sequenced : Sequenced s → Sequenced t
  moded : Moded s → Moded t
  frozen : Frozen s t

theorem Guarded.trans {s t u : State} (h : Guarded s t) (h' : Guarded t u) : Guarded s u :=
  ⟨h'.sequenced ∘ h.sequenced, h'.moded ∘ h.moded, h.frozen.trans h'.frozen⟩

/-- One act after another, the later one given first: it fixes the state between them. -/
theorem Guarded.after {s t u : State} (h' : Guarded t u) (h : Guarded s t) : Guarded s u := h.trans h'

/-- An act that turns no dial. -/
theorem Guarded.quiet {s t : State} (e : dials t = dials s) : Guarded s t := by
  simp only [dials, Dials.mk.injEq] at e
  obtain ⟨hst, hsp, hla, hmo, hde, hxs, hes, hch, hpr, hfr⟩ := e
  have hl := latchEmpty_congr hla
  have hj := jogActive_congr hmo
  have hi := inTest_congr hst
  constructor
  · rintro ⟨h1, h2, h3, h4⟩
    constructor
    · rwa [hst, hl]
    · rwa [hsp, hst]
    · rwa [hi, hes, hxs]
    · rwa [hpr, hch]
  · rintro ⟨h1, h2⟩
    constructor
    · rwa [hmo, hst, hj]
    · rwa [hj, hi, hl]
  · exact .of_eq hla hmo hde hfr

variable (s : State)

theorem Guarded.refl : Guarded s s := .quiet rfl

/-- Acts in an open order are guarded, when each of them is. -/
theorem inOpenOrder_guarded (acts : List (State → State))
    (h : ∀ act ∈ acts, ∀ t, Guarded t (act t)) : Guarded s (inOpenOrder acts s) :=
  inOpenOrder_keeps (P := Guarded s) acts s (fun _ _ ht => ht.trans (.quiet rfl))
    (fun act ha _ ht => ht.trans (h act ha _)) (.refl s)

/-! ## The acts that turn a dial -/

theorem enterHold_mode : (enterHold s).xhu.mode = .hold := by simp [enterHold]

theorem enterHold_guarded : Guarded s (enterHold s) where
  sequenced h :=
    { latch := by simpa [latchEmpty, Machine.latched] using h.latch
      record := by simpa using h.record
      strain := by simpa [inTest] using h.strain
      proof := by simpa using h.proof }
  moded _ := .of_hold (enterHold_mode s)
  frozen :=
    { latched := by simp [latchEmpty, Machine.latched]
      demand := fun _ _ _ => ⟨enterHold_mode s, by simp⟩
      frames := by simp [dials] }

/-- The sequencer's state after it has taken a trip (R102). -/
def trippedState : SeqState → SeqState
  | .armed => .idle
  | .running | .held => .tripped
  | x => x

/-- The specimen record after a trip: an armed test is left (R102). -/
def trippedRecord (s : State) : Option Specimen :=
  if s.tsq.state = .armed then none else s.tsq.specimen

theorem changeState_dials (new : SeqState) (cause : TestCause) :
    dials (changeState new cause s) = { dials s with state := new } := by
  simp [changeState, enterState, dials]

theorem sequencerTrip_dials (c : TripClass) : dials (sequencerTrip c s) =
    { dials s with state := trippedState s.tsq.state, specimen := trippedRecord s } := by
  have hmilestone : ∀ t, dials (handTrip c t) = dials t := by
    intro t
    simp [dials]
  unfold sequencerTrip
  split
  · rw [changeState_dials]
    simp [dials, releaseSpecimen, trippedState, trippedRecord, *]
  · rw [hmilestone, changeState_dials]
    simp [dials, trippedState, trippedRecord, *]
  · rw [hmilestone, changeState_dials]
    simp [dials, trippedState, trippedRecord, *]
  · rw [hmilestone]
    simp [dials, trippedState, trippedRecord, *]
  all_goals simp [dials, trippedState, trippedRecord, *]

/-- A trip of a class that was not latched (R142). -/
theorem trip_dials {c : TripClass} (h : latched s c = false) : dials (trip c s) =
    { dials s with
      state := trippedState s.tsq.state
      specimen := trippedRecord s
      latch := s.pru.latch.set (tripNumber c) true
      mode := .hold } := by
  have hcount : ∀ x t, dials (updateHistory c x t) = dials t := fun _ _ => rfl
  rw [trip, if_neg (by simp [h]), hcount, sequencerTrip_dials]
  simp [dials, trippedRecord, enterHold_mode]

theorem trip_guarded (c : TripClass) : Guarded s (trip c s) := by
  by_cases hc : latched s c = true
  · rw [trip, if_pos hc]
    exact .quiet rfl
  · have e := trip_dials s (c := c) (by simpa using hc)
    simp only [dials, Dials.mk.injEq] at e
    obtain ⟨hst, hsp, hla, hmo, hde, hxs, hes, hch, hpr, hfr⟩ := e
    have hl : latchEmpty (trip c s) = false := latchEmpty_of_set hla
    have hin : inTest (trip c s) = true → inTest s = true := by
      simp only [inTest, hst]
      cases s.tsq.state <;> simp [trippedState]
    constructor
    · intro h
      constructor
      · rw [hst]
        cases s.tsq.state <;> simp [trippedState]
      · have hrecord := h.record
        rw [hst, hsp, trippedRecord]
        cases hs : s.tsq.state <;> simp_all [trippedState]
      · rw [hes, hxs]
        exact fun hi => h.strain (hin hi)
      · rw [hpr, hch]
        exact h.proof
    · exact fun _ => .of_hold hmo
    · exact ⟨fun _ => hl, fun _ _ _ => ⟨hmo, hde⟩, hfr⟩

theorem endTest_dials (new : SeqState) (cause : EndCause) : dials (endTest new cause s) =
    { dials s with state := new, specimen := none, mode := .hold } := by
  have hmode : (endTest new cause s).xhu.mode = .hold := by
    unfold endTest
    dsimp only
    split <;> simp [releaseSpecimen, enterHold_mode]
  simp [dials, endTest_state, endTest_specimen, hmode]

/-- A test ends in a state that needs no record, no latch and no mode (R98). -/
theorem endTest_guarded {new : SeqState} (cause : EndCause) (h : new = .ended ∨ new = .aborted) :
    Guarded s (endTest new cause s) := by
  have e := endTest_dials s new cause
  simp only [dials, Dials.mk.injEq] at e
  obtain ⟨hst, hsp, hla, hmo, hde, hxs, hes, hch, hpr, hfr⟩ := e
  have hin : inTest (endTest new cause s) = false := by
    simp only [inTest, hst]
    obtain rfl | rfl := h <;> rfl
  constructor
  · intro hs
    constructor
    · rw [hst]
      obtain rfl | rfl := h <;> simp
    · rw [hst, hsp]
      obtain rfl | rfl := h <;> simp
    · simp [hin]
    · rw [hpr, hch]
      exact hs.proof
  · exact fun _ => .of_hold hmo
  · exact ⟨by simp [latchEmpty_congr hla], fun _ _ _ => ⟨hmo, hde⟩, hfr⟩

/-- A strain is published within 32 bits (R65, R73). -/
def InRange32 (v : Int) : Prop := -2147483648 ≤ v ∧ v ≤ 2147483647

theorem inRange32_clampSigned32 (v : Int) : InRange32 (clampSigned32 v) := by
  unfold InRange32 clampSigned32 clamp
  split
  · omega
  · split <;> omega

theorem keepStrain_guarded {st : Strain} (h : InRange32 st.value) : Guarded s (keepStrain st s) := by
  have hstrain : (keepStrain st s).xhu.strain = st.value := by
    unfold keepStrain
    dsimp only
    split <;> rfl
  have hlatest : inTest s = true → (keepStrain st s).evu.strain = some st := by
    intro hi
    unfold keepStrain
    dsimp only
    rw [if_pos (by exact hi)]
    rfl
  have hin : inTest (keepStrain st s) = inTest s := inTest_congr (by simp)
  have hl : latchEmpty (keepStrain st s) = latchEmpty s := latchEmpty_congr (by simp)
  have hj : jogActive (keepStrain st s) = jogActive s := jogActive_congr (by simp)
  constructor
  · intro hs
    constructor
    · rw [hl]
      simpa using hs.latch
    · simpa using hs.record
    · intro hi x hx
      rw [hlatest (hin ▸ hi), Option.some.injEq] at hx
      subst hx
      exact ⟨hstrain, h⟩
    · simpa using hs.proof
  · intro hm
    constructor
    · rw [hj]
      simpa using hm.mode
    · rw [hj, hin, hl]
      exact hm.jog
  · exact .of_eq (by simp) (by simp) (by simp) (by simp [dials])

/-- A mode request finds the test RUNNING, or a class latched that refuses every mode but HOLD (R51). -/
theorem requestMode_guarded (m : XhuMode) (h : s.tsq.state = .running ∨ latchEmpty s = false) :
    Guarded s (requestMode m s) := by
  have driving : ∀ x : Xhu, x.demand = s.xhu.demand → x.strain = s.xhu.strain →
      jogVelocity x.mode = none →
      Guarded s (if latchEmpty s then s.setXhu x else s) := by
    intro x hd hst hj
    split
    · rename_i hl
      have hrun := h.resolve_right (by simp [hl])
      have hjog : jogActive (s.setXhu x) = false := by simp [jogActive, hj]
      constructor
      · exact fun hs =>
          ⟨hs.latch, hs.record, fun hi y hy => by simpa [hst] using hs.strain hi y hy, hs.proof⟩
      · exact fun _ => ⟨fun _ => .inl hrun, fun hj' => by simp [hjog] at hj'⟩
      · exact ⟨id, by simp [hl], rfl⟩
    · exact .refl s
  cases m with
  | hold => exact enterHold_guarded s
  | jog v d => exact .refl s
  | positionRate v d | strainRate r g v l | stressRate r g v f => exact driving _ rfl rfl rfl

/-- D is initialised only where it is unset or the latch is empty (R48). -/
theorem initialiseDemand_guarded (h : s.xhu.demand = none ∨ latchEmpty s = true) :
    Guarded s (initialiseDemand s) := by
  have hl : latchEmpty (initialiseDemand s) = latchEmpty s := latchEmpty_congr (by simp)
  have hi : inTest (initialiseDemand s) = inTest s := inTest_congr (by simp)
  have hj : jogActive (initialiseDemand s) = jogActive s := jogActive_congr (by simp)
  constructor
  · rintro ⟨h1, h2, h3, h4⟩
    exact ⟨by simpa [hl] using h1, by simpa using h2, by simpa [hi] using h3, by simpa using h4⟩
  · rintro ⟨h1, h2⟩
    exact ⟨by simpa [hj] using h1, by simpa [hi, hj, hl] using h2⟩
  · refine ⟨by simp [hl], fun hn _ hd => ?_, by simp [dials]⟩
    obtain h | h := h
    · simp [h] at hd
    · simp [h] at hn

end Sys2Proof.Machine
end

section
/-!
SUPPORT. The operations of the blocks are guarded.
-/

namespace Sys2Proof.Machine

variable (s : State)

/-! ## Trips and judgements -/

theorem setCondition_guarded (c : TripClass) (x : Condition) : Guarded s (setCondition c x s) :=
  .quiet rfl

theorem spend_guarded (c : TripClass) : Guarded s (spend c s) :=
  (setCondition_guarded s c _).trans (trip_guarded _ c)

theorem judgeDelayed_guarded (c : TripClass) (h : Bool) (d : Nat) :
    Guarded s (judgeDelayed c h d s) := by
  unfold judgeDelayed
  split
  · split
    · split
      · exact spend_guarded s c
      · exact setCondition_guarded s c _
    · split
      · exact spend_guarded s c
      · exact .refl s
    · exact .refl s
  · exact setCondition_guarded s c _

theorem judgeAtOnce_guarded (c : TripClass) (h : Bool) : Guarded s (judgeAtOnce c h s) := by
  unfold judgeAtOnce
  split
  · split
    · exact .refl s
    · exact spend_guarded s c
  · exact setCondition_guarded s c _

theorem judgeTension2_guarded (h : Bool) (n : Nat) : Guarded s (judgeTension2 h n s) := by
  unfold judgeTension2
  split
  · split
    · split
      · exact spend_guarded s _
      · exact setCondition_guarded s _ _
    · split
      · exact spend_guarded s _
      · exact setCondition_guarded s _ _
    · exact .refl s
  · exact setCondition_guarded s _ _

theorem judgeLoadLost_guarded (up : Bool) : Guarded s (judgeLoadLost up s) := by
  unfold judgeLoadLost
  split
  · exact .refl s
  · split
    · split
      · split
        · exact spend_guarded s _
        · exact .quiet rfl
      · exact .refl s
    · exact .quiet rfl

theorem protectForce_guarded : Guarded s (protectForce s) := by
  unfold protectForce
  split
  · exact .refl s
  · refine inOpenOrder_guarded s _ fun act ha t => ?_
    simp only [List.mem_cons, List.not_mem_nil, or_false] at ha
    obtain rfl | rfl | rfl := ha
    · exact judgeDelayed_guarded t _ _ _
    · exact judgeTension2_guarded t _ _
    · exact judgeDelayed_guarded t _ _ _

theorem protectDemand_guarded (d : Int) (e : Bool) : Guarded s (protectDemand d e s) := by
  unfold protectDemand
  split
  · exact .refl s
  · exact judgeDelayed_guarded s _ _ _

theorem protectPosition_guarded : Guarded s (protectPosition s) := by
  unfold protectPosition
  split
  · exact .refl s
  · exact judgeAtOnce_guarded s _ _

theorem losePosition_guarded : Guarded s (losePosition s) := by
  unfold losePosition
  split
  · extract_lets _ t
    have ht : Guarded s t := .quiet rfl
    split
    · exact ht.trans (spend_guarded t _)
    · exact ht
  · exact .refl s

theorem loseDriveLane_guarded : Guarded s (loseDriveLane s) := by
  unfold loseDriveLane
  extract_lets _ t
  have ht : Guarded s t := .quiet rfl
  refine .after (setCondition_guarded _ _ _) ?_
  split
  · exact ht.trans (spend_guarded t _)
  · exact ht

/-! ## Milestones and evaluations -/

theorem recordMilestone_guarded (m : Milestone) : Guarded s (recordMilestone m s) :=
  .quiet (by simp [dials])

theorem handMilestone_guarded (m : Milestone) : Guarded s (handMilestone m s) :=
  .quiet (by simp [dials])

theorem endPlateau_guarded (x : EvalSample) : Guarded s (endPlateau x s) := .quiet (by simp [dials])

theorem closeAtLimit_guarded (x : EvalSample) : Guarded s (closeAtLimit x s) :=
  .quiet (by simp [dials])

theorem evuStrainLimit_guarded (st : Strain) : Guarded s (evuStrainLimit st s) :=
  .quiet (by simp [dials])

theorem judgePlateau_guarded (r : Specimen) (strain : Int) (x : EvalSample) :
    Guarded s (judgePlateau r strain x s) := by
  unfold judgePlateau
  split
  · exact .refl s
  · extract_lets candidate _ t
    have ht : Guarded s t := .quiet rfl
    split
    · exact ht.trans (endPlateau_guarded t x)
    · exact ht

theorem foundUpperYield_guarded (fy : EvalSample) : Guarded s (foundUpperYield fy s) :=
  (recordMilestone_guarded s _).trans (.quiet rfl)

theorem searchYield_guarded (r : Specimen) (strain : Int) (x : EvalSample) :
    Guarded s (searchYield r strain x s) := by
  unfold searchYield
  split
  · exact .refl s
  · split
    · exact closeAtLimit_guarded s x
    · extract_lets fy _ t
      have ht : Guarded s t := .quiet rfl
      split
      · exact (ht.trans (foundUpperYield_guarded t fy)).trans (judgePlateau_guarded _ r strain x)
      · exact ht
  · split
    · exact closeAtLimit_guarded s x
    · exact judgePlateau_guarded s r strain x

theorem whileRunning_guarded {f : Specimen → Int → State → State}
    (hf : ∀ r v t, Guarded t (f r v t)) (x : EvalSample) : Guarded s (whileRunning f x s) := by
  unfold whileRunning
  split
  · split
    · exact hf _ _ s
    · exact .refl s
  · exact .refl s

/-- Another chord and proof, the proof watched only with the chord complete (R119). -/
theorem Guarded.evaluated {s t : State}
    (h : (s.evu.proof = .watching → s.evu.chord = .complete) →
      t.evu.proof = .watching → t.evu.chord = .complete)
    (e : dials t = { dials s with chord := t.evu.chord, proof := t.evu.proof }) : Guarded s t := by
  refine Guarded.after (t := s.setEvu { s.evu with chord := t.evu.chord, proof := t.evu.proof })
    (.quiet e) ?_
  exact ⟨fun hs => ⟨hs.latch, hs.record, hs.strain, h hs.proof⟩, fun hm => ⟨hm.mode, hm.jog⟩,
    .of_eq rfl rfl rfl rfl⟩

theorem judgeChord_guarded (x : EvalSample) (r : Specimen) (strain : Int) :
    Guarded s (judgeChord x r strain s) := by
  unfold judgeChord
  split
  · rename_i hchord
    split
    · extract_lets t
      have ht : Guarded s t := recordMilestone_guarded s _
      have hlow : t.evu.chord = .waitingLow := by simpa [t] using hchord
      refine ht.trans (.evaluated (fun hproof hp => ?_) rfl)
      have hcomplete := hproof hp
      rw [hlow] at hcomplete
      cases hcomplete
    · exact .refl s
  · split
    · exact .refl s
    · split
      · extract_lets p2 e t
        have ht : Guarded s t := recordMilestone_guarded s _
        exact ht.trans (.evaluated (fun _ _ => rfl) rfl)
      · exact .refl s
  · exact .refl s

theorem judgeProof_guarded (x : EvalSample) (r : Specimen) (strain : Int) :
    Guarded s (judgeProof x r strain s) := by
  unfold judgeProof
  split
  · split
    · extract_lets t
      have ht : Guarded s t := recordMilestone_guarded s _
      exact ht.trans (.evaluated (fun _ hp => by cases hp) rfl)
    · exact .refl s
  · exact .refl s

/-! ## Strain, removal and phases -/

/-- What the reactions to a removal by a phase's own end action leave alone: the sequencer, the latch and
the crosshead but for the strain it keeps. -/
def console (s : State) : Tsq × Pru × Xhu := (s.tsq, s.pru, { s.xhu with strain := 0 })

theorem removeArms_console {react : Strain → State → State}
    (hr : ∀ st t, console (react st t) = console t) (cause : RemovalCause) : console (removeArms react cause s) = console s := by
  have hsplice : ∀ t, console (spliceToCrosshead t) = console t := by
    intro t
    simp [console]
  unfold removeArms
  extract_lets x _ t u
  split
  · refine (inOpenOrder_eq console _ u (fun _ _ => rfl) fun act ha v => ?_).trans (hsplice t)
    simp only [List.mem_cons, List.not_mem_nil, or_false] at ha
    obtain rfl | rfl := ha
    · exact hr _ v
    · simp [console]
  · simp [console, t]

theorem requestRemoval_console {react : Strain → State → State}
    (hr : ∀ st t, console (react st t) = console t) (cause : RemovalCause) :
    console (requestRemoval react cause s) = console s := by
  unfold requestRemoval
  split
  · simp [console]
  · simp [console]
  · exact removeArms_console s hr cause
  · split
    · simp [console]
    · rfl
  · rfl

theorem evuStrainLimit_console (st : Strain) (t : State) :
    console (evuStrainLimit st t) = console t := by simp [console]

theorem crossheadStrain_inRange : InRange32 (crossheadStrain s).value := inRange32_clampSigned32 _

theorem spliceToCrosshead_guarded : Guarded s (spliceToCrosshead s) := by
  unfold spliceToCrosshead
  extract_lets _ t
  have ht : Guarded s t := .quiet rfl
  exact ht.trans (keepStrain_guarded t (crossheadStrain_inRange t))

theorem raiseExt_guarded (d : ExtDetail) : Guarded s (raiseExt d s) := .quiet (by simp [dials])

theorem removeArms_guarded {react : Strain → State → State} (hr : ∀ st t, Guarded t (react st t))
    (cause : RemovalCause) : Guarded s (removeArms react cause s) := by
  unfold removeArms
  extract_lets x _ t u
  have ht : Guarded s t := .quiet rfl
  split
  · refine (ht.trans (spliceToCrosshead_guarded t)).trans (inOpenOrder_guarded u _ fun act ha v => ?_)
    simp only [List.mem_cons, List.not_mem_nil, or_false] at ha
    obtain rfl | rfl := ha
    · exact hr _ v
    · exact .quiet (by simp [dials])
  · exact .quiet (by simp [dials, t])

theorem failAttach_guarded (c : AttachFailure) (n : HandlerState) : Guarded s (failAttach c n s) :=
  .quiet (by simp [dials])

theorem requestRemoval_guarded {react : Strain → State → State}
    (hr : ∀ st t, Guarded t (react st t)) (cause : RemovalCause) :
    Guarded s (requestRemoval react cause s) := by
  have hopen : Guarded s (raiseExt (.removed cause) (s.setExh { s.exh with handler := .opened })) :=
    .quiet (by simp [dials])
  unfold requestRemoval
  split
  · exact hopen
  · exact failAttach_guarded s _ _
  · exact removeArms_guarded s hr cause
  · split
    · exact hopen
    · exact .refl s
  · exact .refl s

theorem requestPhaseMode_guarded (h : s.tsq.state = .running ∨ latchEmpty s = false) :
    Guarded s (requestPhaseMode s) := by
  unfold requestPhaseMode
  split
  · exact requestMode_guarded s _ h
  · exact .refl s

theorem beginPhase_guarded (k : Nat) (h : s.tsq.state = .running ∨ latchEmpty s = false) :
    Guarded s (beginPhase k s) :=
  Guarded.after (requestPhaseMode_guarded _ h) (.quiet rfl)

theorem endPhase_guarded (k : Nat) (p : Phase) (h : s.tsq.state = .running) :
    Guarded s (endPhase k p s) := by
  unfold endPhase
  extract_lets _ s1 s2
  have h1 : Guarded s s1 := .after (handMilestone_guarded _ _) (.quiet rfl)
  have h2 : Guarded s1 s2 := by
    unfold s2
    split
    · exact requestRemoval_guarded s1 (fun st t => evuStrainLimit_guarded t st) _
    · exact .refl s1
  have hrun : s2.tsq.state = .running := by
    have hs1 : s1.tsq.state = .running := by
      simpa [s1] using h
    unfold s2
    split
    · have hc := requestRemoval_console s1 evuStrainLimit_console .phaseAction
      exact (congrArg (fun c => c.1.state) hc).trans hs1
    · exact hs1
  refine (h1.trans h2).trans ?_
  split
  · exact beginPhase_guarded s2 _ (.inl hrun)
  · exact endTest_guarded s2 _ (.inl rfl)

theorem judgeEnd_guarded (met : EndKind → Int → Bool) : Guarded s (judgeEnd met s) := by
  unfold judgeEnd
  split
  · split
    · rename_i hmet
      simp only [Bool.and_eq_true, decide_eq_true_eq] at hmet
      exact endPhase_guarded s _ _ hmet.1
    · exact .refl s
  · exact .refl s

theorem evuStrain_guarded (st : Strain) : Guarded s (evuStrain st s) := by
  unfold evuStrain
  split
  · exact (closeAtLimit_guarded s _).trans (judgeEnd_guarded _ _)
  · exact .refl s

theorem offerStrain_guarded (st : Strain) : Guarded s (offerStrain st s) := by
  refine inOpenOrder_guarded s _ fun act ha t => ?_
  simp only [List.mem_cons, List.not_mem_nil, or_false] at ha
  obtain rfl | rfl := ha
  · exact judgeEnd_guarded t _
  · exact evuStrain_guarded t st

theorem judgeSlip_dials (x : ExtSet) (v : Int) : dials (judgeSlip x v s) = dials s := by
  unfold judgeSlip
  split
  · split
    · simp [dials, keepLastExt]
    · rfl
  · rfl

theorem judgeRemoval_guarded {react : Strain → State → State} (hr : ∀ st t, Guarded t (react st t))
    (rangeEnd : Bool) (st : Strain) : Guarded s (judgeRemoval react rangeEnd st s) := by
  unfold judgeRemoval
  split
  · exact .refl s
  · split
    · exact removeArms_guarded s hr _
    · split
      · exact removeArms_guarded s hr _
      · exact .refl s

theorem exhStrain_guarded {react : Strain → State → State} (hr : ∀ st t, Guarded t (react st t))
    (rangeEnd : Bool) (st : Strain) : Guarded s (exhStrain react rangeEnd st s) := by
  unfold exhStrain
  split
  · exact .refl s
  · split
    · exact .refl s
    · exact Guarded.trans (.quiet (judgeSlip_dials s _ _)) (judgeRemoval_guarded _ hr _ _)

theorem publishCrosshead_guarded : Guarded s (publishCrosshead s) :=
  (keepStrain_guarded s (crossheadStrain_inRange s)).trans (offerStrain_guarded _ _)

/-! ## The end of the evaluations -/

theorem takeBreak_guarded (x : EvalSample) : Guarded s (takeBreak x s) := by
  unfold takeBreak
  extract_lets _ s1 _ _ s2 s3
  have h1 : Guarded s s1 := .after (recordMilestone_guarded _ _) (.quiet rfl)
  have h2 : Guarded s1 s2 := .quiet rfl
  have h3 : Guarded s2 s3 :=
    (enterHold_guarded s2).trans (requestRemoval_guarded _ (fun st t => offerStrain_guarded t st) _)
  refine (h1.trans (h2.trans h3)).trans ?_
  split
  · exact endTest_guarded s3 _ (.inl rfl)
  · exact endTest_guarded s3 _ (.inl rfl)
  · exact .refl s3

theorem detectBreak_guarded (x : EvalSample) : Guarded s (detectBreak x s) := by
  unfold detectBreak
  split
  · exact .refl s
  · split
    · exact takeBreak_guarded s x
    · exact .refl s

theorem evaluateRest_guarded (x : EvalSample) : Guarded s (evaluateRest x s) := by
  unfold evaluateRest
  extract_lets watching t
  have ht : Guarded s t := whileRunning_guarded s (fun r v u => judgeChord_guarded u x r v) x
  refine .after (detectBreak_guarded _ x) ?_
  split
  · exact ht.trans (whileRunning_guarded t (fun r v u => judgeProof_guarded u x r v) x)
  · exact ht

theorem evuForce_guarded : Guarded s (evuForce s) := by
  unfold evuForce
  split
  · extract_lets x s1 s2
    have h1 : Guarded s s1 := .quiet rfl
    have h2 : Guarded s1 s2 := whileRunning_guarded s1 (fun r v t => searchYield_guarded t r v x) x
    refine (h1.trans h2).trans ?_
    split
    · refine inOpenOrder_guarded s2 _ fun act ha t => ?_
      simp only [List.mem_cons, List.not_mem_nil, or_false] at ha
      obtain rfl | rfl := ha
      · exact judgeEnd_guarded t _
      · exact evaluateRest_guarded t x
    · exact evaluateRest_guarded s2 x
  · exact .refl s

/-! ## Load -/

theorem sendRequest_dials : dials (sendRequest s) = dials s := by
  unfold sendRequest
  split
  · simp [dials, isDemand]
  · rfl

theorem makeRequest_dials (h : Fin 4) : dials (makeRequest h s) = dials s :=
  (sendRequest_dials _).trans rfl

theorem repeatRequest_dials : dials (repeatRequest s) = dials s := (sendRequest_dials _).trans rfl

theorem initialRequest_dials : dials (initialRequest s) = dials s := by
  unfold initialRequest
  split
  · rfl
  · split <;> exact makeRequest_dials s _

theorem matchRequest_dials (g : Fin 4) : dials (matchRequest g s) = dials s := by
  unfold matchRequest
  split
  · rfl
  · split
    · rfl
    · split
      · exact repeatRequest_dials s
      · rfl

theorem failTare_dials (cause : TareFailure) : dials (failTare cause s) = dials s := by
  simp [dials]

theorem tareSample_dials : dials (tareSample s) = dials s := by
  have hadd : ∀ job t, dials (addToTare job t) = dials t := by
    intro job t
    unfold addToTare
    extract_lets sum
    split
    · rfl
    · simp [dials]
  unfold tareSample
  split
  · rfl
  · split
    · exact hadd _ s
    · exact hadd _ s
    · exact failTare_dials s _
    · exact failTare_dials s _
    · rfl

theorem rangeSample_dials (outstanding : Bool) (g : Fin 4) :
    dials (rangeSample outstanding g s) = dials s := by
  rw [rangeSample_eq]
  split
  · exact makeRequest_dials s _
  · rfl

theorem loadWork_dials (before : Bool) (g : Fin 4) : dials (loadWork before g s) = dials s := by
  have h : dials (tareSample (matchRequest g s)) = dials s :=
    (tareSample_dials _).trans (matchRequest_dials s g)
  unfold loadWork
  extract_lets after t choice
  split
  · exact ((rangeSample_dials _ _ _).trans rfl).trans h
  · exact (rangeSample_dials _ _ _).trans h

theorem makeDue_dials : dials (makeDue s) = dials s := by
  unfold makeDue
  split
  · rfl
  · simp [dials]

theorem streamForce_dials : dials (streamForce s) = dials s := by
  unfold streamForce
  extract_lets t
  split
  · split
    · exact (makeDue_dials _).trans rfl
    · rfl
  · rfl

theorem exhForce_guarded : Guarded s (exhForce s) := by
  unfold exhForce
  split
  · exact removeArms_guarded s (fun st t => offerStrain_guarded t st) _
  · exact .refl s

theorem receiveRange_dials (g : Fin 4) : dials (receiveRange g s) = dials s := by
  unfold receiveRange
  extract_lets _ t
  split
  · rfl
  · split
    · rfl
    · simp [dials, t]

theorem loadSample_guarded (f : SampleFrame) : Guarded s (loadSample f s) := by
  unfold loadSample
  extract_lets before
  have h : Guarded s (convertSample f (receiveRange f.range s)) :=
    .trans (.quiet (receiveRange_dials s f.range)) (.quiet rfl)
  refine h.trans (inOpenOrder_guarded _ _ fun act ha t => ?_)
  simp only [List.mem_cons, List.not_mem_nil, or_false] at ha
  obtain rfl | rfl | rfl | rfl | rfl | rfl := ha
  · exact protectForce_guarded t
  · exact evuForce_guarded t
  · exact judgeEnd_guarded t _
  · exact exhForce_guarded t
  · exact .quiet (streamForce_dials t)
  · exact .quiet (loadWork_dials t _ _)

theorem startFallback_dials : dials (startFallback s) = dials s := by
  unfold startFallback
  split <;> rfl

theorem loseLoad_guarded : Guarded s (loseLoad s) := by
  refine inOpenOrder_guarded s _ fun act ha t => ?_
  simp only [List.mem_cons, List.not_mem_nil, or_false] at ha
  obtain rfl | rfl | rfl := ha
  · exact .quiet ((failTare_dials _ _).trans rfl)
  · exact Guarded.after (judgeLoadLost_guarded _ _) (.quiet rfl)
  · exact .quiet (startFallback_dials t)

theorem restoreLoad_guarded : Guarded s (restoreLoad s) :=
  Guarded.after (judgeLoadLost_guarded _ _) (.quiet rfl)

/-! ## The position and the arms -/

theorem regainPosition_guarded : Guarded s (regainPosition s) := by
  unfold regainPosition
  extract_lets t
  have ht : Guarded s t := setCondition_guarded s _ _
  split
  · rename_i h
    simp only [Bool.or_eq_true, Bool.and_eq_true, Option.isNone_iff_eq_none] at h
    exact ht.trans (initialiseDemand_guarded t (h.imp id And.right))
  · exact ht

theorem exhPosition_guarded : Guarded s (exhPosition s) := by
  unfold exhPosition
  split
  · exact publishCrosshead_guarded s
  · exact .refl s

theorem positionSample_guarded (f : SampleFrame) : Guarded s (positionSample f s) := by
  unfold positionSample
  split
  · exact .refl s
  · extract_lets _ t
    have ht : Guarded s t := .quiet rfl
    refine Guarded.after (inOpenOrder_guarded _ _ fun act ha u => ?_) ?_
    · simp only [List.mem_cons, List.not_mem_nil, or_false] at ha
      obtain rfl | rfl | rfl := ha
      · exact protectPosition_guarded u
      · exact exhPosition_guarded u
      · exact judgeEnd_guarded u _
    · split
      · exact ht
      · exact ht.trans (regainPosition_guarded t)

theorem reportedExtensometer_inRange (x : ExtSet) : InRange32 (reportedExtensometer x s).value :=
  inRange32_clampSigned32 _

theorem completeAttach_guarded (x : ExtSet) (v : Averaging) : Guarded s (completeAttach x v s) := by
  unfold completeAttach
  extract_lets t st
  have ht : Guarded s t := .quiet rfl
  have hkept : Guarded s (keepLastExt st.value (keepStrain st t)) :=
    (ht.trans (keepStrain_guarded t (reportedExtensometer_inRange t x))).trans (.quiet rfl)
  refine hkept.trans (inOpenOrder_guarded _ _ fun act ha u => ?_)
  simp only [List.mem_cons, List.not_mem_nil, or_false] at ha
  obtain rfl | rfl | rfl | rfl := ha
  · exact judgeEnd_guarded u _
  · exact evuStrain_guarded u st
  · exact judgeRemoval_guarded u (fun st t => offerStrain_guarded t st) _ _
  · exact raiseExt_guarded u _

theorem measureArm_guarded (x : ExtSet) (armB : Bool) : Guarded s (measureArm x armB s) := by
  unfold measureArm publishExt
  extract_lets t
  have ht : Guarded s t := .quiet rfl
  refine (ht.trans (keepStrain_guarded t (reportedExtensometer_inRange t x))).trans
    (inOpenOrder_guarded _ _ fun act ha u => ?_)
  simp only [List.mem_cons, List.not_mem_nil, or_false] at ha
  obtain rfl | rfl | rfl := ha
  · exact judgeEnd_guarded u _
  · exact evuStrain_guarded u _
  · exact exhStrain_guarded u (fun st t => offerStrain_guarded t st) _ _

theorem holdArm_dials (armB : Bool) (n : Int) : dials (holdArm armB n s) = dials s := by
  unfold holdArm
  split <;> rfl

theorem armSample_guarded (armB : Bool) (f : SampleFrame) : Guarded s (armSample armB f s) := by
  unfold armSample
  extract_lets t
  have ht : Guarded s t := .quiet (holdArm_dials s armB f.value)
  refine ht.trans ?_
  split
  · exact .refl t
  · split
    · split
      · unfold averageArm
        extract_lets next
        split
        · exact completeAttach_guarded t _ _
        · exact .quiet rfl
      · exact measureArm_guarded t _ _
      · exact .refl t
    · exact .refl t

theorem armLost_guarded (armB : Bool) : Guarded s (armLost armB s) := by
  unfold armLost
  split
  · exact .refl s
  · split
    · split
      · exact failAttach_guarded s _ _
      · unfold loseArm
        extract_lets x _ t u
        have ht : Guarded s t := .quiet rfl
        split
        · refine (ht.trans (spliceToCrosshead_guarded t)).trans
            (inOpenOrder_guarded u _ fun act ha v => ?_)
          simp only [List.mem_cons, List.not_mem_nil, or_false] at ha
          obtain rfl | rfl := ha
          · exact offerStrain_guarded v _
          · exact .quiet (by simp [dials])
        · exact .quiet (by simp [dials, t])
      · exact .refl s
    · exact .refl s

/-! ## Lanes and channels -/

theorem channelLost_guarded (c : Channel) : Guarded s (channelLost c s) := by
  cases c with
  | load => exact loseLoad_guarded s
  | xhead => exact losePosition_guarded s
  | extA => exact armLost_guarded s false
  | extB => exact armLost_guarded s true
  | unused => exact .refl s

theorem channelRestored_guarded (c : Channel) : Guarded s (channelRestored c s) := by
  cases c with
  | load => exact restoreLoad_guarded s
  | xhead | extA | extB | unused => exact .refl s

theorem bringUp_guarded (lane : Lane) : Guarded s (bringUp lane s) := by
  have hraised : Guarded s (laneRaised lane s) := by
    refine .quiet ?_
    simp only [laneRaised, startDemandTimer]
    split <;> simp [dials, setLane]
  rw [bringUp_eq]
  refine hraised.trans (inOpenOrder_guarded _ _ fun act ha t => ?_)
  obtain ⟨c, -, rfl⟩ := List.mem_map.1 ha
  exact channelRestored_guarded t c

theorem acceptFrame_guarded (lane : Lane) : Guarded s (acceptFrame lane s) := by
  unfold acceptFrame
  split
  · exact .quiet rfl
  · exact bringUp_guarded s lane
  · exact bringUp_guarded s lane

theorem goStale_guarded (lane : Lane) : Guarded s (goStale lane s) := by
  unfold goStale
  extract_lets _ t
  have ht : Guarded s t := .quiet (by simp [dials, t, setLane])
  refine ht.trans (inOpenOrder_guarded _ _ fun act ha u => ?_)
  obtain ha | ha := List.mem_append.1 ha
  · split at ha
    · obtain rfl := List.mem_singleton.1 ha
      exact loseDriveLane_guarded u
    · cases ha
  · obtain ⟨c, -, rfl⟩ := List.mem_map.1 ha
    exact channelLost_guarded u c

theorem deliver_guarded (lane : Lane) (c : Channel) (f : SampleFrame) :
    Guarded s (deliver lane c f s) := by
  cases c with
  | load => exact loadSample_guarded s f
  | xhead => exact positionSample_guarded s f
  | extA => exact armSample_guarded s false f
  | extB => exact armSample_guarded s true f
  | unused => exact .quiet rfl

theorem steer_guarded (lane : Lane) (f : SampleFrame) : Guarded s (steer lane f s) := by
  unfold steer
  split
  · exact .quiet rfl
  · extract_lets k
    refine Guarded.after (deliver_guarded _ _ _ _) ?_
    split
    · exact .quiet rfl
    · exact .refl s

theorem driveReady_guarded : Guarded s (driveReady s) := by
  unfold driveReady
  split
  · rename_i h
    simp only [Bool.and_eq_true] at h
    exact initialiseDemand_guarded s (.inr h.2)
  · exact .refl s

theorem takeDriveStatus_guarded (d : DriveStatus) : Guarded s (takeDriveStatus d s) := by
  unfold takeDriveStatus
  extract_lets _ t
  have ht : Guarded s t := .quiet rfl
  split
  · refine ht.trans (inOpenOrder_guarded _ _ fun act ha u => ?_)
    simp only [List.mem_cons, List.not_mem_nil, or_false] at ha
    obtain rfl | rfl := ha
    · exact driveReady_guarded u
    · exact judgeAtOnce_guarded u _ _
  · exact ht.trans (judgeAtOnce_guarded t _ _)

theorem receive_guarded (lane : Lane) (frame : LaneFrame) : Guarded s (receive lane frame s) := by
  cases frame with
  | bad => exact .quiet rfl
  | driveStatus d => exact (acceptFrame_guarded s lane).trans (takeDriveStatus_guarded _ d)
  | sample f =>
    unfold receive
    dsimp only
    split
    · exact .quiet rfl
    · exact (acceptFrame_guarded s lane).trans (steer_guarded _ lane f)

end Sys2Proof.Machine
end

section
/-!
SUPPORT. The tables, the orders and the commands keep the test's invariant and the frozen demand.
-/

namespace Sys2Proof.Machine

/-! ## What an order or a command keeps -/

/-- What an order or a command does: it keeps the test's invariant; it leaves a demand that is frozen before
and after it as it is; it sends no DEMAND frame. An accepted CLEAR-TRIP empties the latch, and so is not
`Frozen`, but keeps this. -/
structure Kept (s t : State) : Prop where
  test : TestInvariant s → TestInvariant t
  demand : ∀ p : Int, latchEmpty s = false → latchEmpty t = false → s.xhu.mode = .hold →
    s.xhu.demand = some p → t.xhu.demand = some p
  frames : (dials t).frames = (dials s).frames

theorem Frozen.kept {s t : State} (f : Frozen s t) (h : TestInvariant s → TestInvariant t) :
    Kept s t where
  test := h
  frames := f.frames
  demand p hl _ hm hd := (f.demand hl hm (by simp [hd])).2.trans hd

theorem Guarded.keeps {s t : State} (g : Guarded s t) (h : TestInvariant s) : TestInvariant t :=
  .of_halves (g.sequenced h.sequenced) (g.moded h.moded)

theorem Guarded.kept {s t : State} (g : Guarded s t) : Kept s t := g.frozen.kept g.keeps

/-- An act before or after that turns no dial. -/
theorem Kept.framed {s s' t t' : State} (k : Kept s' t') (hs : dials s' = dials s)
    (ht : dials t = dials t') : Kept s t := by
  have gs : Guarded s s' := .quiet hs
  have gt : Guarded t' t := .quiet ht
  simp only [dials, Dials.mk.injEq] at hs ht
  obtain ⟨-, -, hsl, hsm, hsd, -⟩ := hs
  obtain ⟨-, -, htl, -, htd, -⟩ := ht
  refine ⟨gt.keeps ∘ k.test ∘ gs.keeps, fun p hl hl' hm hd => ?_,
    gt.frozen.frames.trans (k.frames.trans gs.frozen.frames)⟩
  rw [htd]
  refine k.demand p ?_ ?_ (hsm.trans hm) (hsd.trans hd)
  · rwa [latchEmpty_congr hsl]
  · rwa [← latchEmpty_congr htl]

variable {s : State}

theorem reply_dials (o : OrderName) (tag : Byte) (code : ReplyCode) (d : Option Detail)
    (p : Option Payload) (s : State) : dials (reply o tag code d p s) = dials s := by
  simp [reply, dials]

/-- An order answered after its effects. -/
theorem Kept.reply {t : State} (k : Kept s t) (o : OrderName) (tag : Byte) (code : ReplyCode)
    (d : Option Detail) (p : Option Payload) : Kept s (reply o tag code d p t) :=
  k.framed rfl (reply_dials o tag code d p t)

/-- An order answered without effects on any dial. -/
theorem replied_kept {t : State} (e : dials t = dials s) {o : OrderName} {tag : Byte}
    {code : ReplyCode} {d : Option Detail} {p : Option Payload} :
    Kept s (Machine.reply o tag code d p t) :=
  (Guarded.quiet e).kept.reply o tag code d p

/-! ## Tables -/

theorem replaceRoute_guarded (new : Option RouteTable) (s : State) :
    Guarded s (replaceRoute new s) := by
  have events : ∀ old c t, Guarded t (routeEvents old c t) := by
    intro old c t
    unfold routeEvents
    split
    · exact .refl t
    · extract_lets u
      have hu : Guarded t u := by
        unfold u
        split
        · exact channelLost_guarded t c
        · exact .refl t
      split
      · exact hu.trans (channelRestored_guarded u c)
      · exact hu
  unfold replaceRoute
  extract_lets old t
  have ht : Guarded s t := .quiet rfl
  have hu : Guarded t (inOpenOrder (ownedChannels.map (routeEvents old)) t) := by
    refine inOpenOrder_guarded t _ fun act ha u => ?_
    obtain ⟨c, -, rfl⟩ := List.mem_map.1 ha
    exact events old c u
  refine (ht.trans hu).trans ?_
  unfold fallbackUnmapped
  split
  · exact .quiet (startFallback_dials _)
  · exact .refl _

theorem replaceCal_dials (startUp : Bool) (g : Fin 4) (new : Option CalTable) (s : State) :
    dials (replaceCal startUp g new s) = dials s := by
  unfold replaceCal
  extract_lets _ t
  have ht : dials t = dials s := rfl
  split
  · split
    · exact (initialRequest_dials t).trans ht
    · exact ht
  · split
    · exact ht
    · split
      · split
        · exact (makeRequest_dials t _).trans ht
        · rfl
      · exact ht

theorem replaceLoadSet_dials (startUp : Bool) (new : Option LoadSet) (s : State) :
    dials (replaceLoadSet startUp new s) = dials s := by
  unfold replaceLoadSet
  extract_lets _ t
  have ht : dials t = dials s := rfl
  split
  · split
    · exact ht
    · exact (makeRequest_dials t _).trans ht
  · exact ht

theorem replaceExtSet_dials (new : Option ExtSet) (s : State) :
    dials (replaceExtSet new s) = dials s := by
  unfold replaceExtSet
  split <;> simp [dials, detach]

theorem replaceXSet_guarded (new : Option XSet) (s : State) : Guarded s (replaceXSet new s) := by
  unfold replaceXSet
  extract_lets _ t
  have ht : Guarded s t := .quiet rfl
  split
  · exact (ht.trans (setCondition_guarded t _ _)).trans (losePosition_guarded _)
  · exact ht

/-- The replacement of a working copy, whatever the table. -/
theorem install_guarded (startUp : Bool) (id : TableId) (t : Tables) (s : State) :
    Guarded s (install startUp id t s) := by
  have hu : Guarded s (advanceEdition id s) := .quiet rfl
  refine hu.trans ?_
  cases id with
  | route => exact replaceRoute_guarded _ _
  | cal g => exact .quiet (replaceCal_dials _ _ _ _)
  | loadset => exact .quiet (replaceLoadSet_dials _ _ _)
  | extset => exact .quiet (replaceExtSet_dials _ _)
  | xset => exact replaceXSet_guarded _ _
  | protset | lineset | nlevels | prog k => exact .quiet rfl

theorem commitTable_guarded (x : TableId) (es : List Entry) (s : State) :
    Guarded s (commitTable x es s) :=
  (install_guarded false x (readTable x es) s).trans (.quiet (by simp [dials, commitTable, closeSession]))

theorem ownTableCommit_kept (tag : Byte) (args : List Byte) : Kept s (ownTableCommit tag args s) := by
  have named : ∀ failed, dials (closeSession (namedCondition failed s).2) = dials s := by
    intro failed
    unfold namedCondition
    split <;> rfl
  unfold ownTableCommit
  split
  · exact replied_kept (by rfl)
  · split
    · exact replied_kept (by rfl)
    · split
      · exact replied_kept (named _)
      · split
        · exact replied_kept (by rfl)
        · split
          · exact replied_kept (by rfl)
          · exact (commitTable_guarded _ _ s).kept.reply _ _ _ _ _

/-! ## Orders that turn no dial -/

section quietOrders

variable (tag : Byte) (args : List Byte)

theorem ownTableOpen_kept : Kept s (ownTableOpen tag args s) := by
  unfold ownTableOpen
  (repeat' split) <;> exact replied_kept (by rfl)

theorem ownTableData_kept : Kept s (ownTableData tag args s) := by
  unfold ownTableData
  (repeat' split) <;> exact replied_kept (by rfl)

theorem ownTableDiscard_kept : Kept s (ownTableDiscard tag args s) := by
  unfold ownTableDiscard
  (repeat' split) <;> exact replied_kept (by rfl)

theorem ownTableRead_kept : Kept s (ownTableRead tag args s) := by
  unfold ownTableRead
  split
  · exact replied_kept (by rfl)
  · dsimp only
    (repeat' split) <;> exact replied_kept (by rfl)

theorem ownStoreSave_kept : Kept s (ownStoreSave tag args s) := by
  unfold ownStoreSave
  (repeat' split) <;> exact replied_kept (by rfl)

theorem ownStoreRecall_kept : Kept s (ownStoreRecall tag args s) := by
  unfold ownStoreRecall
  (repeat' split) <;> exact replied_kept (by rfl)

theorem ownMilestoneRead_kept : Kept s (ownMilestoneRead tag args s) := by
  unfold ownMilestoneRead
  (repeat' split) <;> exact replied_kept (by rfl)

theorem ownTare_kept : Kept s (ownTare tag args s) := by
  unfold ownTare
  split
  · exact replied_kept (by rfl)
  · split
    · exact replied_kept (by rfl)
    · split
      · exact replied_kept (by rfl)
      · exact Guarded.kept (.quiet rfl)

theorem ownTripHistoryReset_kept : Kept s (ownTripHistoryReset tag args s) := by
  unfold ownTripHistoryReset
  split <;> exact replied_kept (by rfl)

theorem ownLineSet_kept : Kept s (ownLineSet tag args s) := by
  unfold ownLineSet
  split
  · dsimp only
    split <;> exact replied_kept (by rfl)
  · exact replied_kept (by rfl)

theorem ownStreamSet_kept : Kept s (ownStreamSet tag args s) := by
  unfold ownStreamSet
  extract_lets n
  split
  · exact replied_kept (by rfl)
  · exact replied_kept (by rfl)

theorem ownStatusRead_kept : Kept s (ownStatusRead tag args s) := by
  unfold ownStatusRead
  split <;> exact replied_kept (by rfl)

end quietOrders

end Sys2Proof.Machine
end

section
/-!
SUPPORT. The orders that change the sequencer's state, and the other orders and commands.
-/

namespace Sys2Proof.Machine

variable {s : State}

/-! ## Changes of the sequencer's state -/

/-- The sequencer enters a state: the latch is empty where it must be, the record agrees, and no test
starts. -/
theorem Sequenced.entered {t : State} {new : SeqState} {r : Option Specimen} (h : Sequenced s)
    (e : dials t = { dials s with state := new, specimen := r })
    (hlatch : new = .armed ∨ new = .running ∨ new = .held → latchEmpty s = true)
    (hrecord : r.isSome = true ↔ new = .armed ∨ new = .running ∨ new = .held ∨ new = .tripped)
    (hin : outsideTest new = true ∨ inTest s = true) : Sequenced t := by
  simp only [dials, Dials.mk.injEq] at e
  obtain ⟨hst, hsp, hla, hmo, hde, hxs, hes, hch, hpr, hfr⟩ := e
  constructor
  · rwa [hst, latchEmpty_congr hla]
  · rwa [hst, hsp]
  · intro hi
    rw [hes, hxs]
    refine h.strain (hin.resolve_left ?_)
    simpa [inTest_eq, hst] using hi
  · rw [hpr, hch]
    exact h.proof

/-- The sequencer enters a state: RUNNING is left in HOLD only, and a jog goes on outside a test only. -/
theorem Moded.entered {t : State} {new : SeqState} {r : Option Specimen} (h : Moded s)
    (e : dials t = { dials s with state := new, specimen := r })
    (hrunning : s.tsq.state ≠ .running ∨ new = .running)
    (hjog : outsideTest new = true ∨ jogActive s = false) : Moded t := by
  simp only [dials, Dials.mk.injEq] at e
  obtain ⟨hst, hsp, hla, hmo, hde, hxs, hes, hch, hpr, hfr⟩ := e
  have hj := jogActive_congr hmo
  constructor
  · rw [hmo, hst, hj]
    intro hm
    obtain hrun | hact := h.mode hm
    · exact .inl (hrunning.resolve_left (by simp [hrun]))
    · exact .inr hact
  · rw [hj, latchEmpty_congr hla]
    intro hact
    refine ⟨?_, (h.jog hact).2⟩
    simpa [inTest_eq, hst] using hjog.resolve_right (by simp [hact])

theorem enterState_dials (new : SeqState) (s : State) :
    dials (enterState new s) = { dials s with state := new } := rfl

/-- A change of state by an order, with its occurrence and the judgement of LOAD-LOST. -/
theorem changeStateArming_entered (new : SeqState) (cause : TestCause) (s : State) :
    Guarded (enterState new s) (changeStateArming new cause s) :=
  Guarded.after (judgeLoadLost_guarded _ _) (.quiet (by simp [dials]))

/-- A change of state freezes the demand, whatever the state. -/
theorem changeStateArming_frozen (new : SeqState) (cause : TestCause) (s : State) :
    Frozen s (changeStateArming new cause s) :=
  (changeStateArming_entered new cause s).frozen.framed rfl rfl rfl rfl

/-- The dials after a class that was not latched has tripped (R142). -/
def TrippedFrom (s t : State) : Prop :=
  ∃ c : TripClass, dials t =
    { dials s with
      state := trippedState s.tsq.state
      specimen := trippedRecord s
      latch := s.pru.latch.set (tripNumber c) true
      mode := .hold }

theorem judgeLoadLost_dials (up : Bool) (s : State) :
    dials (judgeLoadLost up s) = dials s ∨ TrippedFrom s (judgeLoadLost up s) := by
  have hspend : dials (spend .loadLost s) = dials s ∨ TrippedFrom s (spend .loadLost s) := by
    by_cases hc : latched (setCondition .loadLost .spent s) .loadLost = true
    · rw [spend, trip, if_pos hc]
      exact .inl rfl
    · exact .inr ⟨_, trip_dials _ (by simpa using hc)⟩
  unfold judgeLoadLost
  split
  · exact .inl rfl
  · split
    · split
      · split
        · exact hspend
        · exact .inl rfl
      · exact .inl rfl
    · exact .inl rfl

/-- Entering RUNNING, the test runs, or LOAD-LOST has tripped it. -/
theorem changeStateArming_running (cause : TestCause) (s : State) :
    (changeStateArming .running cause s).tsq.state = .running ∧
        (dials (changeStateArming .running cause s)) = { dials s with state := .running } ∨
      ∃ c : TripClass, dials (changeStateArming .running cause s) =
        { dials s with
          state := .tripped
          latch := s.pru.latch.set (tripNumber c) true
          mode := .hold } := by
  have hraise : dials (raise .test (.test .running s.tsq.state cause) (enterState .running s)) =
      { dials s with state := .running } := by simp [dials, enterState]
  obtain h | ⟨c, h⟩ := judgeLoadLost_dials
      (channelUp (raise .test (.test .running s.tsq.state cause) (enterState .running s)) .load)
      (raise .test (.test .running s.tsq.state cause) (enterState .running s))
  · have e := h.trans hraise
    exact .inl ⟨congrArg Dials.state e, e⟩
  · refine .inr ⟨c, h.trans ?_⟩
    rw [hraise]
    simp [trippedRecord, trippedState, enterState, dials]

/-- After the entry into RUNNING a phase's mode request is granted by a running test, or refused. -/
theorem changeStateArming_requests (cause : TestCause) (s : State) :
    (changeStateArming .running cause s).tsq.state = .running ∨
      latchEmpty (changeStateArming .running cause s) = false := by
  obtain ⟨h, -⟩ | ⟨c, h⟩ := changeStateArming_running cause s
  · exact .inl h
  · exact .inr (latchEmpty_of_set (congrArg Dials.latch h))

/-! ## ARM, DISARM, RELEASE, HOLD, RESUME, ABORT -/

theorem armTest_kept (r : Specimen) (hlatch : latchEmpty s = true)
    (hstate : s.tsq.state = .idle ∨ s.tsq.state = .ended ∨ s.tsq.state = .aborted) :
    Kept s (armTest r s) := by
  have e : dials (enterState .armed (evuDiscard (holdSpecimen r s))) =
      { dials s with state := .armed, specimen := some r } := rfl
  refine Frozen.kept ((changeStateArming_frozen _ _ _).framed rfl rfl rfl rfl) fun h => ?_
  refine (changeStateArming_entered _ _ _).keeps (.of_halves ?_ ?_)
  · exact h.sequenced.entered e (fun _ => hlatch) (by simp) (.inl rfl)
  · refine h.moded.entered e (.inl ?_) (.inl rfl)
    obtain hs | hs | hs := hstate <;> simp [hs]

theorem ownArm_kept (tag : Byte) (args : List Byte) : Kept s (ownArm tag args s) := by
  unfold ownArm
  split
  · exact replied_kept (by rfl)
  · rename_i hnone
    refine (armTest_kept _ ?_ ?_).reply _ _ _ _ _
    · by_contra hl
      rw [Bool.not_eq_true] at hl
      unfold armRefusal at hnone
      split at hnone
      · cases hnone
      · simp [hl] at hnone
    · by_contra hs
      simp only [not_or] at hs
      simp [armRefusal, hs] at hnone

/-- The sequencer goes to IDLE without a record. -/
theorem toIdle {t u : State} (hstate : s.tsq.state ≠ .running)
    (e : dials (enterState .idle t) = { dials s with state := .idle, specimen := none })
    (g : Guarded (enterState .idle t) u) : Frozen s u ∧ (TestInvariant s → TestInvariant u) := by
  have hparts := e
  simp only [dials, Dials.mk.injEq] at hparts
  obtain ⟨-, -, hla, hmo, hde, -, -, -, -, hfr⟩ := hparts
  refine ⟨g.frozen.framed hla hmo hde hfr, fun h => ?_⟩
  exact g.keeps (.of_halves (h.sequenced.entered e (by simp) (by simp) (.inl rfl))
    (h.moded.entered e (.inl hstate) (.inl rfl)))

theorem ownDisarm_kept (tag : Byte) (args : List Byte) : Kept s (ownDisarm tag args s) := by
  unfold ownDisarm
  split
  · rename_i hstate
    obtain ⟨hfrozen, htest⟩ := toIdle (s := s)
      (t := releaseSpecimen (s.setTsq { s.tsq with slot := none })) (by simp [hstate]) rfl
      (changeStateArming_entered .idle .disarm _)
    exact (hfrozen.kept htest).reply _ _ _ _ _
  · exact replied_kept (by rfl)

/-- RELEASE finds no record held: the invariant says so, and the order itself leaves the record alone. -/
theorem releaseTest_kept (hstate : s.tsq.state = .ended ∨ s.tsq.state = .aborted) :
    Kept s (releaseTest s) := by
  refine Frozen.kept ((changeStateArming_frozen _ _ _).framed rfl rfl rfl rfl) fun h => ?_
  have hnone : s.tsq.specimen.isSome = false := by
    rw [Bool.eq_false_iff, ne_eq, h.record]
    obtain hs | hs := hstate <;> simp [hs]
  have e : dials (enterState .idle (s.setTsq { s.tsq with slot := none, phase := none })) =
      { dials s with state := .idle, specimen := s.tsq.specimen } := rfl
  refine (changeStateArming_entered _ _ _).keeps (.of_halves ?_ ?_)
  · exact h.sequenced.entered e (by simp) (by simp [hnone]) (.inl rfl)
  · refine h.moded.entered e (.inl ?_) (.inl rfl)
    obtain hs | hs := hstate <;> simp [hs]

theorem ownRelease_kept (tag : Byte) (args : List Byte) : Kept s (ownRelease tag args s) := by
  unfold ownRelease
  split
  · rename_i hs
    exact (releaseTest_kept (.inl hs)).reply _ _ _ _ _
  · rename_i hs
    exact (releaseTest_kept (.inr hs)).reply _ _ _ _ _
  · exact replied_kept (by rfl)

theorem ownAbort_kept (tag : Byte) (args : List Byte) : Kept s (ownAbort tag args s) := by
  unfold ownAbort
  split
  · exact (endTest_guarded s _ (.inr rfl)).kept.reply _ _ _ _ _
  · exact replied_kept (by rfl)

/-- A running test is held: between the change of state and the entry into HOLD only the crosshead's half
of the invariant fails. -/
theorem holdTest_kept (hstate : s.tsq.state = .running) : Kept s (holdTest s) := by
  unfold holdTest
  extract_lets t
  have gt : Guarded (changeStateArming .held .hold s) t := enterHold_guarded _
  have gm : Guarded t (handMilestone (phaseMilestone .hold t) t) := handMilestone_guarded t _
  refine Frozen.kept (((changeStateArming_frozen _ _ s).trans gt.frozen).trans gm.frozen) fun h => ?_
  have hrecord : (dials s).specimen.isSome = true := h.record.2 (by simp [hstate])
  have hentered : Sequenced (enterState .held s) :=
    h.sequenced.entered (enterState_dials .held s) (fun _ => h.latch (by simp [hstate]))
      (by simp [hrecord]) (.inr (by simp [inTest, hstate]))
  exact gm.keeps (.of_halves (gt.sequenced ((changeStateArming_entered _ _ s).sequenced hentered))
    (.of_hold (enterHold_mode _)))

theorem ownHold_kept (tag : Byte) (args : List Byte) : Kept s (ownHold tag args s) := by
  unfold ownHold
  split
  · exact (holdTest_kept ‹_›).reply _ _ _ _ _
  · exact replied_kept (by rfl)
  · exact replied_kept (by rfl)

theorem resumeTest_kept (hstate : s.tsq.state = .held) : Kept s (resumeTest s) := by
  unfold resumeTest
  extract_lets t
  have gm : Guarded t (handMilestone (phaseMilestone .resume t) t) := handMilestone_guarded t _
  have gr : Guarded (handMilestone (phaseMilestone .resume t) t)
      (requestPhaseMode (handMilestone (phaseMilestone .resume t) t)) := by
    refine requestPhaseMode_guarded _ ?_
    rw [latchEmpty_congr (t := handMilestone (phaseMilestone .resume t) t) (s := t) (by simp)]
    simpa using changeStateArming_requests .resume s
  have g : Guarded t _ := gm.trans gr
  refine Frozen.kept ((changeStateArming_frozen _ _ s).trans g.frozen) fun h => ?_
  have hrecord : (dials s).specimen.isSome = true := h.record.2 (by simp [hstate])
  have hin : inTest s = true := by simp [inTest, hstate]
  have hjog : jogActive s = false := by
    by_contra hj
    have := (h.jog (by simpa using hj)).1
    simp [hin] at this
  refine g.keeps ((changeStateArming_entered _ _ s).keeps (.of_halves ?_ ?_))
  · exact h.sequenced.entered (enterState_dials .running s) (fun _ => h.latch (by simp [hstate]))
      (by simp [hrecord]) (.inr hin)
  · exact h.moded.entered (enterState_dials .running s) (.inr rfl) (.inr hjog)

theorem ownResume_kept (tag : Byte) (args : List Byte) : Kept s (ownResume tag args s) := by
  unfold ownResume
  split
  · exact (resumeTest_kept ‹_›).reply _ _ _ _ _
  · exact replied_kept (by rfl)

/-! ## START -/

theorem exhStart_guarded (s : State) : Guarded s (exhStart s) := by
  unfold exhStart
  extract_lets t
  have ht : Guarded s t := .quiet rfl
  refine ht.trans ?_
  split
  · extract_lets u st
    have hu : Guarded t u := .quiet rfl
    refine (hu.trans (keepStrain_guarded u (reportedExtensometer_inRange u _))).trans
      (inOpenOrder_guarded _ _ fun act ha v => ?_)
    simp only [List.mem_cons, List.not_mem_nil, or_false] at ha
    obtain rfl | rfl := ha
    · exact evuStrainLimit_guarded v st
    · exact exhStrain_guarded v (fun st t => evuStrainLimit_guarded t st) _ _
  · exact (keepStrain_guarded t (crossheadStrain_inRange t)).trans (evuStrainLimit_guarded _ _)

/-- The first strain update of a test moves neither the sequencer nor the crosshead's mode. -/
theorem exhStart_console (s : State) : console (exhStart s) = console s := by
  have hkeep : ∀ st t, console (keepStrain st t) = console t := by
    intro st t
    simp [console]
  have hstrain : ∀ x v t, console (exhStrain evuStrainLimit x v t) = console t := by
    intro x v t
    have hslip : ∀ y : ExtSet, console (judgeSlip y v.value t) = console t := by
      intro y
      unfold judgeSlip
      (repeat' split) <;> simp [console, keepLastExt]
    unfold exhStrain
    split
    · rfl
    · split
      · rfl
      · unfold judgeRemoval
        (repeat' split)
        · exact hslip _
        · exact (removeArms_console _ evuStrainLimit_console _).trans (hslip _)
        · exact (removeArms_console _ evuStrainLimit_console _).trans (hslip _)
        · exact hslip _
  unfold exhStart
  extract_lets t
  have ht : console t = console s := rfl
  split
  · extract_lets u st
    have hu : console u = console t := rfl
    refine (inOpenOrder_eq console _ _ (fun _ _ => rfl) fun act ha v => ?_).trans
      ((hkeep st u).trans (hu.trans ht))
    simp only [List.mem_cons, List.not_mem_nil, or_false] at ha
    obtain rfl | rfl := ha
    · exact evuStrainLimit_console st v
    · exact hstrain _ st v
  · exact (evuStrainLimit_console _ _).trans ((hkeep _ t).trans ht)

theorem endJog_guarded (s : State) : Guarded s (endJog s) := by
  unfold endJog
  split
  · exact enterHold_guarded s
  · exact .refl s

/-- The crosshead is in HOLD once a jog, if it was that, has ended. -/
theorem endJog_mode (h : s.xhu.mode = .hold ∨ jogActive s = true) : (endJog s).xhu.mode = .hold := by
  unfold endJog
  split
  · exact enterHold_mode s
  · rename_i hj
    exact h.resolve_right hj

/-- The evaluations started afresh hold no strain and watch no proof. -/
theorem evuStart_sequenced {t : State} (r : Specimen)
    (hlatch : t.tsq.state = .armed ∨ t.tsq.state = .running ∨ t.tsq.state = .held →
      latchEmpty t = true)
    (hrecord : t.tsq.specimen.isSome = true ↔
      t.tsq.state = .armed ∨ t.tsq.state = .running ∨ t.tsq.state = .held ∨ t.tsq.state = .tripped) :
    Sequenced (evuStart r t) :=
  ⟨hlatch, hrecord, fun _ x hx => by simp [evuStart] at hx, fun hp => by simp [evuStart] at hp⟩

theorem startTest_kept (r : Specimen) (hstate : s.tsq.state = .armed) : Kept s (startTest r s) := by
  have hstarted := changeStateArming_running .start (startTimes s)
  have hrequests := changeStateArming_requests .start (startTimes s)
  have hfrozen : Frozen s (changeStateArming .running .start (startTimes s)) :=
    (changeStateArming_frozen .running .start (startTimes s)).framed rfl rfl rfl rfl
  unfold startTest
  generalize changeStateArming .running .start (startTimes s) = t at hstarted hrequests hfrozen ⊢
  have hu : Frozen s (evuStart r t) := hfrozen.trans (.of_eq rfl rfl rfl rfl)
  have hconsole := exhStart_console (evuStart r t)
  have hexh := exhStart_guarded (evuStart r t)
  generalize exhStart (evuStart r t) = v at hconsole hexh ⊢
  simp only [console, Prod.mk.injEq, Xhu.mk.injEq] at hconsole
  obtain ⟨htsq, hpru, -, -, -, -, -, -, hmode, -⟩ := hconsole
  have hjog := endJog_guarded v
  have hbegin : Guarded (endJog v) (beginPhase 0 (endJog v)) := by
    refine beginPhase_guarded _ 0 ?_
    have hj : (endJog v).tsq = v.tsq ∧ (endJog v).pru.latch = v.pru.latch := by
      unfold endJog
      split <;> simp
    rw [latchEmpty_congr (hj.2.trans (congrArg Pru.latch hpru)), hj.1, htsq]
    exact hrequests
  refine Frozen.kept (((hu.trans hexh.frozen).trans hjog.frozen).trans hbegin.frozen) fun h => ?_
  have hsome : s.tsq.specimen.isSome = true := h.record.2 (by simp [hstate])
  have hidle : s.xhu.mode = .hold ∨ jogActive s = true := by
    by_contra hm
    simp only [not_or] at hm
    exact (h.mode hm.1).elim (fun hr => by simp [hstate] at hr) hm.2
  have hempty : latchEmpty s = true := h.latch (by simp [hstate])
  refine hbegin.keeps (.of_halves (hjog.sequenced (hexh.sequenced ?_)) (.of_hold (endJog_mode ?_)))
  · obtain ⟨-, e⟩ | ⟨c, e⟩ := hstarted
    · simp only [dials, Dials.mk.injEq] at e
      obtain ⟨hst, hsp, hla, -⟩ := e
      refine evuStart_sequenced r (fun _ => (latchEmpty_congr hla).trans hempty) ?_
      rw [hst, hsp]
      simpa [startTimes] using hsome
    · simp only [dials, Dials.mk.injEq] at e
      obtain ⟨hst, hsp, hla, -⟩ := e
      refine evuStart_sequenced r (by simp [hst]) ?_
      rw [hst, hsp]
      simpa [startTimes] using hsome
  · rw [hmode, jogActive_congr (s := t) (by exact hmode)]
    obtain ⟨-, e⟩ | ⟨c, e⟩ := hstarted
    · have hm : t.xhu.mode = s.xhu.mode := congrArg Dials.mode e
      rw [jogActive_congr (s := s) hm]
      exact hidle.imp hm.trans id
    · exact .inl (congrArg Dials.mode e)

theorem ownStart_kept (tag : Byte) (args : List Byte) : Kept s (ownStart tag args s) := by
  unfold ownStart
  split
  · exact replied_kept (by rfl)
  · rename_i hnone _
    refine (startTest_kept _ ?_).reply _ _ _ _ _
    by_contra hs
    simp [startRefusal, hs] at hnone
  · exact replied_kept (by rfl)

/-! ## The other orders -/

theorem ownExtAttach_kept (tag : Byte) (args : List Byte) : Kept s (ownExtAttach tag args s) := by
  unfold ownExtAttach
  split
  · exact replied_kept (by rfl)
  · split
    · exact replied_kept (by rfl)
    · extract_lets t
      have ht : Guarded s t := .quiet rfl
      split
      · exact ht.kept.reply _ _ _ _ _
      · exact (ht.trans (failAttach_guarded t _ _)).kept.reply _ _ _ _ _

theorem ownExtRemove_kept (tag : Byte) (args : List Byte) : Kept s (ownExtRemove tag args s) :=
  (requestRemoval_guarded s (fun st t => offerStrain_guarded t st) .order).kept.reply _ _ _ _ _

/-- A jog starts with an empty latch outside a test (R58). -/
theorem jogCrosshead_guarded (v : Int) (hlatch : latchEmpty s = true) (hin : inTest s = false) :
    Guarded s (jogCrosshead v s) := by
  unfold jogCrosshead
  extract_lets _ t
  have ht : Guarded s t :=
    ⟨fun h => ⟨h.latch, h.record, h.strain, h.proof⟩,
      fun _ => ⟨fun _ => .inr rfl, fun _ => ⟨hin, hlatch⟩⟩,
      id, by simp [hlatch], rfl⟩
  split
  · exact ht
  · exact ht.trans (judgeLoadLost_guarded t _)

theorem ownJog_kept (tag : Byte) (args : List Byte) : Kept s (ownJog tag args s) := by
  unfold ownJog
  split
  · exact replied_kept (by rfl)
  · rename_i hlatch
    split
    · exact replied_kept (by rfl)
    · rename_i hallowed
      split
      · exact replied_kept (by rfl)
      · split
        · exact replied_kept (by rfl)
        · refine (jogCrosshead_guarded _ ?_ ?_).kept.reply _ _ _ _ _
          · simpa using hlatch
          · simpa [jogAllowed] using hallowed

theorem ownJogStop_kept (tag : Byte) (args : List Byte) : Kept s (ownJogStop tag args s) :=
  (endJog_guarded s).kept.reply _ _ _ _ _

/-! ## CLEAR-TRIP -/

theorem emptyLatch_empty (s : State) : latchEmpty (emptyLatch s) = true := by
  simp only [latchEmpty, List.all_eq_true, Bool.not_eq_true']
  intro c _
  simp [latched, emptyLatch]

/-- An emptied latch breaks no part of the invariant. -/
theorem emptyLatch_test (h : TestInvariant s) : TestInvariant (emptyLatch s) :=
  { latch := fun _ => emptyLatch_empty s, record := h.record, mode := h.mode
    jog := fun hj => ⟨(h.jog hj).1, emptyLatch_empty s⟩, strain := h.strain, proof := h.proof }

theorem sequencerClear_test (dump : Bool) (h : TestInvariant s) (hlatch : latchEmpty s = true) :
    TestInvariant (sequencerClear dump s) := by
  unfold sequencerClear
  split
  · rename_i hstate
    split
    · exact (endTest_guarded s _ (.inr rfl)).keeps h
    · have hin : inTest s = true := by simp [inTest, hstate]
      have hrecord : (dials s).specimen.isSome = true := h.record.2 (by simp [hstate])
      have hjog : jogActive s = false := by
        by_contra hj
        have := (h.jog (by simpa using hj)).1
        simp [hin] at this
      refine (changeStateArming_entered _ _ s).keeps (.of_halves ?_ ?_)
      · exact h.sequenced.entered (enterState_dials .held s) (fun _ => hlatch) (by simp [hrecord])
          (.inr hin)
      · exact h.moded.entered (enterState_dials .held s) (.inl (by simp [hstate])) (.inr hjog)
  · exact h

/-- A clear that ends a test by a DUMP-class class, or changes no state, latches nothing (R104). -/
theorem sequencerClear_dump (s : State) :
    (sequencerClear true s).pru.latch = s.pru.latch ∧
      (dials (sequencerClear true s)).frames = (dials s).frames := by
  unfold sequencerClear
  split
  · simp only [if_true]
    exact ⟨by simp, by simp [dials]⟩
  · exact ⟨rfl, rfl⟩

/-- An accepted CLEAR-TRIP initialises D only where it clears a DUMP-class class; then the latch stays
empty (R104, R147). -/
theorem clearTrips_kept : Kept s (clearTrips s) := by
  unfold clearTrips
  extract_lets dump t
  have ht : latchEmpty t = true := emptyLatch_empty s
  have hraise : ∀ u, Guarded u (raise .trip .cleared u) := fun u => .quiet (by simp [dials])
  cases dump with
  | true =>
    simp only [if_true]
    have gi : Guarded t (initialiseDemand t) := initialiseDemand_guarded t (.inr ht)
    have hi : latchEmpty (initialiseDemand t) = true := (latchEmpty_congr (by simp)).trans ht
    obtain ⟨hlatch, hframes⟩ := sequencerClear_dump (initialiseDemand t)
    refine ⟨fun h => ?_, fun p _ hl => ?_, ?_⟩
    · exact (hraise _).keeps (sequencerClear_test true (gi.keeps (emptyLatch_test h)) hi)
    · have hlast : latchEmpty (raise .trip .cleared (sequencerClear true (initialiseDemand t))) = true :=
        (latchEmpty_congr (by simpa using hlatch)).trans hi
      simp [hlast] at hl
    · exact (hraise _).frozen.frames.trans (hframes.trans gi.frozen.frames)
  | false =>
    simp only [Bool.false_eq_true, if_false]
    refine ⟨fun h => ?_, fun p _ _ _ hd => ?_, ?_⟩
    · exact (hraise _).keeps (sequencerClear_test false (emptyLatch_test h) ht)
    · unfold sequencerClear
      split <;> simpa [t, emptyLatch] using hd
    · refine (hraise _).frozen.frames.trans ?_
      unfold sequencerClear
      split
      · exact (changeStateArming_frozen _ _ t).frames
      · rfl

theorem ownClearTrip_kept (tag : Byte) (args : List Byte) : Kept s (ownClearTrip tag args s) := by
  unfold ownClearTrip
  split
  · exact replied_kept (by rfl)
  · split
    · exact replied_kept (by rfl)
    · exact clearTrips_kept.reply _ _ _ _ _

/-! ## RESTART -/

theorem restartSequencer_keeps :
    Frozen s (restartSequencer s) ∧ (TestInvariant s → TestInvariant (restartSequencer s)) := by
  have both : ∀ {t}, Guarded s t → Frozen s t ∧ (TestInvariant s → TestInvariant t) :=
    fun g => ⟨g.frozen, g.keeps⟩
  unfold restartSequencer
  split
  · exact both (endTest_guarded s _ (.inr rfl))
  · exact both (endTest_guarded s _ (.inr rfl))
  · exact both (endTest_guarded s _ (.inr rfl))
  · rename_i hstate
    exact toIdle (t := releaseSpecimen (s.setTsq { s.tsq with slot := none })) (by simp [hstate]) rfl
      (.quiet (by simp [dials]))
  all_goals exact both (.refl s)

theorem restartBlocks_kept : Kept s (restartBlocks s) := by
  have hhandler : ∀ t, dials (restartHandler t) = dials t := by
    intro t
    unfold restartHandler
    split <;> rfl
  have hnotices : ∀ t, dials (restartNotices t) = dials t := by
    intro t
    unfold restartNotices
    extract_lets _ u
    have hu : dials u = dials t := rfl
    split
    · exact hu
    · exact Eq.trans (by simp [dials]) hu
  obtain ⟨hfrozen, htest⟩ := restartSequencer_keeps (s := s)
  have g : Guarded (restartSequencer s) (restartBlocks s) := by
    refine (enterHold_guarded _).trans (.quiet ?_)
    calc dials (restartBlocks s)
      _ = dials (restartHandler (restartLoad (enterHold (restartSequencer s)))) := hnotices _
      _ = dials (restartLoad (enterHold (restartSequencer s))) := hhandler _
      _ = dials (enterHold (restartSequencer s)) := rfl
  exact (hfrozen.trans g.frozen).kept (g.keeps ∘ htest)

end Sys2Proof.Machine
end

section
/-!
SUPPORT. The commands keep the test's invariant and the frozen demand (O57, O60).
-/

namespace Sys2Proof.Machine

variable {s : State}

/-! ## An order at the port -/

/-- Every order, at its owner. -/
theorem owner_kept (o : OrderName) (tag : Byte) (args : List Byte) : Kept s (owner o tag args s) := by
  cases o with
  | tableOpen => exact ownTableOpen_kept tag args
  | tableData => exact ownTableData_kept tag args
  | tableCommit => exact ownTableCommit_kept tag args
  | tableDiscard => exact ownTableDiscard_kept tag args
  | tableRead => exact ownTableRead_kept tag args
  | storeSave => exact ownStoreSave_kept tag args
  | storeRecall => exact ownStoreRecall_kept tag args
  | arm => exact ownArm_kept tag args
  | disarm => exact ownDisarm_kept tag args
  | start => exact ownStart_kept tag args
  | hold => exact ownHold_kept tag args
  | resume => exact ownResume_kept tag args
  | abort => exact ownAbort_kept tag args
  | release => exact ownRelease_kept tag args
  | resultRead => exact replied_kept rfl
  | milestoneRead => exact ownMilestoneRead_kept tag args
  | tare => exact ownTare_kept tag args
  | extAttach => exact ownExtAttach_kept tag args
  | extRemove => exact ownExtRemove_kept tag args
  | jog => exact ownJog_kept tag args
  | jogStop => exact ownJogStop_kept tag args
  | clearTrip => exact ownClearTrip_kept tag args
  | tripHistoryRead => exact replied_kept rfl
  | tripHistoryReset => exact ownTripHistoryReset_kept tag args
  | lineSet => exact ownLineSet_kept tag args
  | streamSet => exact ownStreamSet_kept tag args
  | statusRead => exact ownStatusRead_kept tag args
  | restart => exact restartBlocks_kept.reply _ _ _ _ _

theorem overrun_kept (kind tag : Byte) : Kept s (overrun kind tag s) :=
  Guarded.kept (.quiet (by simp [dials, overrun]))

theorem takeOrder_kept (o : OrderName) (tag : Byte) (args : List Byte) :
    Kept s (takeOrder o (owner o) tag args s) := by
  unfold takeOrder
  split
  · exact overrun_kept _ tag
  · unfold dispatch
    split
    · exact replied_kept (by rfl)
    · split
      · exact replied_kept (by rfl)
      · exact Kept.framed (s' := joinOutstanding (orderCode o) tag s) (owner_kept o tag args) rfl rfl

theorem takeFrame_kept (kind tag : Byte) (args : List Byte) : Kept s (takeFrame kind tag args s) := by
  unfold takeFrame
  split
  · exact takeOrder_kept _ tag args
  · unfold takeUnknown
    split
    · exact overrun_kept kind tag
    · exact Guarded.kept (.quiet (by simp [dials, joinOutstanding]))

/-! ## A command -/

/-- What a command does that sends no DEMAND frame. -/
structure Taken (s t : State) : Prop where
  test : TestInvariant s → TestInvariant t
  demand : ∀ p : Int, latchEmpty s = false → latchEmpty t = false → s.xhu.mode = .hold →
    s.xhu.demand = some p → t.xhu.demand = some p
  silent : (dials t).frames = []

/-- Any next state an outcome answers is one a command without a DEMAND frame leaves. -/
def TakenTo (s : State) (o : Host.Outcome State Fault Refusal) : Prop :=
  ∀ t, o = .next t → Taken s t

/-- A command starts with the frames of the one before it gone, and goes on by what it keeps. -/
theorem TakenTo.next {u t : State} (k : Kept u t) (e : dials u = { dials s with frames := [] }) :
    TakenTo s (.next t) := by
  rintro _ ⟨⟩
  have hfr : (dials u).frames = [] := congrArg Dials.frames e
  simp only [dials, Dials.mk.injEq] at e
  obtain ⟨hst, hsp, hla, hmo, hde, hxs, hes, hch, hpr, -⟩ := e
  have hl := latchEmpty_congr hla
  have hi := inTest_congr hst
  have hj := jogActive_congr hmo
  refine ⟨fun h => k.test ?_, fun p h1 h2 h3 h4 => ?_, k.frames.trans hfr⟩
  · constructor
    · rw [hst, hl]
      exact h.latch
    · rw [hsp, hst]
      exact h.record
    · rw [hmo, hst, hj]
      exact h.mode
    · rw [hj, hi, hl]
      exact h.jog
    · rw [hi, hes, hxs]
      exact h.strain
    · rw [hpr, hch]
      exact h.proof
  · exact k.demand p (hl.trans h1) h2 (hmo.trans h3) (hde.trans h4)

/-- A command that finds nothing to do at its time. -/
theorem begin0_taken : TakenTo s (.next (begin0 s)) := .next (Guarded.refl (begin0 s)).kept rfl

/-- A command that only takes its time. -/
theorem elapse_taken (dt : Nat) : TakenTo s (.next (elapse dt s)) :=
  .next (Guarded.refl (elapse dt s)).kept rfl

/-- A timer's expiry with guarded consequences. -/
theorem reach_taken {d : Nat} {t : State} (g : Guarded (reach d s) t) : TakenTo s (.next t) :=
  .next g.kept rfl

theorem execSilenceTimerExpiry_taken (lane : Lane) : TakenTo s (execSilenceTimerExpiry lane s) := by
  unfold execSilenceTimerExpiry
  split
  · exact begin0_taken
  · exact reach_taken (goStale_guarded _ lane)

theorem execRepeatTimerExpiry_taken : TakenTo s (execRepeatTimerExpiry s) := by
  unfold execRepeatTimerExpiry
  split
  · exact begin0_taken
  · exact reach_taken (.quiet (repeatRequest_dials _))

theorem execDwellTimerExpiry_taken : TakenTo s (execDwellTimerExpiry s) := by
  unfold execDwellTimerExpiry
  split
  · exact begin0_taken
  · rename_i d _
    extract_lets t _ u
    have hu : Guarded t u := .quiet rfl
    split
    · refine reach_taken (d := d.deadline) (hu.trans ?_)
      split
      · exact .quiet (makeRequest_dials u _)
      · exact .refl u
    · exact reach_taken hu

theorem execTareSampleTimerExpiry_taken : TakenTo s (execTareSampleTimerExpiry s) := by
  unfold execTareSampleTimerExpiry
  split
  · exact begin0_taken
  · exact reach_taken (.quiet (failTare_dials _ _))

theorem execSettleTimerExpiry_taken : TakenTo s (execSettleTimerExpiry s) := by
  unfold execSettleTimerExpiry
  split
  · exact begin0_taken
  · exact reach_taken (d := ‹Nat›) (.quiet rfl)

theorem execZeroAveragingTimeout_taken : TakenTo s (execZeroAveragingTimeout s) := by
  unfold execZeroAveragingTimeout
  split
  · exact begin0_taken
  · exact reach_taken (failAttach_guarded _ _ _)

theorem execJogDeadlineExpiry_taken : TakenTo s (execJogDeadlineExpiry s) := by
  unfold execJogDeadlineExpiry
  split
  · exact reach_taken (enterHold_guarded _)
  · exact begin0_taken

theorem execPhaseTimerExpiry_taken : TakenTo s (execPhaseTimerExpiry s) := by
  unfold execPhaseTimerExpiry
  split
  · exact reach_taken (judgeEnd_guarded _ _)
  · exact begin0_taken

theorem execTimeLimitExpiry_taken : TakenTo s (execTimeLimitExpiry s) := by
  unfold execTimeLimitExpiry
  split
  · exact begin0_taken
  · split
    · exact reach_taken (endTest_guarded _ _ (.inl rfl))
    · exact begin0_taken

theorem execLoadLossTimerExpiry_taken : TakenTo s (execLoadLossTimerExpiry s) := by
  unfold execLoadLossTimerExpiry
  split
  · exact begin0_taken
  · rename_i d _
    exact reach_taken (d := d) (Guarded.after (spend_guarded _ _) (.quiet rfl))

theorem execStreamFallbackExpiry_taken : TakenTo s (execStreamFallbackExpiry s) := by
  unfold execStreamFallbackExpiry
  split
  · exact begin0_taken
  · exact reach_taken (.quiet ((makeDue_dials _).trans (startFallback_dials _)))

theorem execSessionTimerExpiry_taken : TakenTo s (execSessionTimerExpiry s) := by
  unfold execSessionTimerExpiry
  split
  · exact begin0_taken
  · rename_i x _
    exact reach_taken (d := x.deadline) (.quiet (by simp [dials, closeSession]))

theorem execStoreSaveWriteComplete_taken (dt : Nat) (good : Bool) :
    TakenTo s (execStoreSaveWriteComplete dt good s) := by
  have hwrite : ∀ target snapshot t todo failed,
      dials (completeWrite good target snapshot t todo failed (elapse dt s)) =
        dials (elapse dt s) := by
    intro target snapshot t todo failed
    unfold completeWrite
    extract_lets _ u failed'
    have hu : dials u = dials (elapse dt s) := by
      unfold u
      split <;> rfl
    split
    · exact Eq.trans (by simp [dials, raiseStore, setStoreOp]) hu
    · exact hu
  unfold execStoreSaveWriteComplete
  split
  · exact .next (Guarded.kept (.quiet (hwrite _ _ _ _ _))) rfl
  · exact elapse_taken dt

theorem execStoreRecallReadComplete_taken (dt : Nat) (intact : Bool) :
    TakenTo s (execStoreRecallReadComplete dt intact s) := by
  have hread : ∀ target t todo blank kept, Guarded (elapse dt s)
      (completeRead intact target t todo blank kept (elapse dt s)) := by
    intro target t todo blank kept
    unfold completeRead
    extract_lets inUse copy kept' blank' u
    have hu : Guarded (elapse dt s) u := by
      unfold u
      split
      · exact .refl _
      · exact install_guarded _ _ _ _
    split
    · exact hu.trans (.quiet (by simp [dials, raiseStore, setStoreOp]))
    · exact hu.trans (.quiet rfl)
  unfold execStoreRecallReadComplete
  split
  · exact .next (hread _ _ _ _ _).kept rfl
  · exact elapse_taken dt

theorem execStartUpTableRead_taken (dt : Nat) (intact : Bool) :
    TakenTo s (execStartUpTableRead dt intact s) := by
  have hstart : ∀ t todo blank, Guarded (elapse dt s)
      (completeStartUp intact t todo blank (elapse dt s)) := by
    intro t todo blank
    unfold completeStartUp
    extract_lets copy blank' u
    have hu : Guarded (elapse dt s) u := install_guarded _ _ _ _
    split
    · refine hu.trans (.quiet ((initialRequest_dials _).trans ?_))
      simp [dials, raiseStore, setStoreOp]
    · exact hu.trans (.quiet rfl)
  unfold execStartUpTableRead
  split
  · exact .next (hstart _ _ _).kept rfl
  · exact elapse_taken dt

theorem execTransmissionComplete_taken (dt : Nat) : TakenTo s (execTransmissionComplete dt s) := by
  have hsent : ∀ f, dials (arbitrate (completeTransmission f (elapse dt s))) =
      dials (elapse dt s) := by
    intro f
    cases f <;> simp [dials, completeTransmission]
  unfold execTransmissionComplete
  split
  · exact elapse_taken dt
  · exact .next (Guarded.kept (.quiet (hsent _))) rfl

theorem execCportBadFrame_taken (dt : Nat) (rx : Reception) :
    TakenTo s (execCportBadFrame dt rx s) := by
  unfold execCportBadFrame
  extract_lets t
  split
  · exact .next (u := t) (Guarded.kept (.quiet rfl)) rfl
  · exact .next (takeFrame_kept _ _ _) rfl

/-- An order command of the catalogue. -/
theorem execOrder_taken (o : OrderName) (dt : Nat) (tag : Byte) (args : List Byte) :
    TakenTo s (.next (takeOrder o (owner o) tag args (elapse dt s))) :=
  .next (takeOrder_kept o tag args) rfl

/-- Every command but POWER_ON and the demand expiry. -/
theorem exec_taken (i : Instr) (hpower : i ≠ .powerOn) (hdemand : i ≠ .demandTimerExpiry) :
    TakenTo s (exec i s) := by
  cases i with
  | powerOn => exact absurd rfl hpower
  | demandTimerExpiry => exact absurd rfl hdemand
  | sample dt lane rx => exact .next (receive_guarded (elapse dt s) lane _).kept rfl
  | driveStatus dt lane rx => exact .next (receive_guarded (elapse dt s) lane _).kept rfl
  | silenceTimerExpiry lane => exact execSilenceTimerExpiry_taken lane
  | repeatTimerExpiry => exact execRepeatTimerExpiry_taken
  | dwellTimerExpiry => exact execDwellTimerExpiry_taken
  | tareSampleTimerExpiry => exact execTareSampleTimerExpiry_taken
  | settleTimerExpiry => exact execSettleTimerExpiry_taken
  | zeroAveragingTimeout => exact execZeroAveragingTimeout_taken
  | jogDeadlineExpiry => exact execJogDeadlineExpiry_taken
  | phaseTimerExpiry => exact execPhaseTimerExpiry_taken
  | timeLimitExpiry => exact execTimeLimitExpiry_taken
  | loadLossTimerExpiry => exact execLoadLossTimerExpiry_taken
  | streamFallbackExpiry => exact execStreamFallbackExpiry_taken
  | sessionTimerExpiry => exact execSessionTimerExpiry_taken
  | storeSaveWriteComplete dt good => exact execStoreSaveWriteComplete_taken dt good
  | storeRecallReadComplete dt intact => exact execStoreRecallReadComplete_taken dt intact
  | startUpTableRead dt intact => exact execStartUpTableRead_taken dt intact
  | transmissionComplete dt => exact execTransmissionComplete_taken dt
  | cportBadFrame dt rx => exact execCportBadFrame_taken dt rx
  | unknownOrder dt kind tag args => exact .next (takeFrame_kept kind tag args) rfl
  | tableOpen dt tag args => exact execOrder_taken .tableOpen dt tag args
  | tableData dt tag args => exact execOrder_taken .tableData dt tag args
  | tableCommit dt tag args => exact execOrder_taken .tableCommit dt tag args
  | tableDiscard dt tag args => exact execOrder_taken .tableDiscard dt tag args
  | tableRead dt tag args => exact execOrder_taken .tableRead dt tag args
  | storeSave dt tag args => exact execOrder_taken .storeSave dt tag args
  | storeRecall dt tag args => exact execOrder_taken .storeRecall dt tag args
  | arm dt tag args => exact execOrder_taken .arm dt tag args
  | disarm dt tag args => exact execOrder_taken .disarm dt tag args
  | start dt tag args => exact execOrder_taken .start dt tag args
  | hold dt tag args => exact execOrder_taken .hold dt tag args
  | resume dt tag args => exact execOrder_taken .resume dt tag args
  | abort dt tag args => exact execOrder_taken .abort dt tag args
  | release dt tag args => exact execOrder_taken .release dt tag args
  | resultRead dt tag args => exact execOrder_taken .resultRead dt tag args
  | milestoneRead dt tag args => exact execOrder_taken .milestoneRead dt tag args
  | tare dt tag args => exact execOrder_taken .tare dt tag args
  | extAttach dt tag args => exact execOrder_taken .extAttach dt tag args
  | extRemove dt tag args => exact execOrder_taken .extRemove dt tag args
  | jog dt tag args => exact execOrder_taken .jog dt tag args
  | jogStop dt tag args => exact execOrder_taken .jogStop dt tag args
  | clearTrip dt tag args => exact execOrder_taken .clearTrip dt tag args
  | tripHistoryRead dt tag args => exact execOrder_taken .tripHistoryRead dt tag args
  | tripHistoryReset dt tag args => exact execOrder_taken .tripHistoryReset dt tag args
  | lineSet dt tag args => exact execOrder_taken .lineSet dt tag args
  | streamSet dt tag args => exact execOrder_taken .streamSet dt tag args
  | statusRead dt tag args => exact execOrder_taken .statusRead dt tag args
  | restart dt tag args => exact execOrder_taken .restart dt tag args

end Sys2Proof.Machine
end

section
/-!
SUPPORT. The demand expiry, stage by stage (R45 to R49), and the two invariants of the crosshead (O57, O60).
-/

namespace Sys2Proof.Machine

/-! ## The stages of a demand expiry -/

/-- Stage 1 moves the demand, the accumulators and the target only, and sets no demand that was unset. -/
theorem stepMode_eq (s : State) : ∃ (demand target : Option Int) (a b : Int),
    demand.isSome = s.xhu.demand.isSome ∧
      stepMode s = s.setXhu { s.xhu with demand := demand, a := a, b := b, target := target } := by
  have hloop : ∀ rate gain vmax feedforward measured, ∃ (demand target : Option Int) (a b : Int),
      demand.isSome = s.xhu.demand.isSome ∧
        s.setXhu (closedLoop rate gain vmax feedforward measured s.xhu) =
          s.setXhu { s.xhu with demand := demand, a := a, b := b, target := target } := by
    intro rate gain vmax feedforward measured
    unfold closedLoop
    dsimp only
    (repeat' split) <;> exact ⟨_, _, _, _, Option.isSome_map, rfl⟩
  unfold stepMode
  split
  · exact ⟨s.xhu.demand, s.xhu.target, s.xhu.a, s.xhu.b, rfl, rfl⟩
  · split
    · exact ⟨s.xhu.demand, s.xhu.target, s.xhu.a, s.xhu.b, rfl, rfl⟩
    · exact ⟨_, _, _, _, Option.isSome_map, rfl⟩
    · exact hloop _ _ _ _ _
    · exact hloop _ _ _ _ _
    · exact ⟨_, _, _, _, Option.isSome_map, rfl⟩

/-- The demand clamped into the soft limits, where XSET is VALID (R49). -/
def limited (xset : Option XSet) (d : Int) : Int :=
  match xset with
  | some x => clamp x.softLower x.softUpper d
  | none => d

theorem clampDemand_demand (s : State) :
    (clampDemand s).xhu.demand = s.xhu.demand.map (limited s.xhu.xset) := by
  unfold clampDemand limited
  cases hd : s.xhu.demand with
  | none => simp [hd]
  | some d =>
    cases s.xhu.xset with
    | none => simp [hd]
    | some x =>
      dsimp only
      split
      · simp [*]
      · simp

theorem demandSent_some {s : State} {p : Int} (h : s.xhu.demand = some p) : demandSent s = p := by
  simp only [demandSent, h]

theorem clamp_of_within {lo hi v : Int} (hlo : lo ≤ v) (hhi : v ≤ hi) : clamp lo hi v = v := by
  unfold clamp
  split
  · omega
  · split <;> omega

/-- The state a demand expiry's stages start from. -/
def expiring (deadline : Nat) (s : State) : State :=
  (reach deadline s).setXhu { s.xhu with demandAt := some (deadline + 250) }

@[simp] theorem expiring_keeps (deadline : Nat) (s : State) : (expiring deadline s).sent = [] ∧
    (expiring deadline s).xhu = { s.xhu with demandAt := some (deadline + 250) } ∧
    (expiring deadline s).lif = s.lif ∧ (expiring deadline s).rtb = s.rtb ∧
    (expiring deadline s).lch = s.lch ∧ (expiring deadline s).exh = s.exh ∧
    (expiring deadline s).tsq = s.tsq ∧ (expiring deadline s).evu = s.evu ∧
    (expiring deadline s).pru = s.pru ∧ (expiring deadline s).oln = s.oln ∧
    (expiring deadline s).ntu = s.ntu ∧ (expiring deadline s).tst = s.tst :=
  ⟨rfl, rfl, rfl, rfl, rfl, rfl, rfl, rfl, rfl, rfl, rfl, rfl⟩

theorem demandExpiry_eq (deadline : Nat) (s : State) :
    demandExpiry deadline s = sendDemand (clampDemand (stepMode (expiring deadline s))) := rfl

/-- A demand expiry turns no dial but the demand and the frame sent. -/
theorem demandExpiry_dials (deadline : Nat) (s : State) : dials (demandExpiry deadline s) =
    { dials s with
      demand := (demandExpiry deadline s).xhu.demand
      frames := (dials (demandExpiry deadline s)).frames } := by
  obtain ⟨demand, target, a, b, -, h⟩ := stepMode_eq (expiring deadline s)
  simp only [demandExpiry_eq, h]
  simp [dials, sendDemand]

theorem endDisabledJog_guarded (s : State) : Guarded s (endDisabledJog s) := by
  unfold endDisabledJog
  split
  · exact .refl s
  · exact endJog_guarded s

/-- What a demand expiry does beside its own stages: FOLLOWING is judged, a disabled jog ends. -/
theorem execDemandTimerExpiry_eq {deadline : Nat} {s : State} (h : s.xhu.demandAt = some deadline) :
    ∃ t, exec .demandTimerExpiry s = .next t ∧ Guarded (demandExpiry deadline s) t := by
  refine ⟨_, ?_, (protectDemand_guarded (demandExpiry deadline s)
    (demandSent (demandExpiry deadline s)) (demandExpiry deadline s).xhu.lastEnable).trans
      (endDisabledJog_guarded _)⟩
  simp only [exec, execDemandTimerExpiry, h]

theorem demandExpiry_test {deadline : Nat} {s : State} (h : TestInvariant s) :
    TestInvariant (demandExpiry deadline s) := by
  have e := demandExpiry_dials deadline s
  have hframed : dials (demandExpiry deadline s) = dials
      { s with
        sent := (demandExpiry deadline s).sent
        xhu := { s.xhu with demand := (demandExpiry deadline s).xhu.demand } } := e
  refine (Guarded.quiet hframed).keeps ?_
  exact ⟨h.latch, h.record, h.mode, h.jog, h.strain, h.proof⟩

/-! ## The invariant of the test -/

theorem powerOn_test (pending : List Instr) (choices : Nat) (stored : Tables) :
    TestInvariant (State.powerOn pending choices stored) where
  latch := by simp [State.powerOn]
  record := by simp [State.powerOn]
  mode := by simp [State.powerOn]
  jog := by simp [State.powerOn, jogActive, jogVelocity]
  strain := by simp [State.powerOn]
  proof := by simp [State.powerOn]

theorem exec_test {i : Instr} {s t : State} (h : TestInvariant s) (e : exec i s = .next t) :
    TestInvariant t := by
  by_cases hpower : i = .powerOn
  · subst hpower
    cases e
    exact powerOn_test _ _ _
  · by_cases hdemand : i = .demandTimerExpiry
    · subst hdemand
      cases hat : s.xhu.demandAt with
      | none =>
        simp only [exec, execDemandTimerExpiry, hat] at e
        exact (begin0_taken t e).test h
      | some deadline =>
        obtain ⟨u, hu, g⟩ := execDemandTimerExpiry_eq hat
        cases hu.symm.trans e
        exact g.keeps (demandExpiry_test h)
    · exact (exec_taken i hpower hdemand t e).test h

/-- Settles O57: every operation but the few that change the sequencer's state by an order is `Guarded`, and
those keep the invariant as a whole. -/
theorem stepKeepsTestInvariant : Obligations.StepKeepsTestInvariant := by
  intro s t h e
  unfold step at e
  split at e
  · cases e
    exact h
  · rename_i c rest _
    exact exec_test (s := s.withPending rest)
      ⟨h.latch, h.record, h.mode, h.jog, h.strain, h.proof⟩ e

/-! ## The frozen demand -/

/-- A demand within the soft limits is not moved in HOLD: the frame carries it, enabled only while no
DUMP-class class is latched. -/
theorem demandExpiry_frozen {deadline : Nat} {p : Int} {s : State} (hmode : s.xhu.mode = .hold)
    (hdemand : s.xhu.demand = some p)
    (hlimits : ∀ x : XSet, s.xhu.xset = some x → x.softLower ≤ p ∧ p ≤ x.softUpper) :
    (demandExpiry deadline s).xhu.demand = some p ∧ ∃ enable,
      (demandExpiry deadline s).sent = [(4, .demand enable false p)] ∧
        (dumpFunction s = true → enable = false) := by
  have hstep : stepMode (expiring deadline s) = expiring deadline s := by
    simp [stepMode, hdemand, hmode]
  have hlimited : limited s.xhu.xset p = p := by
    unfold limited
    split
    · rename_i x hx
      obtain ⟨hlo, hhi⟩ := hlimits x hx
      exact clamp_of_within hlo hhi
    · rfl
  have hclamped : (clampDemand (expiring deadline s)).xhu.demand = some p := by
    rw [clampDemand_demand]
    simp [hdemand, hlimited]
  rw [demandExpiry_eq, hstep]
  refine ⟨by simpa [sendDemand] using hclamped, driveEnable (clampDemand (expiring deadline s)), ?_, ?_⟩
  · simp [sendDemand, demandSent_some hclamped, hmode]
  · intro hdump
    have : dumpFunction (clampDemand (expiring deadline s)) = true := by
      simpa [dumpFunction, latched] using hdump
    simp [driveEnable, this]

/-- Settles O60: a command that sends no DEMAND frame is `Taken`; the demand expiry in HOLD sends the demand
as it is. -/
theorem latchFreezesDemand : Obligations.LatchFreezesDemand := by
  intro i s t p e hpower hs ht hmode hp hlimits
  have silent : Taken s t → t.xhu.demand = some p ∧
      ∀ enable moving d, (4, LaneOut.demand enable moving d) ∈ t.sent →
        d = p ∧ (dumpFunction s = true → enable = false) := by
    intro k
    refine ⟨k.demand p hs ht hmode hp, fun enable moving d hd => ?_⟩
    have hnone : (4, LaneOut.demand enable moving d) ∈ (dials t).frames :=
      List.mem_filter.2 ⟨hd, rfl⟩
    simp [k.silent] at hnone
  by_cases hdemand : i = .demandTimerExpiry
  · subst hdemand
    cases hat : s.xhu.demandAt with
    | none =>
      simp only [exec, execDemandTimerExpiry, hat] at e
      exact silent (begin0_taken t e)
    | some deadline =>
      obtain ⟨u, hu, g⟩ := execDemandTimerExpiry_eq hat
      cases hu.symm.trans e
      obtain ⟨hd, enable, hsent, henable⟩ := demandExpiry_frozen (deadline := deadline) hmode hp hlimits
      have hdials := demandExpiry_dials deadline s
      have hlatch : latchEmpty (demandExpiry deadline s) = false :=
        (latchEmpty_congr (congrArg Dials.latch hdials)).trans hs
      obtain ⟨-, hkept⟩ := g.frozen.demand hlatch ((congrArg Dials.mode hdials).trans hmode)
        (by simp [hd])
      refine ⟨hkept.trans hd, fun enable' moving d hm => ?_⟩
      have hframe : (4, LaneOut.demand enable' moving d) ∈ (dials t).frames :=
        List.mem_filter.2 ⟨hm, rfl⟩
      rw [g.frozen.frames] at hframe
      simp only [dials, hsent] at hframe
      have hone := List.mem_singleton.1 (List.mem_filter.1 hframe).1
      simp only [Prod.mk.injEq, LaneOut.demand.injEq, true_and] at hone
      obtain ⟨rfl, -, rfl⟩ := hone
      exact ⟨rfl, henable⟩
  · exact silent (exec_taken i hpower hdemand t e)

end Sys2Proof.Machine
end

section
/-!
SUPPORT. What a demand expiry leaves: the frame (O17), the step of each mode (O18) and the closed loop (O19).
-/

namespace Sys2Proof.Machine

/-! ## The crosshead after a trip or the end of a jog -/

theorem enterHold_xhu (s : State) : (enterHold s).xhu = heldXhu s.xhu := by
  simp [enterHold, heldXhu]

/-- The crosshead is as it was, or has entered HOLD with its demand. -/
def OrHeld (s t : State) : Prop := t.xhu = s.xhu ∨ t.xhu = heldXhu s.xhu

theorem OrHeld.trans {s t u : State} (h : OrHeld s t) (h' : OrHeld t u) : OrHeld s u := by
  unfold OrHeld at *
  obtain h | h := h <;> obtain h' | h' := h' <;> rw [h', h]
  · exact .inl rfl
  · exact .inr rfl
  · exact .inr rfl
  · exact .inr rfl

theorem trip_orHeld (c : TripClass) (s : State) : OrHeld s (trip c s) := by
  unfold trip
  split
  · exact .inl rfl
  · have hseq : ∀ u, (sequencerTrip c u).xhu = u.xhu := by
      intro u
      unfold sequencerTrip
      split <;> simp [releaseSpecimen, changeState, enterState]
    exact .inr ((hseq _).trans (by simp [enterHold_xhu]))

theorem judgeDelayed_orHeld (c : TripClass) (h : Bool) (d : Nat) (s : State) :
    OrHeld s (judgeDelayed c h d s) := by
  unfold judgeDelayed
  split
  · split
    · split
      · exact trip_orHeld c (setCondition c .spent s)
      · exact .inl rfl
    · split
      · exact trip_orHeld c (setCondition c .spent s)
      · exact .inl rfl
    · exact .inl rfl
  · exact .inl rfl

theorem protectDemand_orHeld (d : Int) (e : Bool) (s : State) : OrHeld s (protectDemand d e s) := by
  unfold protectDemand
  split
  · exact .inl rfl
  · exact judgeDelayed_orHeld _ _ _ s

theorem endDisabledJog_orHeld (s : State) : OrHeld s (endDisabledJog s) := by
  unfold endDisabledJog endJog
  split
  · exact .inl rfl
  · split
    · exact .inr (enterHold_xhu s)
    · exact .inl rfl

/-- HOLD is another mode, so a crosshead whose mode is what it was is as it was. -/
theorem OrHeld.of_mode {s t : State} (h : OrHeld s t) (hhold : s.xhu.mode ≠ .hold)
    (hmode : t.xhu.mode = s.xhu.mode) : t.xhu = s.xhu := by
  refine h.resolve_right fun hheld => hhold ?_
  rw [← hmode, hheld]
  rfl

/-! ## What an expiry leaves -/

/-- What a demand expiry does after its own stages. -/
def offeredDemand (s : State) : State :=
  endDisabledJog (protectDemand (demandSent s) s.xhu.lastEnable s)

theorem exec_demandTimerExpiry {deadline : Nat} {s : State} (h : s.xhu.demandAt = some deadline) :
    exec .demandTimerExpiry s = .next (offeredDemand (demandExpiry deadline s)) := by
  simp only [exec, execDemandTimerExpiry, h]
  rfl

theorem offeredDemand_orHeld (s : State) : OrHeld s (offeredDemand s) :=
  (protectDemand_orHeld _ _ s).trans (endDisabledJog_orHeld _)

theorem offeredDemand_keeps (s : State) : (offeredDemand s).sent = s.sent ∧
    (offeredDemand s).xhu.pos = s.xhu.pos ∧ (offeredDemand s).xhu.good = s.xhu.good ∧
    (offeredDemand s).xhu.demand = s.xhu.demand ∧ (offeredDemand s).xhu.drive = s.xhu.drive ∧
    (offeredDemand s).xhu.lastEnable = s.xhu.lastEnable ∧
    (offeredDemand s).xhu.demandAt = s.xhu.demandAt ∧ (offeredDemand s).lif = s.lif ∧
    (offeredDemand s).rtb.route = s.rtb.route ∧ (offeredDemand s).lch.last = s.lch.last ∧
    (offeredDemand s).exh = s.exh ∧ (offeredDemand s).oln = s.oln ∧ (offeredDemand s).tst = s.tst ∧
    workingCopies (offeredDemand s) = workingCopies s := by
  unfold offeredDemand endDisabledJog endJog
  (repeat' split) <;> simp [workingCopies]

theorem demandExpiry_keeps (deadline : Nat) (s : State) :
    (demandExpiry deadline s).xhu.pos = s.xhu.pos ∧ (demandExpiry deadline s).xhu.good = s.xhu.good ∧
    (demandExpiry deadline s).xhu.drive = s.xhu.drive ∧
    (demandExpiry deadline s).xhu.demandAt = some (deadline + 250) ∧
    (demandExpiry deadline s).xhu.mode = s.xhu.mode ∧ (demandExpiry deadline s).xhu.xset = s.xhu.xset ∧
    (demandExpiry deadline s).lif = s.lif ∧ (demandExpiry deadline s).rtb.route = s.rtb.route ∧
    (demandExpiry deadline s).lch = s.lch ∧ (demandExpiry deadline s).exh = s.exh ∧
    (demandExpiry deadline s).oln = s.oln ∧ (demandExpiry deadline s).tst = s.tst ∧
    (demandExpiry deadline s).pru = s.pru ∧
    workingCopies (demandExpiry deadline s) = workingCopies s := by
  obtain ⟨demand, target, a, b, -, h⟩ := stepMode_eq (expiring deadline s)
  simp only [demandExpiry_eq, h]
  simp [sendDemand, workingCopies]

/-- The demand an expiry leaves is the step's, within the soft limits (R45, R49). -/
theorem demandExpiry_demand (deadline : Nat) (s : State) : (demandExpiry deadline s).xhu.demand =
    (stepMode (expiring deadline s)).xhu.demand.map (limited s.xhu.xset) := by
  obtain ⟨demand, target, a, b, -, h⟩ := stepMode_eq (expiring deadline s)
  have hsend : ∀ u, (sendDemand u).xhu.demand = u.xhu.demand := fun _ => rfl
  rw [demandExpiry_eq, hsend, clampDemand_demand, h]
  rfl

theorem demandExpiry_demand_isSome (deadline : Nat) (s : State) :
    (demandExpiry deadline s).xhu.demand.isSome = s.xhu.demand.isSome := by
  obtain ⟨demand, target, a, b, hd, h⟩ := stepMode_eq (expiring deadline s)
  rw [demandExpiry_demand, h, Option.isSome_map]
  exact hd

/-- The clamp and the frame move no accumulator and no target. -/
theorem demandExpiry_loop (deadline : Nat) (s : State) :
    (demandExpiry deadline s).xhu.a = (stepMode (expiring deadline s)).xhu.a ∧
    (demandExpiry deadline s).xhu.b = (stepMode (expiring deadline s)).xhu.b ∧
    (demandExpiry deadline s).xhu.target = (stepMode (expiring deadline s)).xhu.target := by
  simp [demandExpiry_eq, sendDemand]

/-! ## The frame (R46, R47, R49) -/

theorem dumpFunction_eq_false {s : State} : dumpFunction s = false ↔
    ∀ c : TripClass, isDump c = true → latched s c = false := by
  have hall : ∀ c : TripClass, c ∈ allTrips := by
    intro c
    cases c <;> decide
  simp only [dumpFunction, List.any_eq_false, Bool.and_eq_true, not_and, Bool.not_eq_true]
  exact ⟨fun h c => h c (hall c), fun h c _ => h c⟩

/-- The frame of a demand expiry, and the enable kept with it. -/
theorem demandExpiry_frame (deadline : Nat) (s : State) :
    (demandExpiry deadline s).sent = [(4, .demand (demandExpiry deadline s).xhu.lastEnable
      (decide (s.xhu.mode ≠ .hold)) (demandSent (demandExpiry deadline s)))] ∧
    ((demandExpiry deadline s).xhu.lastEnable = true ↔ s.xhu.demand.isSome = true ∧
      s.xhu.good = true ∧ s.xhu.drive.ready = true ∧
        ∀ c : TripClass, isDump c = true → latched s c = false) := by
  have hset := demandExpiry_demand_isSome deadline s
  obtain ⟨demand, target, a, b, -, h⟩ := stepMode_eq (expiring deadline s)
  have hdump : dumpFunction (clampDemand (stepMode (expiring deadline s))) = dumpFunction s := by
    rw [h]
    simp [dumpFunction, latched]
  have henable : (demandExpiry deadline s).xhu.lastEnable =
      (s.xhu.demand.isSome && s.xhu.good && s.xhu.drive.ready && !dumpFunction s) := by
    rw [← hset, ← hdump]
    simp [demandExpiry_eq, sendDemand, driveEnable, h]
  constructor
  · rw [henable, ← hset, ← hdump]
    simp [demandExpiry_eq, sendDemand, driveEnable, demandSent, h]
  · rw [henable, ← dumpFunction_eq_false]
    simp [and_assoc]

theorem clamp_within {lo hi : Int} (h : lo ≤ hi) (v : Int) :
    lo ≤ clamp lo hi v ∧ clamp lo hi v ≤ hi := by
  unfold clamp
  split
  · omega
  · split <;> omega

/-- The demand a frame carries lies within the soft limits (R46, R49). -/
theorem demandSent_within {deadline : Nat} {s : State} {x : XSet} (hx : s.xhu.xset = some x)
    (h : x.softLower ≤ x.softUpper) : x.softLower ≤ demandSent (demandExpiry deadline s) ∧
      demandSent (demandExpiry deadline s) ≤ x.softUpper := by
  have hd := demandExpiry_demand deadline s
  unfold demandSent
  rw [hd]
  cases (stepMode (expiring deadline s)).xhu.demand with
  | none =>
    simp only [Option.map_none, demandExpiry_keeps, hx]
    exact clamp_within h 0
  | some p =>
    simp only [Option.map_some, limited, hx]
    exact clamp_within h p

/-- Settles O17: the stages of the expiry up to the frame, and the judgement and the end of a jog after it,
which move nothing the statement names. -/
theorem demandExpirySendsFrame : Obligations.DemandExpirySendsFrame := by
  intro deadline s h
  obtain ⟨osent, opos, ogood, odemand, odrive, oenable, oat, olif, oroute, olast, oexh, ooln, otst,
    ocopies⟩ := offeredDemand_keeps (demandExpiry deadline s)
  obtain ⟨kpos, kgood, kdrive, kat, -, kxset, klif, kroute, klch, kexh, koln, ktst, -, kcopies⟩ :=
    demandExpiry_keeps deadline s
  obtain ⟨hsent, henable⟩ := demandExpiry_frame deadline s
  have hset := demandExpiry_demand_isSome deadline s
  refine ⟨_, demandSent (demandExpiry deadline s), exec_demandTimerExpiry h, ?_, ?_,
    fun x hx hle => demandSent_within hx hle, fun p hp => demandSent_some (odemand ▸ hp),
    (congrArg _ odemand).trans hset, fun hnone => ?_, oat.trans kat, opos.trans kpos, ogood.trans kgood,
    odrive.trans kdrive, olif.trans klif, oroute.trans kroute, ?_, oexh.trans kexh, ooln.trans koln,
    otst.trans ktst, ocopies.trans kcopies⟩
  · rw [osent, oenable]
    exact hsent
  · rw [oenable]
    exact henable
  · have hunset : (demandExpiry deadline s).xhu.demand = none := by
      simpa [hnone] using hset
    simp only [demandSent, hunset, kxset]
    split <;> simp_all
  · rw [olast, klch]

/-! ## The steps (R45, R52 to R59) -/

/-- An expiry with the demand set, told by what its step does. -/
theorem demandExpiry_steps {deadline : Nat} {p : Int} {s : State}
    (h : s.xhu.demandAt = some deadline) (hp : s.xhu.demand = some p) : ∃ t q,
      exec .demandTimerExpiry s = .next t ∧ t.xhu.demand = some (limited s.xhu.xset q) ∧
        (stepMode (expiring deadline s)).xhu.demand = some q ∧
        (s.xhu.mode ≠ .hold → t.xhu.mode = s.xhu.mode →
          t.xhu.a = (stepMode (expiring deadline s)).xhu.a ∧
          t.xhu.b = (stepMode (expiring deadline s)).xhu.b ∧
          t.xhu.target = (stepMode (expiring deadline s)).xhu.target) := by
  obtain ⟨-, -, -, odemand, -⟩ := offeredDemand_keeps (demandExpiry deadline s)
  obtain ⟨-, -, -, -, kmode, -⟩ := demandExpiry_keeps deadline s
  obtain ⟨q, hq⟩ : ∃ q, (stepMode (expiring deadline s)).xhu.demand = some q := by
    obtain ⟨demand, target, a, b, hd, he⟩ := stepMode_eq (expiring deadline s)
    rw [he]
    exact Option.isSome_iff_exists.1 (hd.trans (by simp [hp]))
  refine ⟨_, q, exec_demandTimerExpiry h, ?_, hq, fun hhold hmode => ?_⟩
  · rw [odemand, demandExpiry_demand, hq]
    rfl
  · rw [(offeredDemand_orHeld (demandExpiry deadline s)).of_mode (by rwa [kmode]) (hmode.trans kmode.symm)]
    exact demandExpiry_loop deadline s

theorem limited_eq (xset : Option XSet) (q : Int) : limited xset q =
    match xset with
    | some x => clamp x.softLower x.softUpper q
    | none => q := by
  cases xset <;> rfl

/-- The advance of a closed loop's target (R54). -/
def loopAdvance (rate : Int) (x : Xhu) : Int :=
  if x.drive.saturated then 0 else (x.b + rate) / 4000

/-- The velocity of a closed loop before its cap and its floor (R55, R56). -/
def loopVelocity (rate : Int) (gain : Nat) (feedforward measured : Int) (x : Xhu) : Int :=
  feedforward + ((x.target.getD measured + loopAdvance rate x - measured) * gain) / 256

section
variable {rate vmax feedforward measured p : Int} {gain : Nat} {x : Xhu}

/-- Above vmax the advance is undone. -/
theorem closedLoop_of_capped (h : vmax < loopVelocity rate gain feedforward measured x) :
    closedLoop rate gain vmax feedforward measured x =
      stepDemand vmax 1 { x with target := some (x.target.getD measured) } :=
  if_pos h

theorem closedLoop_of_not_capped (h : ¬ vmax < loopVelocity rate gain feedforward measured x) :
    closedLoop rate gain vmax feedforward measured x =
      stepDemand (max (loopVelocity rate gain feedforward measured x) 0) 1
        { x with
          target := some (x.target.getD measured + loopAdvance rate x)
          b := if x.drive.saturated then x.b else x.b + rate - loopAdvance rate x * 4000 } :=
  if_neg h

/-- The accumulator of the target keeps the remainder of the advance (R54). -/
theorem loopRemainder_eq (rate : Int) (x : Xhu) :
    (if x.drive.saturated then x.b else x.b + rate - loopAdvance rate x * 4000) =
      if x.drive.saturated then x.b else (x.b + rate) % 4000 := by
  unfold loopAdvance
  split
  · rfl
  · omega

/-- A closed loop steps upwards, by a velocity from 0 to vmax (R53, R55, R56). -/
theorem closedLoop_rises (hp : x.demand = some p) (hv : 0 ≤ vmax) : ∃ q,
      (closedLoop rate gain vmax feedforward measured x).demand = some q ∧
        (0 ≤ x.a → p ≤ q ∧ q ≤ p + (x.a + vmax) / 4000) := by
  have hstep : ∀ (v : Int) (y : Xhu), 0 ≤ v → v ≤ vmax → y.demand = some p → y.a = x.a → ∃ q,
      (stepDemand v 1 y).demand = some q ∧ (0 ≤ x.a → p ≤ q ∧ q ≤ p + (x.a + vmax) / 4000) := by
    intro v y hlo hhi hy hya
    refine ⟨p + 1 * ((x.a + v) / 4000), by simp [stepDemand, hy, hya], ?_⟩
    omega
  by_cases hcap : vmax < loopVelocity rate gain feedforward measured x
  · rw [closedLoop_of_capped hcap]
    exact hstep vmax _ hv le_rfl hp rfl
  · rw [closedLoop_of_not_capped hcap]
    exact hstep _ _ (le_max_right _ _) (max_le (not_lt.1 hcap) hv) hp rfl

end

/-- Settles O18: one step lemma for the modes with a velocity, one for the closed loops. -/
theorem demandSteps : Obligations.DemandSteps := by
  intro deadline p s h hp ha
  obtain ⟨t, q, hexec, hdemand, hq, hloop⟩ := demandExpiry_steps h hp
  refine ⟨t, q, hexec, ?_, ?_⟩
  · exact hdemand.trans (congrArg some (limited_eq s.xhu.xset q))
  · have hset : (expiring deadline s).xhu.demand = some p := by simp [hp]
    have hmode : (expiring deadline s).xhu.mode = s.xhu.mode := by simp
    cases hm : s.xhu.mode with
    | hold =>
      rw [stepMode, hset, hmode, hm] at hq
      simpa [hp] using hq.symm
    | positionRate v direction =>
      rw [stepMode, hset, hmode, hm] at hq hloop
      simp only [State.setXhu_xhu, stepDemand, expiring_keeps, hp, Option.map_some,
        Option.some.injEq] at hq hloop
      refine ⟨hq.symm, fun he => ?_⟩
      have := (hloop (by simp) he).1
      omega
    | jog v d =>
      rw [stepMode, hset, hmode, hm] at hq hloop
      simp only [State.setXhu_xhu, stepDemand, expiring_keeps, hp, Option.map_some,
        Option.some.injEq] at hq hloop
      refine ⟨hq.symm, fun he => ?_⟩
      have := (hloop (by simp) he).1
      omega
    | strainRate rate gain vmax lc =>
      intro hv
      rw [stepMode, hset, hmode, hm] at hq
      obtain ⟨q', hq', hrise⟩ := closedLoop_rises (rate := rate) (gain := gain)
        (feedforward := rate * lc / 10000) (measured := s.xhu.strain) hset hv
      cases hq.symm.trans hq'
      exact hrise ha
    | stressRate rate gain vmax feedforward =>
      intro hv
      rw [stepMode, hset, hmode, hm] at hq
      obtain ⟨q', hq', hrise⟩ := closedLoop_rises (rate := rate) (gain := gain)
        (feedforward := feedforward) (measured := currentStress s) hset hv
      cases hq.symm.trans hq'
      exact hrise ha

/-! ## The closed loop (R54 to R56) -/

/-- In a closed-loop mode an expiry's step is the loop's, whichever quantity it follows. -/
theorem stepMode_closedLoop {deadline : Nat} {p rate vmax feedforward measured : Int} {gain : Nat}
    {s : State} (hp : s.xhu.demand = some p)
    (hmode : s.xhu.mode = .stressRate rate gain vmax feedforward ∧ measured = currentStress s ∨
      ∃ lc, s.xhu.mode = .strainRate rate gain vmax lc ∧ feedforward = rate * lc / 10000 ∧
        measured = s.xhu.strain) :
    (stepMode (expiring deadline s)).xhu = closedLoop rate gain vmax feedforward measured
      (expiring deadline s).xhu := by
  have hset : (expiring deadline s).xhu.demand = some p := by simp [hp]
  have hkept : (expiring deadline s).xhu.mode = s.xhu.mode := by simp
  obtain ⟨hm, rfl⟩ | ⟨lc, hm, rfl, rfl⟩ := hmode <;> rw [stepMode, hset, hkept, hm] <;> rfl

/-- Settles O19: the loop capped and the loop not capped. -/
theorem closedLoopFollowsTarget : Obligations.ClosedLoopFollowsTarget := by
  intro deadline p target rate vmax feedforward measured gain s h hp htarget hmode
  obtain ⟨t, q, hexec, hdemand, hq, hloop⟩ := demandExpiry_steps h hp
  rw [stepMode_closedLoop hp hmode] at hq hloop
  have hhold : s.xhu.mode ≠ .hold := by
    obtain ⟨hm, -⟩ | ⟨lc, hm, -⟩ := hmode <;> simp [hm]
  have hvelocity : loopVelocity rate gain feedforward measured (expiring deadline s).xhu =
      feedforward + ((target + (if s.xhu.drive.saturated then 0 else (s.xhu.b + rate) / 4000)
        - measured) * gain) / 256 := by
    simp [loopVelocity, loopAdvance, htarget]
  refine ⟨t, q, hexec, hdemand.trans (congrArg some (limited_eq s.xhu.xset q)), ?_⟩
  rw [← hvelocity]
  split
  · rename_i hcap
    rw [closedLoop_of_capped hcap] at hq hloop
    refine ⟨?_, fun he => ?_⟩
    · simpa [stepDemand, hp] using hq.symm
    · obtain ⟨-, hb, ht⟩ := hloop hhold he
      exact ⟨by simpa [stepDemand, htarget] using ht, by simpa [stepDemand] using hb⟩
  · rename_i hcap
    rw [closedLoop_of_not_capped hcap, loopRemainder_eq] at hq hloop
    refine ⟨?_, fun he => ?_⟩
    · simpa [stepDemand, hp] using hq.symm
    · obtain ⟨-, hb, ht⟩ := hloop hhold he
      exact ⟨by simpa [stepDemand, loopAdvance, htarget] using ht, by simpa [stepDemand] using hb⟩

end Sys2Proof.Machine
end

section
/-!
SUPPORT. What an XHEAD sample leaves (O11): the position, the demand where it is regained, and what the blocks
that judge a position leave alone.
-/

namespace Sys2Proof.Machine

theorem initialiseDemand_demand (s : State) :
    (initialiseDemand s).xhu.demand = some (limited s.xhu.xset s.xhu.pos) := by
  simp [initialiseDemand, clampDemand_demand]

/-- The backbone of an update that may initialise the demand. -/
def undemanded (s : State) : State :=
  (backbone s).setXhu { (backbone s).xhu with demand := none }

theorem undemanded_of_backbone {s t : State} (h : backbone t = backbone s) :
    undemanded t = undemanded s := by
  rw [undemanded, h, undemanded]

theorem initialiseDemand_undemanded (s : State) : undemanded (initialiseDemand s) = undemanded s := by
  unfold initialiseDemand clampDemand
  dsimp only
  split
  · split
    · rfl
    · exact (undemanded_of_backbone (raise_backbone _ _ _)).trans rfl
  · rfl

/-! ## A position regained (R42, R48) -/

/-- A demand is initialised by a regained position where it was unset, or where the drive is ready and the
trip latch empty (R48). -/
theorem regainPosition_demand (s : State) : (regainPosition s).xhu.demand =
    if s.xhu.demand = none ∨ s.xhu.drive.ready = true ∧ latchEmpty s = true then
      some (limited s.xhu.xset s.xhu.pos)
    else s.xhu.demand := by
  have hlatch : latchEmpty (setCondition .positionLost .clear s) = latchEmpty s :=
    latchEmpty_congr rfl
  unfold regainPosition
  dsimp only
  rw [hlatch]
  simp [apply_ite (fun t : State => t.xhu.demand), initialiseDemand_demand]

theorem regainPosition_undemanded (s : State) : undemanded (regainPosition s) = undemanded s := by
  unfold regainPosition
  dsimp only
  split
  · exact initialiseDemand_undemanded _
  · rfl

/-- An XHEAD sample before its position is offered: converted, and regained where it was not GOOD. -/
def positioned (x : XSet) (count : Int) (s : State) : State :=
  let t := s.setXhu { s.xhu with pos := positionOf x count, good := true }
  if s.xhu.good then t else regainPosition t

theorem positionSample_backbone {f : SampleFrame} {x : XSet} {s : State} (hx : s.xhu.xset = some x) :
    backbone (positionSample f s) = backbone (positioned x f.value s) := by
  have hsample : positionSample f s =
      inOpenOrder [protectPosition, exhPosition, sequencerPosition] (positioned x f.value s) := by
    unfold positionSample
    split
    · simp_all
    · rename_i y hy
      cases hx.symm.trans hy
      rfl
  rw [hsample]
  refine inOpenOrder_backbone _ _ ?_
  intro act hact t
  simp only [List.mem_cons, List.not_mem_nil, or_false] at hact
  obtain rfl | rfl | rfl := hact
  · exact protectPosition_backbone t
  · exact exhPosition_backbone t
  · exact sequencerPosition_backbone t

theorem positioned_demand {x : XSet} {count : Int} {s : State} (hx : s.xhu.xset = some x) :
    (positioned x count s).xhu.demand =
      if s.xhu.good = false ∧
          (s.xhu.demand = none ∨ s.xhu.drive.ready = true ∧ latchEmpty s = true) then
        some (clamp x.softLower x.softUpper (positionOf x count))
      else s.xhu.demand := by
  unfold positioned
  cases hgood : s.xhu.good with
  | true => simp
  | false =>
    have hlatch : ∀ y, latchEmpty (s.setXhu y) = latchEmpty s := fun _ => latchEmpty_congr rfl
    simp [regainPosition_demand, limited, hx, hlatch]

theorem positioned_undemanded (x : XSet) (count : Int) (s : State) :
    undemanded (positioned x count s) =
      undemanded (s.setXhu { s.xhu with pos := positionOf x count, good := true }) := by
  unfold positioned
  dsimp only
  split
  · rfl
  · exact regainPosition_undemanded _

/-- What O11 reads, an accepted sample on its way to the owner leaves: only its lane and a tap move. -/
theorem arrived_leaves (dt : Nat) (lane : Lane) (k : Fin 10) (v : Int) (s : State) :
    (withTap k v (heard dt lane s)).xhu = s.xhu ∧ (withTap k v (heard dt lane s)).exh = s.exh ∧
    (withTap k v (heard dt lane s)).pru = s.pru ∧ (withTap k v (heard dt lane s)).oln = s.oln ∧
    (withTap k v (heard dt lane s)).tst = s.tst ∧
    workingCopies (withTap k v (heard dt lane s)) = workingCopies s := by
  unfold withTap
  split <;> exact ⟨rfl, rfl, rfl, rfl, rfl, rfl⟩

/-- Settles O11: the blocks that judge the position keep the backbone, so the demand is the one left before
it is offered. -/
theorem positionSampleConverts : Obligations.PositionSampleConverts := by
  intro dt lane rx f s hsteered
  have hexec := exec_sample_steered (dt := dt) hsteered
  obtain ⟨hxhu, hexh, hpru, holn, htst, hcopies⟩ := arrived_leaves dt lane (routeKey lane f.sub) f.value s
  obtain ⟨-, hlch, -⟩ := arrived_keeps dt lane (routeKey lane f.sub) f.value s
  have hlatch := latchEmpty_congr (congrArg Pru.latch hpru)
  simp only [deliver] at hexec
  generalize withTap (routeKey lane f.sub) f.value (heard dt lane s) = e at *
  refine ⟨fun hblank => ?_, fun x hx => ?_⟩
  · rw [hexec, positionSample, hxhu, hblank]
  · have hx' : e.xhu.xset = some x := by rw [hxhu, hx]
    have hdemand := positioned_demand (count := f.value) hx'
    have hjudged := positionSample_backbone (f := f) hx'
    have hrest := (undemanded_of_backbone hjudged).trans (positioned_undemanded x f.value e)
    rw [hxhu, hlatch] at hdemand
    refine ⟨_, hexec, congrArg (fun t => t.xhu.pos) hrest, congrArg (fun t => t.xhu.good) hrest,
      (congrArg (fun t => t.xhu.demand) hjudged).trans hdemand, ?_, ?_, ?_, ?_, ?_, ?_, ?_, ?_, ?_, ?_⟩
    · exact (congrArg (fun t => t.lch.last) hrest).trans (congrArg Lch.last hlch)
    · exact (congrArg (fun t => t.lch.tare) hrest).trans (congrArg Lch.tare hlch)
    · exact (congrArg (fun t => t.lch.tareJob) hrest).trans (congrArg Lch.tareJob hlch)
    · exact (congrArg (fun t => t.xhu.drive) hrest).trans (congrArg Xhu.drive hxhu)
    · exact (congrArg (fun t => t.xhu.lastEnable) hrest).trans (congrArg Xhu.lastEnable hxhu)
    · exact (congrArg (fun t => t.exh.zeroA) hrest).trans (congrArg Exh.zeroA hexh)
    · exact (congrArg (fun t => t.exh.zeroB) hrest).trans (congrArg Exh.zeroB hexh)
    · exact (congrArg State.oln hrest).trans holn
    · exact (congrArg State.tst hrest).trans htst
    · exact (congrArg workingCopies hrest).trans hcopies

end Sys2Proof.Machine
end

section
/-!
SUPPORT. What a DRIVE-STATUS leaves (O14): the drive ready event and the judgement of the fault flag, in
either order.
-/

namespace Sys2Proof.Machine

variable {s : State} {d : DriveStatus}

/-! ## The two acts -/

/-- What neither the drive ready event nor the judgement of the fault flag moves. -/
def besideDrive (s : State) :=
  (s.xhu.pos, s.xhu.good, s.xhu.drive, s.xhu.lastEnable, s.xhu.xset, s.lch.last, s.lch.tareJob, s.exh,
    s.oln, s.tst, workingCopies s)

theorem driveReady_keeps (s : State) :
    besideDrive (driveReady s) = besideDrive s ∧ (driveReady s).pru = s.pru := by
  unfold driveReady
  split <;> simp [besideDrive, workingCopies]

theorem protectDriveStatus_besideDrive (s : State) :
    besideDrive (protectDriveStatus s) = besideDrive s := by
  simp [besideDrive, workingCopies]

theorem driveReady_demand (s : State) : (driveReady s).xhu.demand =
    if s.xhu.good = true ∧ s.xhu.demand.isSome = true ∧ latchEmpty s = true then
      some (limited s.xhu.xset s.xhu.pos)
    else s.xhu.demand := by
  unfold driveReady
  simp [apply_ite (fun t : State => t.xhu.demand), initialiseDemand_demand, and_assoc]

/-- A fault whose condition is not SPENT leaves DRIVE-FAULT latched (R141). -/
theorem protectDriveStatus_latched (hfault : s.xhu.drive.fault = true)
    (hspent : condition s .driveFault ≠ .spent) : latched (protectDriveStatus s) .driveFault = true := by
  unfold protectDriveStatus judgeAtOnce
  rw [if_pos hfault]
  split
  · contradiction
  · exact spend_latched s

/-- Without a fault the condition is CLEAR. -/
theorem protectDriveStatus_clear (hfault : s.xhu.drive.fault = false) :
    protectDriveStatus s = setCondition .driveFault .clear s := by
  simp [protectDriveStatus, judgeAtOnce, hfault]

/-! ## The acts in either order -/

/-- The judgement takes `P` to `Q`, and the drive ready event, where there is one, keeps both. -/
theorem takeDriveStatus_through {P Q : State → Prop} (hc : ∀ t n, P t → P { t with choices := n })
    (hready : ∀ t, P t → P (driveReady t)) (hjudged : ∀ t, P t → Q (protectDriveStatus t))
    (hready' : ∀ t, Q t → Q (driveReady t)) (hs : P (s.setXhu { s.xhu with drive := d })) :
    Q (takeDriveStatus d s) := by
  unfold takeDriveStatus
  dsimp only
  split
  · exact inOpenOrder_through (l₁ := [driveReady]) (l₂ := []) hc (by simpa using hready) hjudged
      (by simpa using hready') hs
  · exact hjudged _ hs

theorem takeDriveStatus_besideDrive (d : DriveStatus) (s : State) :
    besideDrive (takeDriveStatus d s) = besideDrive (s.setXhu { s.xhu with drive := d }) := by
  refine takeDriveStatus_through
    (P := fun t => besideDrive t = besideDrive (s.setXhu { s.xhu with drive := d }))
    (Q := fun t => besideDrive t = besideDrive (s.setXhu { s.xhu with drive := d }))
    (fun _ _ h => h) (fun t h => ?_) (fun t h => ?_) (fun t h => ?_) rfl
  · exact (driveReady_keeps t).1.trans h
  · exact (protectDriveStatus_besideDrive t).trans h
  · exact (driveReady_keeps t).1.trans h

theorem condition_congr {s t : State} (h : t.pru = s.pru) (c : TripClass) :
    condition t c = condition s c := by
  simp only [condition, h]

theorem besideDrive_drive {s t : State} (h : besideDrive t = besideDrive s) :
    t.xhu.drive = s.xhu.drive :=
  congrArg (fun v => v.2.2.1) h

theorem takeDriveStatus_latched (hfault : d.fault = true)
    (hspent : condition s .driveFault ≠ .spent) :
    latched (takeDriveStatus d s) .driveFault = true := by
  refine takeDriveStatus_through
    (P := fun t => t.xhu.drive = d ∧ t.pru = s.pru) (Q := fun t => latched t .driveFault = true)
    (fun _ _ h => h) (fun t h => ?_) (fun t h => ?_) (fun t h => ?_) ⟨rfl, rfl⟩
  · obtain ⟨hbeside, hpru⟩ := driveReady_keeps t
    exact ⟨(besideDrive_drive hbeside).trans h.1, hpru.trans h.2⟩
  · exact protectDriveStatus_latched (h.1 ▸ hfault) (condition_congr h.2 _ ▸ hspent)
  · simpa [latched, (driveReady_keeps t).2] using h

theorem takeDriveStatus_clear (hfault : d.fault = false) :
    condition (takeDriveStatus d s) .driveFault = .clear ∧
      (takeDriveStatus d s).pru.latch = s.pru.latch := by
  refine takeDriveStatus_through
    (P := fun t => t.xhu.drive = d ∧ t.pru.latch = s.pru.latch)
    (Q := fun t => condition t .driveFault = .clear ∧ t.pru.latch = s.pru.latch)
    (fun _ _ h => h) (fun t h => ?_) (fun t h => ?_) (fun t h => ?_) ⟨rfl, rfl⟩
  · obtain ⟨hbeside, hpru⟩ := driveReady_keeps t
    exact ⟨(besideDrive_drive hbeside).trans h.1, (congrArg Pru.latch hpru).trans h.2⟩
  · rw [protectDriveStatus_clear (h.1 ▸ hfault)]
    exact ⟨by simp [condition, setCondition], h.2⟩
  · rw [condition_congr (driveReady_keeps t).2, (driveReady_keeps t).2]
    exact h

/-! ## The demand (R48) -/

/-- Two acts in an open order run in one order or in the other. -/
theorem inOpenOrder_two (a b : State → State) (s : State) : ∃ n,
    inOpenOrder [a, b] s = b (a { s with choices := n }) ∨
      inOpenOrder [a, b] s = a (b { s with choices := n }) := by
  obtain ⟨l, n, hperm, h⟩ := inOpenOrder_perm [a, b] s
  obtain rfl | rfl := List.perm_pair.1 hperm
  · exact ⟨n, .inl h⟩
  · exact ⟨n, .inr h⟩

/-- The drive turns ready, with what a drive ready event asks for to initialise the demand (R48). -/
def BecomesReady (d : DriveStatus) (s : State) : Prop :=
  s.xhu.drive.ready = false ∧ d.ready = true ∧ s.xhu.good = true ∧ s.xhu.demand.isSome = true ∧
    latchEmpty s = true

/-- A drive that turns ready: the event and the judgement, in one order or in the other. -/
theorem takeDriveStatus_turning (hwas : s.xhu.drive.ready = false) (his : d.ready = true) :
    ∃ u : State, u.xhu = { s.xhu with drive := d } ∧ u.pru = s.pru ∧
      (takeDriveStatus d s = protectDriveStatus (driveReady u) ∨
        takeDriveStatus d s = driveReady (protectDriveStatus u)) := by
  unfold takeDriveStatus
  rw [if_pos (by simp [hwas, his])]
  obtain ⟨n, h⟩ := inOpenOrder_two driveReady protectDriveStatus (s.setXhu { s.xhu with drive := d })
  exact ⟨{ s.setXhu { s.xhu with drive := d } with choices := n }, rfl, rfl, h⟩

theorem takeDriveStatus_initialises (h : BecomesReady d s) (hfault : d.fault = false) :
    (takeDriveStatus d s).xhu.demand = some (limited s.xhu.xset s.xhu.pos) := by
  obtain ⟨hwas, his, hgood, hset, hlatch⟩ := h
  obtain ⟨u, hxhu, hpru, he⟩ := takeDriveStatus_turning hwas his
  have hempty : latchEmpty u = true := (latchEmpty_congr (congrArg Pru.latch hpru)).trans hlatch
  have hdemand : (driveReady u).xhu.demand = some (limited s.xhu.xset s.xhu.pos) := by
    simp [driveReady_demand, hxhu, hgood, hset, hempty]
  obtain he | he := he
  · rw [he]
    simpa using hdemand
  · rw [he, protectDriveStatus_clear (by rw [hxhu, hfault]), driveReady_demand, latchEmpty_congr rfl,
      ← hdemand, driveReady_demand]
    rfl

/-- A drive that does not turn ready, or turns ready where the event does nothing, leaves the demand. -/
theorem takeDriveStatus_demand (h : ¬ BecomesReady d s) :
    (takeDriveStatus d s).xhu.demand = s.xhu.demand := by
  by_cases hturns : s.xhu.drive.ready = false ∧ d.ready = true
  · obtain ⟨hwas, his⟩ := hturns
    obtain ⟨u, hxhu, hpru, he⟩ := takeDriveStatus_turning hwas his
    have hidle : ∀ t, t.xhu.good = s.xhu.good → t.xhu.demand = s.xhu.demand →
        (latchEmpty t = true → latchEmpty s = true) → (driveReady t).xhu.demand = s.xhu.demand := by
      intro t hgood hset hlatch
      rw [driveReady_demand, if_neg, hset]
      rintro ⟨hg, hd, hl⟩
      exact h ⟨hwas, his, hgood ▸ hg, hset ▸ hd, hlatch hl⟩
    have hlatch : latchEmpty u = latchEmpty s := latchEmpty_congr (congrArg Pru.latch hpru)
    have hfrozen : latchEmpty u = false → latchEmpty (protectDriveStatus u) = false :=
      (judgeAtOnce_guarded u .driveFault u.xhu.drive.fault).frozen.latched
    obtain he | he := he
    · rw [he]
      simpa using hidle u (by rw [hxhu]) (by rw [hxhu]) fun hl => hlatch ▸ hl
    · rw [he]
      refine hidle _ (by simp [hxhu]) (by simp [hxhu]) fun hl => ?_
      rw [← hlatch]
      exact Bool.of_not_eq_false fun hs => Bool.false_ne_true ((hfrozen hs).symm.trans hl)
  · unfold takeDriveStatus
    rw [if_neg (by simpa using hturns)]
    simp

/-- Settles O14. -/
theorem driveStatusReplacesFlags : Obligations.DriveStatusReplacesFlags := by
  intro dt rx d s hread hup becomesReady
  have hexec : exec (.driveStatus dt 4 rx) s = .next (takeDriveStatus d (heard dt 4 s)) := by
    have he : exec (.driveStatus dt 4 rx) s = .next (receive 4 (readLaneFrame 4 rx) (elapse dt s)) := rfl
    rw [he, hread, receive, acceptFrame_up dt hup]
  have hlatch : latchEmpty (heard dt 4 s) = latchEmpty s := latchEmpty_congr rfl
  have hready : BecomesReady d (heard dt 4 s) ↔ becomesReady := by
    unfold BecomesReady
    rw [hlatch]
    rfl
  have hbeside : besideDrive (takeDriveStatus d (heard dt 4 s)) =
      besideDrive (s.setXhu { s.xhu with drive := d }) := takeDriveStatus_besideDrive d (heard dt 4 s)
  simp only [besideDrive, Prod.mk.injEq] at hbeside
  obtain ⟨hpos, hgood, hdrive, henable, -, hlast, htare, hexh, holn, htst, hcopies⟩ := hbeside
  refine ⟨_, hexec, hdrive, fun h hfault => ?_, fun h => takeDriveStatus_demand (mt hready.1 h),
    fun hfault hspent => takeDriveStatus_latched hfault hspent, takeDriveStatus_clear, hpos, hgood, henable,
    hlast, htare, hexh, holn, htst, hcopies⟩
  exact (takeDriveStatus_initialises (hready.2 h) hfault).trans (congrArg some (limited_eq _ _))

end Sys2Proof.Machine
end

section
/-!
SUPPORT. A jog: its refusals, its start or continuation, and its two ends (O47).
-/

namespace Sys2Proof.Machine

variable {s : State}

/-! ## The ends of a jog (R52, R60) -/

theorem enterHold_eq_held (s : State) : enterHold s = held s := by
  have hneeds : loadLostHolds (channelUp s .load)
      (s.setXhu { s.xhu with mode := .hold, a := 0, b := 0, target := none }) =
      (!channelUp s .load && (s.tsq.state = .armed || s.tsq.state = .running || s.tsq.state = .held)) := by
    exact congrArg (!channelUp s .load && ·) (Bool.or_false _)
  have hup : channelUp (s.setXhu { s.xhu with mode := .hold, a := 0, b := 0, target := none }) .load =
      channelUp s .load := rfl
  unfold enterHold settleLoadLost held
  rw [hup, hneeds]
  split <;> rfl

/-- Entering HOLD leaves the link as it is, so it makes no difference whether an order joins it before. -/
theorem held_join (kind tag : Byte) (s : State) :
    held (joinOutstanding kind tag s) = joinOutstanding kind tag (held s) := by
  unfold held
  have hup : channelUp (joinOutstanding kind tag s) .load = channelUp s .load := rfl
  have hstate : (joinOutstanding kind tag s).tsq = s.tsq := rfl
  simp only [hup, hstate]
  split <;> rfl

theorem held_settled (h : Settled s) : Settled (held s) := by
  unfold held
  dsimp only
  split <;> exact h

theorem jogStop_taken (dt : Nat) (tag : Byte) (h : Ready s) :
    exec (.jogStop dt tag []) s = .next (answered (plainReply .jogStop tag .done)
      (if jogActive s then held (later dt s) else later dt s)) := by
  have he : exec (.jogStop dt tag []) s =
      .next (ownJogStop tag [] (joinOutstanding (orderCode .jogStop) tag (later dt s))) :=
    congrArg Host.Outcome.next (takeOrder_ready h rfl)
  have hjog : jogActive (joinOutstanding (orderCode .jogStop) tag (later dt s)) = jogActive s := rfl
  rw [he, ownJogStop, endJog, hjog]
  refine congrArg Host.Outcome.next ?_
  split
  · rw [enterHold_eq_held, held_join]
    exact reply_join (held_settled (s := later dt s) h.1) .jogStop tag .done none none
  · exact reply_join (s := later dt s) h.1 .jogStop tag .done none none

/-! ## The start of a jog (R59, R139) -/

/-- The crosshead in a jog that has just been taken (R59). -/
def jogging (v : Int) (s : State) : State :=
  s.setXhu { s.xhu with
    mode := .jog v (s.now + 250000), a := jogAccumulator v s.xhu, b := 0, target := none }

theorem jogCrosshead_eq (v : Int) (s : State) : jogCrosshead v s =
    if jogActive s then jogging v s else judgeLoadLost (channelUp s .load) (jogging v s) := rfl

/-- LOAD-LOST does not trip on the spot: only conditions and the loss timer may move. -/
theorem judgeLoadLost_quiet (h : NoLoadLossNow s) : ∃ p : Pru, p.latch = s.pru.latch ∧
    judgeLoadLost (channelUp s .load) s = s.setPru p := by
  unfold judgeLoadLost
  split
  · exact ⟨s.pru, rfl, rfl⟩
  · rename_i p hp
    split
    · rename_i hholds
      have hdown : channelUp s .load = false := by
        simp only [loadLostHolds, Bool.and_eq_true, Bool.not_eq_true'] at hholds
        exact hholds.1
      split
      · rename_i hclear
        have hdelay : 0 < p.loadLossMs :=
          ((h.resolve_left (by simp [hdown])).resolve_left (· hclear)) p hp
        rw [if_neg (by omega)]
        exact ⟨{ (setCondition .loadLost (.timing s.now) s).pru with
          loadLossAt := some (s.now + millis p.loadLossMs) }, rfl, rfl⟩
      · exact ⟨s.pru, rfl, rfl⟩
    · exact ⟨(clearLoadLost s).pru, rfl, rfl⟩

/-- LOAD-LOST trips on the spot where the jog needs LOAD and nothing speaks against it. -/
theorem judgeLoadLost_now (h : ¬ NoLoadLossNow s) (hjog : jogActive s = true) :
    judgeLoadLost (channelUp s .load) s = spend .loadLost s := by
  simp only [NoLoadLossNow, not_or, not_forall, Bool.not_eq_true, ne_eq, not_not, not_lt] at h
  obtain ⟨hdown, hclear, p, hp, hdelay⟩ := h
  simp [judgeLoadLost, hp, loadLostHolds, hdown, hjog, hclear, hdelay]

theorem spend_hold {c : TripClass} (h : latched s c = false) : (spend c s).xhu.mode = .hold :=
  congrArg Dials.mode (trip_dials (s := setCondition c .spent s) h)

/-- A trip out of a test hands no milestone on: the evaluations are as they were. -/
theorem spend_evu (c : TripClass) (h : inTest s = false) : (spend c s).evu = s.evu := by
  have hseq : ∀ u, inTest u = false → (sequencerTrip c u).evu = u.evu := by
    intro u hu
    unfold sequencerTrip
    split <;> simp_all [inTest, changeState, releaseSpecimen, enterState]
  unfold spend trip
  split
  · rfl
  · refine (hseq _ ?_).trans (by simp)
    exact (inTest_congr (by simp)).trans h

/-- A jog that trips nothing: the crosshead jogs, and only conditions may move beside it. -/
theorem jogCrosshead_quiet (v : Int) (h : jogActive s = true ∨ NoLoadLossNow s) :
    ∃ p : Pru, p.latch = s.pru.latch ∧ jogCrosshead v s = (jogging v s).setPru p := by
  rw [jogCrosshead_eq]
  split
  · exact ⟨s.pru, rfl, rfl⟩
  · rename_i hactive
    exact judgeLoadLost_quiet (s := jogging v s) (h.resolve_left hactive)

/-- A jog that starts without LOAD trips LOAD-LOST (R139). -/
theorem jogCrosshead_trips (v : Int) (h : ¬ (jogActive s = true ∨ NoLoadLossNow s)) :
    jogCrosshead v s = spend .loadLost (jogging v s) := by
  obtain ⟨hactive, hnow⟩ := not_or.1 h
  rw [jogCrosshead_eq, if_neg hactive]
  exact judgeLoadLost_now (s := jogging v s) hnow rfl

/-- What a jog leaves, whether it trips or not. -/
theorem jogCrosshead_keeps (v : Int) (h : inTest s = false) :
    (jogCrosshead v s).lch.last = s.lch.last ∧ (jogCrosshead v s).exh = s.exh ∧
    (jogCrosshead v s).evu = s.evu ∧ (jogCrosshead v s).oln = s.oln ∧
    (jogCrosshead v s).lif = s.lif ∧ (jogCrosshead v s).tst = s.tst := by
  by_cases hquiet : jogActive s = true ∨ NoLoadLossNow s
  · obtain ⟨p, -, he⟩ := jogCrosshead_quiet v hquiet
    rw [he]
    exact ⟨rfl, rfl, rfl, rfl, rfl, rfl⟩
  · have hevu := spend_evu (s := jogging v s) .loadLost h
    rw [jogCrosshead_trips v hquiet]
    exact ⟨by simp [jogging], by simp [jogging], hevu, by simp [jogging], by simp [jogging],
      by simp [jogging]⟩

theorem jogAccumulator_eq (v : Int) (x : Xhu) : jogAccumulator v x =
    match jogVelocity x.mode with
    | none => 0
    | some old => if old * v < 0 then 0 else x.a := by
  cases hv : jogVelocity x.mode with
  | none => simp only [jogAccumulator, hv]
  | some old =>
    have hsign : (old < 0 ∧ 0 < v ∨ 0 < old ∧ v < 0) ↔ old * v < 0 := by
      rw [mul_neg_iff]
      omega
    simp only [jogAccumulator, hv, hsign]

/-! ## The order (R58) -/

theorem unsignedAt_four (bytes : List Byte) (i : Nat) :
    unsignedAt bytes i 4 = (((byteAt bytes i).toNat * 256 + (byteAt bytes (i + 1)).toNat) * 256
      + (byteAt bytes (i + 2)).toNat) * 256 + (byteAt bytes (i + 3)).toNat := by
  simp [unsignedAt, bigEndian, List.range_succ]

theorem exec_jog (dt : Nat) (tag a b c d : Byte) (h : Ready s) : exec (.jog dt tag [a, b, c, d]) s =
    .next (ownJog tag [a, b, c, d] (joinOutstanding (orderCode .jog) tag (later dt s))) :=
  congrArg Host.Outcome.next (takeOrder_ready h rfl)

/-- JOG is taken: the reply is formed behind what the jog has raised. -/
theorem jog_formed (dt : Nat) (tag : Byte) (v : Int) (h : Ready s) : ∃ os,
    labels os = labels s.cpt.outstanding ∧
    reply .jog tag .done none none (jogCrosshead v (joinOutstanding (orderCode .jog) tag (later dt s))) =
      answered (plainReply .jog tag .done)
        { jogCrosshead v (joinOutstanding (orderCode .jog) tag (later dt s)) with cpt :=
          { (jogCrosshead v (joinOutstanding (orderCode .jog) tag (later dt s))).cpt with
            outstanding := os } } := by
  have hmoves := jogCrosshead_moves v (joinOutstanding (orderCode .jog) tag (later dt s))
  have hsettled := (hmoves.settled (by exact h.1)).1
  have hother : orderCode .jog ≠ orderCode .tare := by decide
  obtain ⟨os, ho, hl⟩ := hmoves.newest
    (own := { tag := tag, kind := orderCode .jog, answered := false })
    (ls := labels s.cpt.outstanding) hother ⟨s.cpt.outstanding, rfl, rfl⟩
  exact ⟨os, hl, answer_settled hsettled os _ _ ho _ _ _⟩

/-- A jog that is taken, behind the order that asks for it. -/
theorem jog_runs {dt : Nat} {tag : Byte} (v : Int) (h : Ready s) (hlatch : ¬ latchEmpty s = false)
    (htest : ¬ inTest s = true) : ∃ t,
      reply .jog tag .done none none
        (jogCrosshead v (joinOutstanding (orderCode .jog) tag (later dt s))) = t ∧
      ReplyFormed (plainReply .jog tag .done) s t ∧
      (jogActive s = true ∨ NoLoadLossNow s → t.tsq = s.tsq ∧ t.pru.latch = s.pru.latch ∧
        t.lch = s.lch ∧ t.xhu = { s.xhu with
          mode := .jog v (s.now + dt + 250000)
          a :=
            match jogVelocity s.xhu.mode with
            | none => 0
            | some old => if old * v < 0 then 0 else s.xhu.a
          b := 0
          target := none }) ∧
      (¬ (jogActive s = true ∨ NoLoadLossNow s) → latched t .loadLost = true ∧ t.xhu.mode = .hold ∧
        t.xhu.demand = s.xhu.demand) ∧
      t.lch.last = s.lch.last ∧ t.exh = s.exh ∧ t.evu = s.evu ∧ t.oln = s.oln ∧
      t.lif = s.lif ∧ t.tst = s.tst := by
  obtain ⟨os, hos, hreply⟩ := jog_formed dt tag v h
  refine ⟨_, hreply, answered_formed _ hos, fun hquiet => ?_, fun hnow => ?_,
    jogCrosshead_keeps v (s := joinOutstanding (orderCode .jog) tag (later dt s))
      (Bool.eq_false_iff.2 htest)⟩
  · obtain ⟨p, hp, he⟩ := jogCrosshead_quiet
      (s := joinOutstanding (orderCode .jog) tag (later dt s)) v hquiet
    rw [he]
    refine ⟨rfl, hp, rfl, ?_⟩
    exact congrArg
      (fun n => { s.xhu with mode := .jog v (s.now + dt + 250000), a := n, b := 0, target := none })
      (jogAccumulator_eq v s.xhu)
  · have hopen : latched s .loadLost = false := by
      cases hl : latched s .loadLost with
      | false => rfl
      | true => exact absurd (latchEmpty_of_latched hl) hlatch
    have he := jogCrosshead_trips (s := joinOutstanding (orderCode .jog) tag (later dt s)) v hnow
    rw [he]
    have hdemand : ∀ u, (spend .loadLost u).xhu.demand = u.xhu.demand := by simp
    exact ⟨spend_latched _, spend_hold hopen, hdemand _⟩

/-- Settles O47: the refusals in their order, then the jog that is taken; its two ends enter HOLD. -/
theorem jogRunsAndEnds : Obligations.JogRunsAndEnds := by
  refine ⟨fun v deadline s hmode => ?_, fun dt tag s h => ⟨jogStop_taken dt tag h, ?_⟩⟩
  · simp only [exec, execJogDeadlineExpiry, hmode, enterHold_eq_held]
    rfl
  intro a b c d maximum v refused
  have hv : quantityAt [a, b, c, d] 0 = v := by
    simp only [quantityAt, unsignedAt_four]
    rfl
  have hjoin := fun code => reply_join (s := later dt s) h.1 .jog tag code none none
  have hexec := exec_jog dt tag a b c d h
  have hover : jogMaximumOf s < (v.natAbs : Int) ↔ maximum < |v| := by
    rw [Int.abs_eq_natAbs]
    rfl
  unfold ownJog at hexec
  rw [hv] at hexec
  have hlatch : latchEmpty (joinOutstanding (orderCode .jog) tag (later dt s)) = latchEmpty s := rfl
  have hallowed : jogAllowed (joinOutstanding (orderCode .jog) tag (later dt s)) = !inTest s := rfl
  have henable : (joinOutstanding (orderCode .jog) tag (later dt s)).xhu.lastEnable = s.xhu.lastEnable := rfl
  have hmaximum : jogMaximumOf (joinOutstanding (orderCode .jog) tag (later dt s)) = jogMaximumOf s := rfl
  simp only [hlatch, hallowed, henable, hmaximum, hover, Bool.not_eq_true', Bool.not_eq_false'] at hexec
  by_cases htrip : latchEmpty s = false
  · rw [if_pos htrip] at hexec ⊢
    exact hexec.trans (congrArg _ (hjoin _))
  rw [if_neg htrip] at hexec ⊢
  by_cases htest : inTest s = true
  · rw [if_pos htest] at hexec ⊢
    exact hexec.trans (congrArg _ (hjoin _))
  rw [if_neg htest] at hexec ⊢
  by_cases hdisabled : s.xhu.lastEnable = false
  · rw [if_pos hdisabled] at hexec ⊢
    exact hexec.trans (congrArg _ (hjoin _))
  rw [if_neg hdisabled] at hexec ⊢
  by_cases hfast : maximum < |v|
  · rw [if_pos hfast] at hexec ⊢
    exact hexec.trans (congrArg _ (hjoin _))
  rw [if_neg hfast] at hexec ⊢
  obtain ⟨t, ht, hruns⟩ := jog_runs (dt := dt) (tag := tag) v h htrip htest
  exact ⟨t, hexec.trans (congrArg _ ht), hruns⟩

end Sys2Proof.Machine
end

section
/-!
SUPPORT. The end of a phase by its timer (O22): its closing, and the next phase or the end of the test.
-/

namespace Sys2Proof.Machine

variable {s : State}

/-! ## A phase begins (R91) -/

theorem phaseRequest_eq (q : Phase) (r : Specimen) : phaseRequest q r.lc = modeOf q r := by
  unfold phaseRequest modeOf phaseDirection
  cases q.mode <;> rfl

/-- With an empty latch every mode a phase asks for is granted (R51, R57). -/
theorem requestMode_requested (q : Phase) (r : Specimen) (h : latchEmpty s = true) :
    Requested q r (requestMode (phaseRequest q r.lc) s) := by
  rw [phaseRequest_eq]
  cases hm : q.mode with
  | positionRate =>
    simp only [modeOf, requestMode, hm, h, if_true]
    exact ⟨by simp [modeOf, hm], rfl, by simp [hm], by simp [hm], fun _ => rfl⟩
  | strainRate =>
    simp only [modeOf, requestMode, hm, h, if_true]
    exact ⟨by simp [modeOf, hm], rfl, fun _ => ⟨rfl, rfl⟩, by simp [hm], by simp [hm]⟩
  | stressRate =>
    simp only [modeOf, requestMode, hm, h, if_true]
    exact ⟨by simp [modeOf, hm], rfl, by simp [hm], fun _ => ⟨rfl, rfl⟩, by simp [hm]⟩
  | hold =>
    have hx := enterHold_xhu s
    simp only [modeOf, requestMode, hm]
    exact ⟨by simp [hx, heldXhu, modeOf, hm], by simp [hx, heldXhu], by simp [hm], by simp [hm],
      fun _ => by simp [hx, heldXhu]⟩

/-- A phase that begins: phase time 0, its own timer, and its mode request (R91). -/
theorem beginPhase_begun {k : Nat} {q : Phase} (h : phaseAt s k = some q) :
    (beginPhase k s).tsq =
      { s.tsq with phase := some k, phaseBase := 0, phaseSince := s.now, phaseTimer := phaseLimit q } ∧
    ∀ r : Specimen, s.tsq.specimen = some r → latchEmpty s = true → Requested q r (beginPhase k s) := by
  have hbegun : ∃ u : State, u.tsq = { s.tsq with
      phase := some k, phaseBase := 0, phaseSince := s.now, phaseTimer := phaseLimit q } ∧
      latchEmpty u = latchEmpty s ∧ currentPhase u = some q ∧ beginPhase k s = requestPhaseMode u := by
    refine ⟨_, ?_, ?_, ?_, rfl⟩
    · simp [h]
    · exact latchEmpty_congr rfl
    · exact h
  obtain ⟨u, htsq, hlatch, hphase, he⟩ := hbegun
  rw [he, ← htsq]
  refine ⟨by simp, fun r hr hempty => ?_⟩
  have hspecimen : u.tsq.specimen = some r := by rw [htsq, ← hr]
  simp only [requestPhaseMode, hphase, hspecimen]
  exact requestMode_requested q r (hlatch.trans hempty)

/-! ## A phase ends (R94) -/

/-- Phase `k` closed by the first two stages of R94: PHASE-END and the end action. -/
def phaseClosed (k : Nat) (p : Phase) (s : State) : State :=
  let t := handMilestone { kind := .phaseEnd, index := some k, sample := currentSample s, value := none }
    (s.setTsq { s.tsq with phaseTimer := none })
  if p.removeExt then requestRemoval evuStrainLimit .phaseAction t else t

theorem endPhase_eq (k : Nat) (p : Phase) (s : State) : endPhase k p s =
    if (phaseAt s (k + 1)).isSome then beginPhase (k + 1) (phaseClosed k p s)
    else endTest .ended .programEnd (phaseClosed k p s) := rfl

/-- The end action's removal reaches the search limit only, so it ends no further phase (assumption 11). -/
theorem phaseClosed_console (k : Nat) (p : Phase) (s : State) :
    console (phaseClosed k p s) = console (s.setTsq { s.tsq with phaseTimer := none }) := by
  unfold phaseClosed
  dsimp only
  split
  · refine (requestRemoval_console _ evuStrainLimit_console .phaseAction).trans ?_
    simp [console]
  · simp [console]

theorem removeArms_opened {react : Strain → State → State}
    (hr : ∀ st t, (react st t).exh.handler = t.exh.handler) (cause : RemovalCause) (s : State) :
    (removeArms react cause s).exh.handler = .opened := by
  unfold removeArms
  extract_lets x _ t u
  split
  · refine (inOpenOrder_eq (fun v => v.exh.handler) _ u (fun _ _ => rfl) fun act ha v => ?_).trans
      (by simp [u, t])
    simp only [List.mem_cons, List.not_mem_nil, or_false] at ha
    obtain rfl | rfl := ha
    · exact hr _ v
    · simp
  · have hraise : ∀ v, (raiseExt (.removed cause) v).exh = v.exh := by simp
    exact congrArg Exh.handler (hraise _)

theorem phaseClosed_handler (k : Nat) (p : Phase) (s : State) :
    (p.removeExt = true → s.exh.handler = .attached →
      (phaseClosed k p s).exh.handler = .opened) ∧
    (p.removeExt = false → (phaseClosed k p s).exh.handler = s.exh.handler) := by
  unfold phaseClosed
  dsimp only
  refine ⟨fun hremove hattached => ?_, fun hkeep => ?_⟩
  · rw [if_pos hremove, requestRemoval]
    simp only [handMilestone_keeps, State.setTsq_exh, hattached]
    exact removeArms_opened (by simp) _ _
  · simp [hkeep]

/-- The sequencer, the latch and the crosshead of a closed phase, told one by one. -/
theorem phaseClosed_keeps (k : Nat) (p : Phase) (s : State) :
    (phaseClosed k p s).tsq = { s.tsq with phaseTimer := none } ∧ (phaseClosed k p s).pru = s.pru := by
  have h := phaseClosed_console k p s
  exact ⟨congrArg Prod.fst h, congrArg (fun c => c.2.1) h⟩

/-- What the end of a phase leaves to the latch and to the handler, whatever follows it. -/
theorem endPhase_keeps (k : Nat) (p : Phase) (s : State) :
    (endPhase k p s).pru.latch = s.pru.latch ∧ (endPhase k p s).pru.history = s.pru.history ∧
    (endPhase k p s).exh.handler = (phaseClosed k p s).exh.handler := by
  obtain ⟨-, hpru⟩ := phaseClosed_keeps k p s
  rw [endPhase_eq]
  split <;> simp [hpru]

/-- A later phase begins. -/
theorem endPhase_next {k : Nat} {p q : Phase} (hrun : s.tsq.state = .running)
    (hq : phaseAt s (k + 1) = some q) : (endPhase k p s).tsq.state = .running ∧
      (endPhase k p s).tsq.phase = some (k + 1) ∧ phaseTime (endPhase k p s) = 0 ∧
      (endPhase k p s).tsq.phaseTimer = phaseLimit q ∧
      ∀ r : Specimen, s.tsq.specimen = some r → latchEmpty s = true →
        Requested q r (endPhase k p s) := by
  obtain ⟨htsq, hpru⟩ := phaseClosed_keeps k p s
  have hphase : phaseAt (phaseClosed k p s) (k + 1) = some q := by
    rw [← hq]
    simp only [phaseAt, armedProgram, htsq]
  obtain ⟨hbegun, hrequested⟩ := beginPhase_begun hphase
  have hnow : (beginPhase (k + 1) (phaseClosed k p s)).now = (phaseClosed k p s).now := by simp
  rw [endPhase_eq, if_pos (by simp [hq])]
  refine ⟨?_, ?_, ?_, ?_, fun r hr hlatch => hrequested r ?_ ?_⟩
  · rw [hbegun, htsq]
    exact hrun
  · rw [hbegun]
  · simp [phaseTime, hbegun]
  · rw [hbegun]
  · rw [htsq]
    exact hr
  · exact (latchEmpty_congr (congrArg Pru.latch hpru)).trans hlatch

theorem endTest_cause (new : SeqState) (cause : EndCause) (s : State) :
    (endTest new cause s).tsq.endCause = some cause := by
  unfold endTest
  dsimp only
  split <;> simp [releaseSpecimen]

/-- After the last phase the test is ENDED (R94). -/
theorem endPhase_last {k : Nat} {p : Phase} (hk : s.tsq.phase = some k)
    (hnone : phaseAt s (k + 1) = none) : (endPhase k p s).tsq.state = .ended ∧
      (endPhase k p s).tsq.endCause = some .programEnd ∧ (endPhase k p s).tsq.phase = some k ∧
      (endPhase k p s).tsq.specimen = none ∧ (endPhase k p s).xhu.mode = .hold ∧
      inTest (endPhase k p s) = false := by
  obtain ⟨htsq, -⟩ := phaseClosed_keeps k p s
  have hstate := endTest_state (phaseClosed k p s) .ended .programEnd
  rw [endPhase_eq, if_neg (by simp [hnone])]
  refine ⟨hstate, endTest_cause _ _ _, ?_, endTest_specimen _ _ _,
    congrArg Dials.mode (endTest_dials _ .ended .programEnd), by simp [inTest, hstate]⟩
  simp [htsq, hk]

/-! ## The phase timer (R93) -/

theorem judgeEnd_timer {k : Nat} {p : Phase} (hrun : s.tsq.state = .running)
    (hk : s.tsq.phase = some k) (hp : phaseAt s k = some p)
    (hend : p.end1 = .phaseTime ∨ p.end2 = some .phaseTime) :
    judgeEnd metByTimer s = endPhase k p s := by
  have hphase : currentPhase s = some p := by simp only [currentPhase, hk, hp]
  have hmet : (metByTimer p.end1 p.threshold1 ||
      (p.end2.map fun e => metByTimer e p.threshold2).getD false) = true := by
    obtain h | h := hend <;> simp [h, metByTimer]
  simp only [judgeEnd, hk, hphase, hrun, hmet]
  rfl

/-- Settles O22: the end of the phase keeps the backbone, whether a phase or the end of the test follows. -/
theorem phaseTimerEndsPhase : Obligations.PhaseTimerEndsPhase := by
  intro limit k p s hrun htimer hk hp hend
  let u := reach (s.tsq.phaseSince + (limit - s.tsq.phaseBase)) s
  have hexec : exec .phaseTimerExpiry s = .next (endPhase k p u) := by
    rw [← judgeEnd_timer (s := u) hrun hk hp hend]
    simp only [exec, execPhaseTimerExpiry, hrun, htimer]
    rfl
  obtain ⟨hlatch, hhistory, hhandler⟩ := endPhase_keeps k p u
  obtain ⟨hopened, hkept⟩ := phaseClosed_handler k p u
  have hbackbone : backbone (endPhase k p u) = backbone u := endPhase_backbone u k p
  have hcopies : workingCopies (backbone (endPhase k p u)) = workingCopies (backbone u) :=
    congrArg workingCopies hbackbone
  have hstage := (endPhase_moves (b := false) u k p).stage
  exact ⟨_, hexec, hstage.now, fun q hq => endPhase_next (s := u) hrun hq,
    fun hnone => endPhase_last (s := u) hk hnone,
    fun hremove hattached => hhandler.trans (hopened hremove hattached),
    fun hkeep => hhandler.trans (hkept hkeep), congrArg (fun t => t.xhu.demand) hbackbone,
    congrArg (fun t => t.xhu.pos) hbackbone, congrArg (fun t => t.lch.last) hbackbone, hstage.lif, hlatch,
    hhistory, congrArg (fun t => t.oln) hbackbone, congrArg (fun t => t.tst) hbackbone,
    hcopies⟩

end Sys2Proof.Machine
end

section
/-!
SUPPORT. The state after power-on (O55), an arm sample that measures nothing (O12), and EXT-ATTACH with its two
timers (O45).
-/

namespace Sys2Proof.Machine

/-! ## The state after power-on -/

/-- Nothing waits at the controller link after power-on. -/
theorem reset_link : LinkInvariant State.reset where
  settled _ := ⟨rfl, rfl, fun k => Vector.getElem_replicate k.isLt⟩
  off src _ := Vector.getElem_replicate (sourceNumber src).isLt
  outstanding := Nat.zero_le 4
  counts k r h := by
    have hnone : State.reset.ntu.records[k] = none := Vector.getElem_replicate k.isLt
    rw [hnone] at h
    cases h

/-- Settles O55: the power-on state meets each invariant, whatever is stored. -/
theorem resetMeetsInvariants : Obligations.ResetMeetsInvariants :=
  ⟨reset_link, powerOn_test _ _ _, powerOn_counts _ _ _⟩

/-! ## An arm sample (R64, R65, R68) -/

/-- An arm in use is measured while ATTACHED. -/
theorem armSample_measures {armB : Bool} {x : ExtSet} {s : State} (f : SampleFrame)
    (hx : s.exh.extset = some x) (hu : armInUse x armB = true) (h : s.exh.handler = .attached) :
    armSample armB f s = measureArm x armB (holdArm armB f.value s) := by
  simp [armSample, hx, hu, h]

/-- An arm in use is averaged while zero averaging is open. -/
theorem armSample_averages {armB : Bool} {x : ExtSet} {v : Averaging} {s : State} (f : SampleFrame)
    (hx : s.exh.extset = some x) (hu : armInUse x armB = true) (h : s.exh.handler = .settling)
    (hv : s.exh.averaging = some v) :
    armSample armB f s = averageArm x armB f.value v (holdArm armB f.value s) := by
  simp [armSample, hx, hu, h, hv]

/-- An arm not in use, or one in use that is neither measured nor averaged, is held only. -/
theorem armSample_holds {armB : Bool} {s : State} (f : SampleFrame)
    (h : ∀ x : ExtSet, s.exh.extset = some x → armInUse x armB = true →
      s.exh.handler ≠ .attached ∧ (s.exh.handler = .settling → s.exh.averaging = none)) :
    armSample armB f s = holdArm armB f.value s := by
  unfold armSample
  dsimp only
  split
  · rfl
  · rename_i x hx
    split
    · rename_i hu
      obtain ⟨hattached, hsettling⟩ := h x hx hu
      split
      · rename_i hs hv
        rw [hsettling hs] at hv
        cases hv
      · exact absurd ‹_› hattached
      · rfl
    · rfl

/-- The three things an arm sample can do. -/
theorem armSample_cases (armB : Bool) (f : SampleFrame) (s : State) :
    armSample armB f s = holdArm armB f.value s ∨ ∃ x, s.exh.extset = some x ∧
      (armSample armB f s = measureArm x armB (holdArm armB f.value s) ∨
        ∃ v, armSample armB f s = averageArm x armB f.value v (holdArm armB f.value s)) := by
  unfold armSample
  dsimp only
  split
  · exact .inl rfl
  · rename_i x hx
    split
    · split
      · exact .inr ⟨x, hx, .inr ⟨_, rfl⟩⟩
      · exact .inr ⟨x, hx, .inl rfl⟩
      · exact .inl rfl
    · exact .inl rfl

/-- The latest values of the arms (R64). -/
def latestArms (s : State) : Option Int × Option Int := (s.exh.latestA, s.exh.latestB)

theorem latestArms_of_backbone {s t : State} (h : backbone t = backbone s) :
    latestArms t = latestArms s := by
  have hview : ∀ u : State, latestArms u = latestArms (backbone u) := fun _ => rfl
  rw [hview, h, ← hview]

theorem measureArm_backbone (x : ExtSet) (armB : Bool) (s : State) :
    backbone (measureArm x armB s) = backbone (holdDeltas x s) :=
  publishExt_backbone _ _ _

/-- The attach completed, before any block acts on its strain update (R69). -/
def attachCompleted (x : ExtSet) (v : Averaging) (s : State) : State :=
  holdDeltas x (setReattachOffset x (setZeros x v s))

/-- The first strain update of an attach, with the record of R80 started from it (R69). -/
def attachPublished (x : ExtSet) (v : Averaging) (s : State) : State :=
  let st := reportedExtensometer x (attachCompleted x v s)
  keepLastExt st.value (keepStrain st (attachCompleted x v s))

theorem completeAttach_eq (x : ExtSet) (v : Averaging) (s : State) : completeAttach x v s =
    let st := reportedExtensometer x (attachCompleted x v s)
    inOpenOrder [tsqStrain st, evuStrain st, judgeRemoval offerStrain false st,
      raiseExt (.attached (attachCompleted x v s).exh.oe)] (attachPublished x v s) := rfl

theorem completeAttach_backbone (x : ExtSet) (v : Averaging) (s : State) :
    backbone (completeAttach x v s) = backbone (attachCompleted x v s) := by
  have hkept : ∀ n t, backbone (keepLastExt n t) = backbone t := fun _ _ => rfl
  rw [completeAttach_eq]
  dsimp only
  rw [inOpenOrder_backbone]
  · simp [attachPublished, hkept]
  · simp [judgeRemoval_backbone]

/-- Neither the measurement nor the averaging touches the values held. -/
theorem armSample_latest (armB : Bool) (f : SampleFrame) (s : State) :
    latestArms (armSample armB f s) = latestArms (holdArm armB f.value s) := by
  obtain h | ⟨x, -, h | ⟨v, h⟩⟩ := armSample_cases armB f s <;> rw [h]
  · exact (latestArms_of_backbone (measureArm_backbone x armB _)).trans rfl
  · unfold averageArm
    dsimp only
    split
    · exact (latestArms_of_backbone (completeAttach_backbone x _ _)).trans rfl
    · rfl

theorem deliver_arm (lane : Lane) (armB : Bool) (f : SampleFrame) (s : State) :
    deliver lane (armChannel armB) f s = armSample armB f s := by
  cases armB <;> rfl

/-- A steered arm sample reaches the handler. -/
theorem exec_sample_arm {dt : Nat} {lane : Lane} {rx : Reception} {f : SampleFrame} {armB : Bool}
    {s : State} (h : Steered lane rx f (armChannel armB) s) : exec (.sample dt lane rx) s =
      .next (armSample armB f (withTap (routeKey lane f.sub) f.value (heard dt lane s))) := by
  rw [exec_sample_steered h, deliver_arm]

/-- A tap and the handler do not meet. -/
theorem withTap_exh (k : Fin 10) (v : Int) (e : Exh) (s : State) :
    withTap k v { s with exh := e } = { withTap k v s with exh := e } := by
  unfold withTap
  dsimp only
  split <;> rfl

/-- The handler with another latest value of an arm (R64). -/
def heldExh (armB : Bool) (count : Int) (e : Exh) : Exh :=
  if armB then { e with latestB := some count } else { e with latestA := some count }

theorem holdArm_eq (armB : Bool) (count : Int) (s : State) :
    holdArm armB count s = { s with exh := heldExh armB count s.exh } := by
  cases armB <;> rfl

/-- Settles O12: the sample is held first, and no later work touches the values held. -/
theorem armSampleIsHeld : Obligations.ArmSampleIsHeld := by
  intro dt lane rx f armB s hsteered
  obtain ⟨-, hexh, -⟩ := arrived_leaves dt lane (routeKey lane f.sub) f.value s
  refine ⟨⟨_, exec_sample_arm hsteered, ?_⟩, fun hidle => ?_⟩
  · have hlatest := armSample_latest armB f (withTap (routeKey lane f.sub) f.value (heard dt lane s))
    obtain ⟨hA, hB⟩ := Prod.mk.inj hlatest
    rw [hA, hB]
    cases armB <;> simp [holdArm_eq, heldExh, hexh]
  · rw [exec_sample_arm hsteered, armSample_holds f (by rw [hexh]; exact hidle)]
    rw [holdArm_eq, hexh]
    exact congrArg Host.Outcome.next (withTap_exh _ _ _ (heard dt lane s)).symm

/-! ## EXT-ATTACH (R67, R68, R70, R71) -/

/-- The notice of an occurrence and the outstanding orders do not meet. -/
theorem noticed_outstanding (src : Source) (d : NoticeDetail) (os : List Outstanding) (s : State) :
    noticed src d { s with cpt := { s.cpt with outstanding := os } } =
      { noticed src d s with cpt := { (noticed src d s).cpt with outstanding := os } } := by
  rw [noticed_eq, noticed_eq]
  rfl

/-- An order whose owner raises one occurrence and then answers it. -/
theorem reply_noticed {s : State} (h : Settled s) (src : Source) (d : NoticeDetail) (o : OrderName)
    (tag : Byte) (code : ReplyCode) :
    reply o tag code none none (raise src d (joinOutstanding (orderCode o) tag s)) =
      answered (plainReply o tag code) (noticed src d s) := by
  have hjoined : joinOutstanding (orderCode o) tag s = { s with cpt := { s.cpt with
    outstanding := s.cpt.outstanding ++
      [{ tag := tag, kind := orderCode o, answered := false }] } } := rfl
  have hos : (noticed src d s).cpt.outstanding = s.cpt.outstanding := by rw [noticed_eq]
  have hback : { noticed src d s with cpt := { (noticed src d s).cpt with
      outstanding := s.cpt.outstanding } } = noticed src d s := by rw [← hos]
  have hsettled := noticed_settled (s := joinOutstanding (orderCode o) tag s) (by exact h) src d
  rw [raise_settled (by exact h)]
  rw [hjoined, noticed_outstanding] at hsettled ⊢
  refine (answer_settled hsettled s.cpt.outstanding _ _ rfl _ _ _).trans ?_
  exact congrArg (answered (plainReply o tag code)) hback

theorem settleTimer_opens {deadline : Nat} {s : State} (h : s.exh.settleAt = some deadline) :
    exec .settleTimerExpiry s = .next
      { atExpiry deadline s with
        exh := { s.exh with
          settleAt := none
          averaging := some
            { armA := { count := 0, sum := 0 }, armB := { count := 0, sum := 0 }
              openedAt := max s.now deadline } } } := by
  simp only [exec, execSettleTimerExpiry, h]
  rfl

theorem averagingTimeout_fails {v : Averaging} {s : State} (hs : Settled s)
    (hv : s.exh.averaging = some v) : exec .zeroAveragingTimeout s = .next
      (noticed .extensometer (.ext (.attachFailed .noSample))
        { atExpiry (v.openedAt + 100000) s with
          exh := { s.exh with handler := .detached, settleAt := none, averaging := none } }) := by
  have he : exec .zeroAveragingTimeout s = .next (failAttach .noSample .detached
      (reach (v.openedAt + 100000) s)) := by
    simp only [exec, execZeroAveragingTimeout, hv]
  rw [he, failAttach, raiseExt, raise_settled (by exact hs)]
  rfl

theorem attachAllowed_iff (s : State) : attachAllowed s = true ↔
    s.tsq.state = .idle ∨ s.tsq.state = .armed ∨ s.tsq.state = .held ∧ s.exh.handler ≠ .attached := by
  cases h : s.tsq.state <;> simp [attachAllowed, h]

theorem armsUp_iff (x : ExtSet) (s : State) : armsUp x s = true ↔
    channelUp s .extA = true ∧ (x.twoArm = true → channelUp s .extB = true) := by
  cases hx : x.twoArm <;> simp [armsUp, hx]

theorem ownExtAttach_refused {tag : Byte} {s : State} (h : attachAllowed s = false) :
    ownExtAttach tag [] s = reply .extAttach tag .wrongState none none s := by
  simp [ownExtAttach, h]

theorem ownExtAttach_blank {tag : Byte} {s : State} (h : attachAllowed s = true)
    (hx : s.exh.extset = none) :
    ownExtAttach tag [] s = reply .extAttach tag .blankTable none none s := by
  simp [ownExtAttach, h, hx]

theorem ownExtAttach_taken {tag : Byte} {x : ExtSet} {s : State} (h : attachAllowed s = true)
    (hx : s.exh.extset = some x) : ownExtAttach tag [] s =
      reply .extAttach tag .accepted none none
        (if armsUp x (beginAttach x s) then beginAttach x s
        else failAttach .channelLost .detached (beginAttach x s)) := by
  simp [ownExtAttach, h, hx]

theorem exec_extAttach (dt : Nat) (tag : Byte) {s : State} (h : Ready s) :
    exec (.extAttach dt tag []) s =
      .next (ownExtAttach tag [] (joinOutstanding (orderCode .extAttach) tag (later dt s))) :=
  congrArg Host.Outcome.next (takeOrder_ready h rfl)

/-- The handler when an attach begins: no zeros held, and no strain reported outside a test (R67, R71). -/
def clearedExh (s : State) : Exh :=
  { s.exh with
    averaging := none, zeroA := none, zeroB := none
    reported := if inTest s then s.exh.reported else none }

/-- An allowed EXT-ATTACH settles, or fails at once (R67, R70). -/
theorem extAttach_begins (dt : Nat) (tag : Byte) (x : ExtSet) {s : State} (h : Settled s) :
    let t := beginAttach x (joinOutstanding (orderCode .extAttach) tag (later dt s))
    reply .extAttach tag .accepted none none
      (if armsUp x t then t else failAttach .channelLost .detached t) =
    if channelUp s .extA = true ∧ (x.twoArm = true → channelUp s .extB = true) then
      answered (plainReply .extAttach tag .accepted)
        { later dt s with exh := { clearedExh s with
            handler := .settling, settleAt := some (s.now + dt + x.settleMs.toNat * 1000) } }
    else
      answered (plainReply .extAttach tag .accepted)
        (noticed .extensometer (.ext (.attachFailed .channelLost))
          { later dt s with exh := { clearedExh s with handler := .detached, settleAt := none } }) := by
  intro t
  have hup : armsUp x t = true ↔ channelUp s .extA = true ∧ (x.twoArm = true → channelUp s .extB = true) :=
    armsUp_iff x s
  by_cases harms : armsUp x t = true
  · rw [if_pos harms, if_pos (hup.1 harms)]
    exact reply_join (s := { later dt s with exh := { clearedExh s with
      handler := .settling, settleAt := some (s.now + dt + x.settleMs.toNat * 1000) } })
      h .extAttach tag .accepted none none
  · rw [if_neg harms, if_neg (mt hup.2 harms)]
    exact reply_noticed
      (s := { later dt s with exh := { clearedExh s with handler := .detached, settleAt := none } })
      h .extensometer (.ext (.attachFailed .channelLost)) .extAttach tag .accepted

/-- Settles O45: the two timers in one step each, and the order by R67's checks in turn. -/
theorem attachStartsSettling : Obligations.AttachStartsSettling := by
  refine ⟨fun _ _ h => settleTimer_opens h, fun _ _ hs hv => averagingTimeout_fails hs hv, ?_⟩
  intro dt tag s hready
  have hsettled := hready.1
  have hexec := exec_extAttach dt tag hready
  have hallowed : attachAllowed (joinOutstanding (orderCode .extAttach) tag (later dt s)) = true ↔ _ :=
    attachAllowed_iff s
  refine ⟨fun hno => ?_, fun hok hblank => ?_, fun x hok hx => ?_⟩
  · rw [hexec, ownExtAttach_refused (Bool.eq_false_iff.2 (mt hallowed.1 hno))]
    exact congrArg Host.Outcome.next
      (reply_join (s := later dt s) hsettled .extAttach tag .wrongState none none)
  · rw [hexec, ownExtAttach_blank (hallowed.2 hok) hblank]
    exact congrArg Host.Outcome.next
      (reply_join (s := later dt s) hsettled .extAttach tag .blankTable none none)
  · rw [hexec, ownExtAttach_taken (hallowed.2 hok) hx]
    exact congrArg Host.Outcome.next (extAttach_begins dt tag x hsettled)

end Sys2Proof.Machine
end

section
/-!
SUPPORT. What the blocks that take a strain update do (R72 to R80, R92 to R94): a removal from ATTACHED, what every
one of them leaves, and a phase that goes on or is over.
-/

namespace Sys2Proof.Machine

variable (s : State)

/-! ## A removal from ATTACHED (R77, R78) -/

/-- The arms OPENED during a test, spliced to the crosshead, before any block acts on the splice (R77, R78). -/
def armsOpened : State :=
  spliceToCrosshead (s.setExh { s.exh with handler := .opened })

theorem armsOpened_exh : (armsOpened s).exh =
    { s.exh with handler := .opened, ox := spliceOffset s, reported := some (spliceStrain s) } := by
  unfold armsOpened spliceToCrosshead keepStrain
  extract_lets _ t t'
  split <;> rfl

theorem armsOpened_keeps : (armsOpened s).tsq = s.tsq ∧ (armsOpened s).lch = s.lch ∧
    (armsOpened s).pru = s.pru ∧
    (armsOpened s).xhu = { s.xhu with strain := (spliceStrain s).value } ∧
    (armsOpened s).evu.fm = s.evu.fm ∧ (armsOpened s).evu.listOpen = s.evu.listOpen := by
  unfold armsOpened spliceToCrosshead keepStrain
  extract_lets _ t t'
  split <;> exact ⟨rfl, rfl, rfl, rfl, rfl, rfl⟩

/-- The splice publishes the latest strain anew (R78). -/
theorem spliceStrain_value {s : State} (h : InRange32 s.xhu.strain) :
    (spliceStrain s).value = s.xhu.strain := by
  have hsum : rawCrossheadStrain s s.xhu.pos + spliceOffset s = s.xhu.strain := by
    unfold spliceOffset
    omega
  unfold spliceStrain
  rw [hsum]
  exact clamp_of_within h.1 h.2

/-- What follows the splice of a removal: EXT-REMOVED, the removal strain and the occurrence (R77). -/
def removalNoted (cause : RemovalCause) (v : State) : State :=
  raiseExt (.removed cause)
    (noteRemovalStrain s.xhu.strain (handMilestone (plainMilestone .extRemoved (lastExtSample s)) v))

theorem removeArms_inTest {s : State} (h : inTest s = true) (react : Strain → State → State)
    (cause : RemovalCause) : removeArms react cause s =
      inOpenOrder [react (spliceStrain s), removalNoted s cause] (armsOpened s) := by
  have hstrain : crossheadStrain (armsOpened s) = spliceStrain s := by
    obtain ⟨htsq, -, -, hxhu, -⟩ := armsOpened_keeps s
    simp only [crossheadStrain, rawCrossheadStrain, htsq, hxhu, armsOpened_exh]
    rfl
  rw [← hstrain]
  unfold removeArms
  rw [if_pos h]
  rfl

theorem removeArms_outside {s : State} (h : inTest s = false) (react : Strain → State → State)
    (cause : RemovalCause) : removeArms react cause s =
      raiseExt (.removed cause) (s.setExh { s.exh with handler := .opened, reported := none }) := by
  unfold removeArms
  rw [if_neg (by simp [h])]
  rfl

/-! ## What every block leaves -/

/-- What a block that takes a strain update leaves beside the backbone: the trip latch, the slip data of R80,
an averaging that is not open, and the latest strain, which a splice publishes anew. -/
structure Reacted (s t : State) : Prop where
  latch : t.pru.latch = s.pru.latch
  slips : t.exh.slipCount = s.exh.slipCount
  record : t.exh.lastExt = s.exh.lastExt
  strain : InRange32 s.xhu.strain → t.xhu.strain = s.xhu.strain
  averaging : s.exh.averaging = none → t.exh.averaging = none

theorem Reacted.trans {s t u : State} (h : Reacted s t) (h' : Reacted t u) : Reacted s u where
  latch := h'.latch.trans h.latch
  slips := h'.slips.trans h.slips
  record := h'.record.trans h.record
  strain hr := (h'.strain (by rw [h.strain hr]; exact hr)).trans (h.strain hr)
  averaging hn := h'.averaging (h.averaging hn)

theorem Reacted.after {s t u : State} (h' : Reacted t u) (h : Reacted s t) : Reacted s u := h.trans h'

/-- An operation that leaves the handler, the latest strain and the latch. -/
theorem Reacted.of_parts {s t : State} (hlatch : t.pru.latch = s.pru.latch) (hexh : t.exh = s.exh)
    (hstrain : t.xhu.strain = s.xhu.strain) : Reacted s t :=
  ⟨hlatch, by rw [hexh], by rw [hexh], fun _ => hstrain, fun h => by rw [hexh, h]⟩

theorem Reacted.refl : Reacted s s := .of_parts rfl rfl rfl

theorem inOpenOrder_reacted (acts : List (State → State)) (h : ∀ act ∈ acts, ∀ t, Reacted t (act t)) :
    Reacted s (inOpenOrder acts s) :=
  inOpenOrder_keeps (P := Reacted s) acts s (fun _ _ ht => ht.trans (.of_parts rfl rfl rfl))
    (fun act ha t ht => ht.trans (h act ha t)) (.refl s)

theorem armsOpened_reacted : Reacted s (armsOpened s) := by
  obtain ⟨-, -, hpru, hxhu, -⟩ := armsOpened_keeps s
  have hexh := armsOpened_exh s
  exact ⟨by rw [hpru], by rw [hexh], by rw [hexh],
    fun hr => by rw [hxhu]; exact spliceStrain_value hr, fun hn => by rw [hexh]; exact hn⟩

theorem removeArms_reacted {react : Strain → State → State} (hr : ∀ st t, Reacted t (react st t))
    (cause : RemovalCause) : Reacted s (removeArms react cause s) := by
  cases h : inTest s with
  | true =>
    rw [removeArms_inTest h]
    refine (inOpenOrder_reacted _ _ fun act ha t => ?_).after (armsOpened_reacted s)
    simp only [List.mem_cons, List.not_mem_nil, or_false] at ha
    obtain rfl | rfl := ha
    · exact hr _ _
    · exact .of_parts (by simp [removalNoted]) (by simp [removalNoted]) (by simp [removalNoted])
  | false =>
    rw [removeArms_outside h]
    exact ⟨by simp, by simp, by simp, fun _ => by simp, fun hn => by simp [hn]⟩

theorem requestRemoval_reacted {react : Strain → State → State} (hr : ∀ st t, Reacted t (react st t))
    (cause : RemovalCause) : Reacted s (requestRemoval react cause s) := by
  unfold requestRemoval
  split
  · exact ⟨by simp, by simp, by simp, fun _ => by simp, fun hn => by simp [hn]⟩
  · exact ⟨by simp, by simp, by simp, fun _ => by simp, fun _ => by simp [failAttach]⟩
  · exact removeArms_reacted s hr cause
  · split
    · exact ⟨by simp, by simp, by simp, fun _ => by simp, fun hn => by simp [hn]⟩
    · exact .refl s
  · exact .refl s

theorem evuStrainLimit_reacted (st : Strain) : Reacted s (evuStrainLimit st s) :=
  .of_parts (by simp) (by simp) (by simp)

theorem phaseClosed_reacted (k : Nat) (p : Phase) : Reacted s (phaseClosed k p s) := by
  unfold phaseClosed
  dsimp only
  split
  · exact (requestRemoval_reacted _ (fun _ _ => evuStrainLimit_reacted _ _) _).after
      (.of_parts (by simp) (by simp) (by simp))
  · exact .of_parts (by simp) (by simp) (by simp)

theorem endPhase_reacted (k : Nat) (p : Phase) : Reacted s (endPhase k p s) := by
  refine .trans (phaseClosed_reacted s k p) ?_
  rw [endPhase_eq]
  split
  · exact .of_parts (by simp) (by simp) (by simp)
  · exact ⟨by simp, by simp, by simp, fun _ => by simp, fun hn => by simp [hn]⟩

/-- The sequencer leaves the state, or ends the present phase (R92). -/
theorem judgeEnd_cases (met : EndKind → Int → Bool) : judgeEnd met s = s ∨
    ∃ k p, s.tsq.state = .running ∧ s.tsq.phase = some k ∧ judgeEnd met s = endPhase k p s := by
  unfold judgeEnd
  split
  · rename_i k p hk _
    split
    · rename_i hmet
      simp only [Bool.and_eq_true, decide_eq_true_eq] at hmet
      exact .inr ⟨k, p, hmet.1, hk, rfl⟩
    · exact .inl rfl
  · exact .inl rfl

theorem judgeEnd_reacted (met : EndKind → Int → Bool) : Reacted s (judgeEnd met s) := by
  obtain h | ⟨k, p, -, -, h⟩ := judgeEnd_cases s met <;> rw [h]
  · exact .refl s
  · exact endPhase_reacted s k p

theorem evuStrain_reacted (st : Strain) : Reacted s (evuStrain st s) := by
  unfold evuStrain
  split
  · exact (judgeEnd_reacted _ _).after (.of_parts (by simp) (by simp) (by simp))
  · exact .refl s

theorem offerStrain_reacted (st : Strain) : Reacted s (offerStrain st s) := by
  refine inOpenOrder_reacted _ _ fun act ha t => ?_
  simp only [List.mem_cons, List.not_mem_nil, or_false] at ha
  obtain rfl | rfl := ha
  · exact judgeEnd_reacted t _
  · exact evuStrain_reacted t st

theorem judgeRemoval_reacted (rangeEnd : Bool) (st : Strain) :
    Reacted s (judgeRemoval offerStrain rangeEnd st s) := by
  unfold judgeRemoval
  split
  · exact .refl s
  · split
    · exact removeArms_reacted s (fun _ _ => offerStrain_reacted _ _) _
    · split
      · exact removeArms_reacted s (fun _ _ => offerStrain_reacted _ _) _
      · exact .refl s

/-! ## A phase goes on, or is over (R92, R94) -/

/-- The phase present in `s` is over in `t`: the test has ended, or a later phase is present. -/
def PhaseOver (s t : State) : Prop :=
  s.tsq.state = .running ∧ ∃ k, s.tsq.phase = some k ∧
    (t.tsq.state = .ended ∨ ∃ n, k < n ∧ t.tsq.phase = some n)

variable {s} {t u : State}

theorem PhaseOver.of_tsq (h : PhaseOver t u) (e : t.tsq = s.tsq) : PhaseOver s u := by
  unfold PhaseOver at *
  rwa [e] at h

/-- A phase that is over stays over. -/
theorem PhaseOver.later (h : PhaseOver s t) (h' : PhaseOver t u ∨ u.tsq = t.tsq) : PhaseOver s u := by
  obtain ⟨hrun, k, hk, hover⟩ := h
  refine ⟨hrun, k, hk, ?_⟩
  obtain ⟨hrun', j, hj, hover'⟩ | e := h'
  · obtain hended | ⟨n, hn, hphase⟩ := hover
    · cases hended.symm.trans hrun'
    · cases hphase.symm.trans hj
      exact hover'.imp_right fun ⟨m, hm, h⟩ => ⟨m, hn.trans hm, h⟩
  · rwa [e]

theorem endPhase_over {k : Nat} (p : Phase) (hrun : s.tsq.state = .running)
    (hk : s.tsq.phase = some k) : PhaseOver s (endPhase k p s) := by
  refine ⟨hrun, k, hk, ?_⟩
  rw [endPhase_eq]
  split
  · have hphase : (beginPhase (k + 1) (phaseClosed k p s)).tsq.phase = some (k + 1) := by
      simp [beginPhase]
    exact .inr ⟨k + 1, by omega, hphase⟩
  · exact .inl (endTest_state _ _ _)

/-- What a block leaves that ends no phase: the sequencer, LOAD, the protection, the handler and the
crosshead. -/
structure Unmoved (s t : State) : Prop where
  tsq : t.tsq = s.tsq
  lch : t.lch = s.lch
  pru : t.pru = s.pru
  exh : t.exh = s.exh
  xhu : t.xhu = s.xhu

theorem Unmoved.trans (h : Unmoved s t) (h' : Unmoved t u) : Unmoved s u :=
  ⟨h'.tsq.trans h.tsq, h'.lch.trans h.lch, h'.pru.trans h.pru, h'.exh.trans h.exh, h'.xhu.trans h.xhu⟩

/-- A block ends the phase, or moves neither the sequencer nor the handler. -/
def UnmovedOrOver (s t : State) : Prop := PhaseOver s t ∨ Unmoved s t

theorem UnmovedOrOver.refl (s : State) : UnmovedOrOver s s := .inr ⟨rfl, rfl, rfl, rfl, rfl⟩

theorem UnmovedOrOver.trans (h : UnmovedOrOver s t) (h' : UnmovedOrOver t u) : UnmovedOrOver s u := by
  obtain h | h := h
  · exact .inl (h.later (h'.imp_right Unmoved.tsq))
  · exact h'.imp (fun o => o.of_tsq h.tsq) h.trans

/-- Out of RUNNING no phase ends. -/
theorem UnmovedOrOver.unmoved (h : UnmovedOrOver s t) (hrun : s.tsq.state ≠ .running) : Unmoved s t :=
  h.resolve_left fun o => hrun o.1

variable (s)

theorem inOpenOrder_unmovedOrOver (acts : List (State → State))
    (h : ∀ act ∈ acts, ∀ t, UnmovedOrOver t (act t)) : UnmovedOrOver s (inOpenOrder acts s) :=
  inOpenOrder_keeps (P := UnmovedOrOver s) acts s
    (fun _ _ ht => ht.trans (.inr ⟨rfl, rfl, rfl, rfl, rfl⟩))
    (fun act ha t ht => ht.trans (h act ha t)) (.refl s)

theorem judgeEnd_unmovedOrOver (met : EndKind → Int → Bool) : UnmovedOrOver s (judgeEnd met s) := by
  obtain h | ⟨k, p, hrun, hk, h⟩ := judgeEnd_cases s met <;> rw [h]
  · exact .refl s
  · exact .inl (endPhase_over p hrun hk)

theorem evuStrain_unmovedOrOver (st : Strain) : UnmovedOrOver s (evuStrain st s) := by
  unfold evuStrain
  split
  · exact .trans (.inr ⟨by simp, by simp, by simp, by simp, by simp⟩) (judgeEnd_unmovedOrOver _ _)
  · exact .refl s

theorem offerStrain_unmovedOrOver (st : Strain) : UnmovedOrOver s (offerStrain st s) := by
  refine inOpenOrder_unmovedOrOver _ _ fun act ha t => ?_
  simp only [List.mem_cons, List.not_mem_nil, or_false] at ha
  obtain rfl | rfl := ha
  · exact judgeEnd_unmovedOrOver t _
  · exact evuStrain_unmovedOrOver t st

theorem removalNoted_unmoved (cause : RemovalCause) (v : State) : Unmoved v (removalNoted s cause v) :=
  ⟨by simp [removalNoted], by simp [removalNoted], by simp [removalNoted], by simp [removalNoted],
    by simp [removalNoted]⟩

theorem removeArms_unmovedOrOver {s : State} (h : inTest s = true) (cause : RemovalCause) :
    UnmovedOrOver (armsOpened s) (removeArms offerStrain cause s) := by
  rw [removeArms_inTest h]
  refine inOpenOrder_unmovedOrOver _ _ fun act ha t => ?_
  simp only [List.mem_cons, List.not_mem_nil, or_false] at ha
  obtain rfl | rfl := ha
  · exact offerStrain_unmovedOrOver t _
  · exact .inr (removalNoted_unmoved s cause t)

end Sys2Proof.Machine
end

section
/-!
SUPPORT. EXT-REMOVE in every handler state (O46).
-/

namespace Sys2Proof.Machine

/-! ## OPENED arms through a strain update (R74, R76) -/

/-- The handler with OPENED arms as it stands in `e`, but for the strain reported, which leaves with a test that
ends (R74). -/
def OpenedWith (e : Exh) (t : State) : Prop :=
  t.exh = e ∨ inTest t = false ∧ t.exh = { e with reported := none }

theorem endTest_exh (new : SeqState) (cause : EndCause) (s : State) :
    (endTest new cause s).exh = endedExh s.exh := by
  unfold endTest
  dsimp only
  split <;> simp [exhEndOfTest_eq]

theorem OpenedWith.of_exh {e : Exh} {s t : State} (h : OpenedWith e s) (hexh : t.exh = s.exh)
    (htsq : t.tsq = s.tsq) : OpenedWith e t := by
  have htest : inTest t = inTest s := by simp only [inTest, htsq]
  unfold OpenedWith
  rwa [hexh, htest]

section opened

variable {e : Exh} (he : e.handler = .opened) {s : State}
include he

/-- No removal is left to the end action of a phase, and the end of the test takes the strain (R74, R76). -/
theorem endPhase_openedWith (h : s.exh = e) (k : Nat) (p : Phase) :
    OpenedWith e (endPhase k p s) := by
  have hclosed : (phaseClosed k p s).exh = e := by
    unfold phaseClosed
    dsimp only
    split <;> simp [requestRemoval, h, he]
  rw [endPhase_eq]
  split
  · exact .inl (by simp [hclosed])
  · exact .inr ⟨by simp [inTest, endTest_state], by simp [endTest_exh, hclosed, endedExh, he]⟩

theorem judgeEnd_openedWith (h : OpenedWith e s) (met : EndKind → Int → Bool) :
    OpenedWith e (judgeEnd met s) := by
  obtain heq | ⟨k, p, hrun, -, heq⟩ := judgeEnd_cases s met <;> rw [heq]
  · exact h
  · refine endPhase_openedWith he (h.resolve_right fun hout => ?_) k p
    simp [inTest, hrun] at hout

theorem offerStrain_openedWith (h : OpenedWith e s) (st : Strain) :
    OpenedWith e (offerStrain st s) := by
  refine inOpenOrder_keeps (P := OpenedWith e) _ _ (fun _ _ ht => ht) (fun act ha t ht => ?_) h
  simp only [List.mem_cons, List.not_mem_nil, or_false] at ha
  obtain rfl | rfl := ha
  · exact judgeEnd_openedWith he ht _
  · unfold evuStrain
    split
    · exact judgeEnd_openedWith he (ht.of_exh (by simp) (by simp)) _
    · exact ht

end opened

/-- A removal during a test leaves the arms OPENED and spliced, whatever the blocks do on the splice (R77). -/
theorem removeArms_openedWith {s : State} (h : inTest s = true) (cause : RemovalCause) :
    OpenedWith (armsOpened s).exh (removeArms offerStrain cause s) := by
  have he : (armsOpened s).exh.handler = .opened := by rw [armsOpened_exh]
  rw [removeArms_inTest h]
  refine inOpenOrder_keeps (P := OpenedWith (armsOpened s).exh) _ _ (fun _ _ ht => ht)
    (fun act ha t ht => ?_) (.inl rfl)
  simp only [List.mem_cons, List.not_mem_nil, or_false] at ha
  obtain rfl | rfl := ha
  · exact offerStrain_openedWith he ht _
  · have hnoted := removalNoted_unmoved s cause t
    exact ht.of_exh hnoted.exh hnoted.tsq

/-! ## The order (R76 to R78) -/

/-- A reply to the newest order on a settled link (R157, R158). -/
theorem reply_newest {o : OrderName} {tag : Byte} {ls : List (Byte × Byte)} {u : State}
    (hs : Settled u) (hn : Newest { tag := tag, kind := orderCode o, answered := false } ls u)
    (code : ReplyCode) : ∃ os, labels os = ls ∧ reply o tag code none none u =
      answered (plainReply o tag code) { u with cpt := { u.cpt with outstanding := os } } := by
  obtain ⟨os, ho, hl⟩ := hn
  exact ⟨os, hl, answer_settled hs os _ _ ho _ _ _⟩

theorem exec_extRemove (dt : Nat) (tag : Byte) {s : State} (h : Ready s) :
    exec (.extRemove dt tag []) s = .next (reply .extRemove tag .done none none
      (requestRemoval offerStrain .order
        (joinOutstanding (orderCode .extRemove) tag (later dt s)))) :=
  congrArg Host.Outcome.next (takeOrder_ready h rfl)

/-- EXT-REMOVE from ATTACHED during a test: the splice, and what the test makes of it (R77, R78). -/
theorem extRemove_inTest (dt : Nat) (tag : Byte) {s : State} (h : Settled s)
    (hattached : s.exh.handler = .attached) (htest : inTest s = true) : ∃ t,
      reply .extRemove tag .done none none (requestRemoval offerStrain .order
        (joinOutstanding (orderCode .extRemove) tag (later dt s))) = t ∧
      ReplyFormed (plainReply .extRemove tag .done) s t ∧ OpenedWith
        { s.exh with
          handler := .opened, ox := spliceOffset s, reported := some (spliceStrain s) } t ∧
      calm t = calm (later dt s) ∧ t.lch.last = s.lch.last ∧ t.pru.latch = s.pru.latch ∧
      t.lif = s.lif := by
  let w := joinOutstanding (orderCode .extRemove) tag (later dt s)
  have hw : requestRemoval offerStrain .order w = removeArms offerStrain .order w := by
    have hstate : w.exh.handler = .attached := hattached
    rw [requestRemoval, hstate]
  have hmoves : Moves false w (removeArms offerStrain .order w) :=
    removeArms_moves w (fun st t => offerStrain_moves t st) .order
  have hother : orderCode .extRemove ≠ orderCode .tare := by decide
  obtain ⟨os, hos, hreply⟩ := reply_newest (o := .extRemove) (hmoves.settled (by exact h)).1
    (hmoves.newest hother ⟨s.cpt.outstanding, rfl, rfl⟩) .done
  have hbackbone : backbone (removeArms offerStrain .order w) = backbone w :=
    removeArms_backbone w _ _ fun st t => offerStrain_backbone t st
  have hcalm : calm (removeArms offerStrain .order w) = calm w := calm_of_backbone hbackbone
  have hload : ofLoad (removeArms offerStrain .order w) = ofLoad w := ofLoad_of_backbone hbackbone
  have hopened := removeArms_openedWith (s := w) htest .order
  rw [armsOpened_exh] at hopened
  have hreacted := removeArms_reacted w (fun st t => offerStrain_reacted t st) .order
  rw [hw]
  exact ⟨_, hreply, answered_formed _ hos, hopened, hcalm, congrArg Prod.fst hload,
    hreacted.latch, hmoves.stage.lif⟩

/-- Settles O46: the handler states that raise one occurrence, and the removal from ATTACHED. -/
theorem removeOpensArms : Obligations.RemoveOpensArms := by
  intro dt tag s hready
  have hsettled := hready.1
  have hexec := exec_extRemove dt tag hready
  have hopens : ∀ h : HandlerState, s.exh.handler = h →
      (joinOutstanding (orderCode .extRemove) tag (later dt s)).exh.handler = h := fun _ h => h
  cases hh : s.exh.handler with
  | opened =>
    rw [hexec, requestRemoval, hopens _ hh]
    exact congrArg Host.Outcome.next (reply_join (s := later dt s) hsettled .extRemove tag .done none none)
  | detached | lost =>
    rw [hexec, requestRemoval, hopens _ hh]
    exact congrArg Host.Outcome.next
      (reply_noticed (s := { later dt s with exh := { s.exh with handler := .opened } }) hsettled
        .extensometer (.ext (.removed .order)) .extRemove tag .done)
  | settling =>
    rw [hexec, requestRemoval, hopens _ hh]
    exact congrArg Host.Outcome.next
      (reply_noticed
        (s := { later dt s with exh := { s.exh with
          handler := .opened, settleAt := none, averaging := none } }) hsettled
        .extensometer (.ext (.attachFailed .removed)) .extRemove tag .done)
  | attached =>
    refine ⟨fun hout => ?_, fun htest => ?_⟩
    · rw [hexec, requestRemoval, hopens _ hh]
      dsimp only
      rw [removeArms_outside (by exact hout)]
      exact congrArg Host.Outcome.next
        (reply_noticed
          (s := { later dt s with exh := { s.exh with handler := .opened, reported := none } }) hsettled
          .extensometer (.ext (.removed .order)) .extRemove tag .done)
    · obtain ⟨t, ht, hformed, hopened, hcalm, hlast, hlatch, hlif⟩ :=
        extRemove_inTest dt tag hsettled hh htest
      simp only [calm, Prod.mk.injEq] at hcalm
      obtain ⟨-, ⟨hzeroA, hzeroB⟩, ⟨-, hdemand, -⟩, -, holn, htst, hcopies, -⟩ := hcalm
      have hparts : t.exh.handler = .opened ∧ t.exh.ox = spliceOffset s ∧
          (inTest t = true → t.exh.reported = some (spliceStrain s)) := by
        obtain he | ⟨hout, he⟩ := hopened <;> rw [he]
        · exact ⟨rfl, rfl, fun _ => rfl⟩
        · exact ⟨rfl, rfl, fun hin => by simp [hin] at hout⟩
      obtain ⟨hhandler, hox, hreported⟩ := hparts
      refine ⟨t, by rw [hexec, ht], hformed, hhandler, hox, fun hin => ?_, hzeroA, hzeroB, hdemand, hlast,
        hlatch, holn, hlif, htst, hcopies⟩
      rw [hreported hin, hox]
      rfl

end Sys2Proof.Machine
end

section
/-!
SUPPORT. Zero averaging (O21): the samples it takes, and the attach that the last one completes.
-/

namespace Sys2Proof.Machine

/-! ## The strain of the arms in use (R65) -/

/-- ε_e from the ΔL of the arms in use. -/
theorem extensometerStrain_of {x : ExtSet} {s : State} {a b : Int} (ha : deltaA x s.exh = a)
    (hb : x.twoArm = true → deltaB x s.exh = b) : extensometerStrain x s =
      clampSigned32 (roundDiv ((if x.twoArm then roundDiv (a + b) 2 else a) * 10000)
        (gaugeLength s x)) := by
  unfold extensometerStrain
  rw [ha]
  cases htwo : x.twoArm with
  | true => rw [hb htwo]
  | false => rfl

theorem heldExh_latest (armB : Bool) (count : Int) (e : Exh) :
    (heldExh armB count e).latestA.getD 0 = (if armB then e.latestA.getD 0 else count) ∧
    (heldExh armB count e).latestB.getD 0 = (if armB then count else e.latestB.getD 0) := by
  cases armB <;> exact ⟨rfl, rfl⟩

theorem heldExh_zeros (armB : Bool) (count : Int) (e : Exh) :
    (heldExh armB count e).zeroA = e.zeroA ∧ (heldExh armB count e).zeroB = e.zeroB := by
  cases armB <;> exact ⟨rfl, rfl⟩

/-- An accepted sample on its way to the owner leaves the sequencer. -/
theorem arrived_tsq (dt : Nat) (lane : Lane) (k : Fin 10) (v : Int) (s : State) :
    (withTap k v (heard dt lane s)).tsq = s.tsq := by
  unfold withTap
  split <;> rfl

theorem gaugeLength_congr {s t : State} (h : t.tsq = s.tsq) (x : ExtSet) :
    gaugeLength t x = gaugeLength s x := by
  simp only [gaugeLength, h]

/-! ## The attach that completes (R68, R69) -/

/-- The re-attach offset of an attach that completes (R69). -/
def attachOffset (x : ExtSet) (v : Averaging) (s : State) : Int :=
  if inTest s then s.xhu.strain - extensometerStrain x (setZeros x v s) else 0

/-- The strain an attach that completes publishes (R65, R69). -/
def attachStrain (x : ExtSet) (v : Averaging) (s : State) : Int :=
  clampSigned32 (extensometerStrain x (setZeros x v s) + attachOffset x v s)

theorem keepStrain_strain (st : Strain) (s : State) : (keepStrain st s).xhu.strain = st.value := by
  unfold keepStrain
  extract_lets t
  split <;> rfl

theorem attachPublished_keeps (x : ExtSet) (v : Averaging) (s : State) :
    (attachPublished x v s).exh.averaging = none ∧ (attachPublished x v s).exh.handler = .attached ∧
    (attachPublished x v s).xhu.strain = attachStrain x v s ∧
    (attachPublished x v s).exh.lastExt =
      some { strain := attachStrain x v s, force := s.lch.last.net } ∧
    (attachPublished x v s).exh.slipCount = s.exh.slipCount ∧
    (attachPublished x v s).tsq = s.tsq := by
  have hvalue : (reportedExtensometer x (attachCompleted x v s)).value = attachStrain x v s := rfl
  have haveraging : (attachCompleted x v s).exh.averaging = none := rfl
  have hattached : (attachCompleted x v s).exh.handler = .attached := rfl
  have hslips : (attachCompleted x v s).exh.slipCount = s.exh.slipCount := rfl
  have hlch : (attachCompleted x v s).lch = s.lch := rfl
  have htsq : (attachCompleted x v s).tsq = s.tsq := rfl
  simp [attachPublished, keepLastExt, keepStrain_strain, hvalue, haveraging, hattached, hslips, hlch, htsq]

/-- The zeros and the offset, which no block touches on the strain update. -/
theorem completeAttach_zeros (x : ExtSet) (v : Averaging) (s : State) :
    (completeAttach x v s).exh.zeroA = some (roundDiv v.armA.sum 16) ∧
    (completeAttach x v s).exh.zeroB =
      (if x.twoArm then some (roundDiv v.armB.sum 16) else none) ∧
    (completeAttach x v s).exh.oe = attachOffset x v s := by
  have h := completeAttach_backbone x v s
  exact ⟨congrArg (fun t => t.exh.zeroA) h, congrArg (fun t => t.exh.zeroB) h,
    congrArg (fun t => t.exh.oe) h⟩

theorem completeAttach_reacted (x : ExtSet) (v : Averaging) (s : State) :
    Reacted (attachPublished x v s) (completeAttach x v s) := by
  rw [completeAttach_eq]
  refine inOpenOrder_reacted _ _ fun act ha t => ?_
  simp only [List.mem_cons, List.not_mem_nil, or_false] at ha
  obtain rfl | rfl | rfl | rfl := ha
  · exact judgeEnd_reacted t _
  · exact evuStrain_reacted t _
  · exact judgeRemoval_reacted t false _
  · exact .of_parts (by simp) (by simp) (by simp)

/-- Out of RUNNING neither STRAIN-LEVEL nor, at this sample, RANGE-END is judged (R75, assumption 39). -/
theorem judgeRemoval_resting {s : State} (h : s.tsq.state ≠ .running) (react : Strain → State → State)
    (st : Strain) : judgeRemoval react false st s = s := by
  have hlevel : strainLevelMet st.value s = false := by simp [strainLevelMet, h]
  simp [judgeRemoval, hlevel]

/-- Out of RUNNING no block removes the arms again. -/
theorem completeAttach_attached (x : ExtSet) (v : Averaging) {s : State}
    (h : s.tsq.state ≠ .running) : (completeAttach x v s).exh.handler = .attached := by
  obtain ⟨-, hattached, -, -, -, htsq⟩ := attachPublished_keeps x v s
  have hunmoved : Unmoved (attachPublished x v s) (completeAttach x v s) := by
    rw [completeAttach_eq]
    refine inOpenOrder_keeps (P := Unmoved (attachPublished x v s)) _ _
      (fun _ _ ht => ⟨ht.tsq, ht.lch, ht.pru, ht.exh, ht.xhu⟩) (fun act ha t ht => ht.trans ?_)
      ⟨rfl, rfl, rfl, rfl, rfl⟩
    have hrun : t.tsq.state ≠ .running := by rwa [ht.tsq, htsq]
    simp only [List.mem_cons, List.not_mem_nil, or_false] at ha
    obtain rfl | rfl | rfl | rfl := ha
    · exact (judgeEnd_unmovedOrOver t _).unmoved hrun
    · exact (evuStrain_unmovedOrOver t _).unmoved hrun
    · rw [judgeRemoval_resting hrun]
      exact ⟨rfl, rfl, rfl, rfl, rfl⟩
    · exact ⟨by simp, by simp, by simp, by simp, by simp⟩
  rw [hunmoved.exh, hattached]

/-- A completed attach (R68, R69). -/
structure Attached (x : ExtSet) (v : Averaging) (s t : State) : Prop where
  averaging : t.exh.averaging = none
  zeroA : t.exh.zeroA = some (roundDiv v.armA.sum 16)
  zeroB : t.exh.zeroB = if x.twoArm then some (roundDiv v.armB.sum 16) else none
  handler : s.tsq.state ≠ .running → t.exh.handler = .attached
  offset : t.exh.oe = attachOffset x v s
  strain : t.xhu.strain = attachStrain x v s
  record : t.exh.lastExt = some { strain := attachStrain x v s, force := s.lch.last.net }
  slips : t.exh.slipCount = s.exh.slipCount

theorem completeAttach_leaves (x : ExtSet) (v : Averaging) (s : State) :
    Attached x v s (completeAttach x v s) := by
  obtain ⟨haveraging, -, hstrain, hrecord, hslips, -⟩ := attachPublished_keeps x v s
  obtain ⟨hzeroA, hzeroB, hoffset⟩ := completeAttach_zeros x v s
  have hreacted := completeAttach_reacted x v s
  have hrange : InRange32 (attachPublished x v s).xhu.strain := by
    rw [hstrain]
    exact inRange32_clampSigned32 _
  exact ⟨hreacted.averaging haveraging, hzeroA, hzeroB, completeAttach_attached x v, hoffset,
    (hreacted.strain hrange).trans hstrain, hreacted.record.trans hrecord,
    hreacted.slips.trans hslips⟩

/-! ## A sample of zero averaging (R68) -/

theorem addToAveraging_eq (armB : Bool) (count : Int) (v : Averaging) :
    addToAveraging armB count v =
      { armA := if armB then v.armA else addToArm count v.armA
        armB := if armB then addToArm count v.armB else v.armB
        openedAt := v.openedAt } := by
  cases armB <;> rfl

theorem averagingComplete_iff (x : ExtSet) (v : Averaging) : averagingComplete x v = true ↔
    16 ≤ v.armA.count ∧ (x.twoArm = true → 16 ≤ v.armB.count) := by
  cases htwo : x.twoArm <;> simp [averagingComplete, htwo]

/-- ε_e with the zeros of a completed averaging, the last sample being of an arm in use (R65, R68). -/
theorem extensometerStrain_setZeros (x : ExtSet) (v : Averaging) (armB : Bool) (count : Int)
    (s : State) : extensometerStrain x (setZeros x v (holdArm armB count s)) =
      clampSigned32 (roundDiv ((if x.twoArm then
          roundDiv (armDelta (if armB then s.exh.latestA.getD 0 else count)
              (roundDiv v.armA.sum 16) x.scaleA +
            armDelta (if armB then count else s.exh.latestB.getD 0) (roundDiv v.armB.sum 16) x.scaleB) 2
        else armDelta (if armB then s.exh.latestA.getD 0 else count)
          (roundDiv v.armA.sum 16) x.scaleA) * 10000) (gaugeLength s x)) := by
  obtain ⟨hlatestA, hlatestB⟩ := heldExh_latest armB count s.exh
  rw [holdArm_eq, ← hlatestA, ← hlatestB]
  refine extensometerStrain_of rfl fun htwo => ?_
  simp [deltaB, setZeros, htwo]

/-- Settles O21: a sample is summed, or completes the averaging, and then the attach. -/
theorem averagingTakesSamples : Obligations.AveragingTakesSamples := by
  intro dt lane rx f armB x v s hsteered hx hu hsettling hv add a b fallA fallB length measured offset
    strain
  let u := withTap (routeKey lane f.sub) f.value (heard dt lane s)
  let w := holdArm armB f.value u
  let next : Averaging := { armA := a, armB := b, openedAt := v.openedAt }
  obtain ⟨hxhu, hexh, -⟩ := arrived_leaves dt lane (routeKey lane f.sub) f.value s
  obtain ⟨-, hlch, -⟩ := arrived_keeps dt lane (routeKey lane f.sub) f.value s
  have htsq : u.tsq = s.tsq := arrived_tsq dt lane (routeKey lane f.sub) f.value s
  have hw : w = { u with exh := heldExh armB f.value s.exh } := by
    rw [← hexh]
    exact holdArm_eq armB f.value u
  have hzeros := heldExh_zeros armB f.value s.exh
  have hsample : armSample armB f u =
      if averagingComplete x next then completeAttach x next w
      else w.setExh { w.exh with averaging := some next } := by
    rw [armSample_averages f (by rw [hexh]; exact hx) hu (by rw [hexh]; exact hsettling)
      (by rw [hexh]; exact hv)]
    unfold averageArm
    rw [addToAveraging_eq]
    rfl
  have htest : inTest w = inTest s := by
    rw [hw]
    exact inTest_congr (congrArg Tsq.state htsq)
  have hmeasured : extensometerStrain x (setZeros x next w) = measured := by
    rw [extensometerStrain_setZeros, gaugeLength_congr htsq, hexh]
    rfl
  have hoffset : attachOffset x next w = offset := by
    unfold attachOffset
    rw [htest, hmeasured, hw, hxhu]
  have hstrain : attachStrain x next w = strain := by
    unfold attachStrain
    rw [hmeasured, hoffset]
  refine ⟨_, exec_sample_arm hsteered, ?_⟩
  rw [hsample]
  have hcomplete := averagingComplete_iff x next
  by_cases hdone : averagingComplete x next = true
  · rw [if_pos hdone, if_pos (hcomplete.1 hdone)]
    obtain ⟨haveraging, hzeroA, hzeroB, hhandler, hoe, hlatest, hrecord, hslips⟩ :=
      completeAttach_leaves x next w
    have hslipsHeld : w.exh.slipCount = s.exh.slipCount := by rw [hw]; cases armB <;> rfl
    refine ⟨haveraging, hzeroA, hzeroB, fun hrun => hhandler ?_, hoe.trans hoffset,
      hlatest.trans hstrain, ?_, hslips.trans hslipsHeld⟩
    · rw [hw]
      exact htsq ▸ hrun
    · rw [hrecord, hstrain, hw, hlch]
  · rw [if_neg hdone, if_neg (mt hcomplete.2 hdone)]
    have hsettlingHeld : w.exh.handler = .settling := by
      rw [hw, ← hsettling]
      cases armB <;> rfl
    refine ⟨hsettlingHeld, ?_, ?_, rfl⟩
    · rw [hw]; exact hzeros.1
    · rw [hw]; exact hzeros.2

end Sys2Proof.Machine
end

section
/-!
SUPPORT. An arm sample in ATTACHED (O13): slip, removal and the sequencer on its strain update, in any order.
-/

namespace Sys2Proof.Machine

/-! ## Slip and STRAIN-LEVEL (R75, R80) -/

/-- The slip condition of R80 on an extensometer strain. -/
def SlipMet (x : ExtSet) (v : Int) (s : State) : Prop :=
  s.tsq.state = .running ∧ x.slipStep ≠ 0 ∧
    ∃ r, s.exh.lastExt = some r ∧ x.slipStep < r.strain - v ∧ r.force ≤ s.lch.last.net

/-- The slip count after an update, which a slip counts up to 255 (R80). -/
def SlipsCounted (x : ExtSet) (v : Int) (s : State) (n : Nat) : Prop :=
  (SlipMet x v s ∧ s.exh.slipCount < 255 → n = s.exh.slipCount + 1) ∧
    (¬ (SlipMet x v s ∧ s.exh.slipCount < 255) → n = s.exh.slipCount)

/-- On a slip an occurrence is raised and the count goes up; the record is replaced in any case. -/
theorem judgeSlip_cases (x : ExtSet) (v : Int) (s : State) :
    SlipMet x v s ∧ (∃ d, judgeSlip x v s = keepLastExt v (raiseExt d (s.setExh { s.exh with
      slipCount := if s.exh.slipCount < 255 then s.exh.slipCount + 1 else s.exh.slipCount }))) ∨
    ¬ SlipMet x v s ∧ judgeSlip x v s = keepLastExt v s := by
  unfold judgeSlip SlipMet
  split
  · rename_i r hr
    split
    · rename_i hmet
      simp only [Bool.and_eq_true, decide_eq_true_eq] at hmet
      obtain ⟨⟨⟨hrun, hstep⟩, hfall⟩, hforce⟩ := hmet
      exact .inl ⟨⟨hrun, hstep, r, hr, hfall, hforce⟩, _, rfl⟩
    · rename_i hmet
      simp only [Bool.and_eq_true, decide_eq_true_eq, not_and] at hmet
      refine .inr ⟨?_, rfl⟩
      rintro ⟨hrun, hstep, _, hr', hfall, hforce⟩
      cases hr.symm.trans hr'
      exact hmet ⟨⟨hrun, hstep⟩, hfall⟩ hforce
  · rename_i hnone
    exact .inr ⟨by simp [hnone], rfl⟩

/-- What the judgement of slip leaves: only the slip data of the handler move. -/
theorem judgeSlip_keeps (x : ExtSet) (v : Int) (s : State) :
    (judgeSlip x v s).tsq = s.tsq ∧ (judgeSlip x v s).lch = s.lch ∧ (judgeSlip x v s).pru = s.pru ∧
    (judgeSlip x v s).xhu = s.xhu ∧ ∃ n, SlipsCounted x v s n ∧ (judgeSlip x v s).exh =
      { s.exh with lastExt := some { strain := v, force := s.lch.last.net }, slipCount := n } := by
  obtain ⟨hmet, d, h⟩ | ⟨hnot, h⟩ := judgeSlip_cases x v s <;> rw [h]
  · refine ⟨by simp [keepLastExt], by simp [keepLastExt], by simp [keepLastExt],
      by simp [keepLastExt],
      if s.exh.slipCount < 255 then s.exh.slipCount + 1 else s.exh.slipCount, ⟨?_, ?_⟩,
      by simp [keepLastExt]⟩
    · exact fun hcount => if_pos hcount.2
    · exact fun hcount => if_neg fun hlt => hcount ⟨hmet, hlt⟩
  · exact ⟨rfl, rfl, rfl, rfl, s.exh.slipCount, ⟨fun hcount => absurd hcount.1 hnot, fun _ => rfl⟩,
      rfl⟩

theorem strainLevelMet_iff (v : Int) (s : State) : strainLevelMet v s = true ↔
    s.tsq.state = .running ∧ ∃ r, s.tsq.specimen = some r ∧
      ∃ level, r.removalStrain = some level ∧ level ≤ v := by
  cases hr : s.tsq.specimen with
  | none => simp [strainLevelMet, hr]
  | some r => cases hl : r.removalStrain <;> simp [strainLevelMet, hr, hl]

/-- The first of STRAIN-LEVEL and RANGE-END that is met removes ATTACHED arms; else they stay (R75). -/
theorem judgeRemoval_cases {s : State} (react : Strain → State → State) (rangeEnd : Bool) (st : Strain)
    (h : s.exh.handler = .attached) :
    (strainLevelMet st.value s = true ∨ rangeEnd = true) ∧
      (∃ cause, judgeRemoval react rangeEnd st s = removeArms react cause s) ∨
    ¬ (strainLevelMet st.value s = true ∨ rangeEnd = true) ∧ judgeRemoval react rangeEnd st s = s := by
  unfold judgeRemoval
  rw [if_neg (by simp [h])]
  split
  · rename_i hlevel
    exact .inl ⟨.inl hlevel, _, rfl⟩
  · rename_i hlevel
    split
    · rename_i hrange
      exact .inl ⟨.inr hrange, _, rfl⟩
    · rename_i hrange
      exact .inr ⟨not_or.2 ⟨hlevel, hrange⟩, rfl⟩

/-! ## The handler on the update (R72, R75, R77, R80) -/

/-- What an extensometer strain update leaves where no phase ends on it, `s` being the state it is published
in: the slip data, and a handler that stays ATTACHED or is removed (R75, R77, R80). -/
structure Judged (x : ExtSet) (rangeEnd : Bool) (st : Strain) (s t : State) : Prop where
  tsq : t.tsq = s.tsq
  lch : t.lch = s.lch
  pru : t.pru = s.pru
  record : t.exh.lastExt = some { strain := st.value, force := s.lch.last.net }
  slips : SlipsCounted x st.value s t.exh.slipCount
  kept : ¬ (strainLevelMet st.value s = true ∨ rangeEnd = true) →
    t.exh.handler = .attached ∧ t.exh.reported = some st
  removed : strainLevelMet st.value s = true ∨ rangeEnd = true → t.exh.handler = .opened ∧
    (inTest s = true → t.exh.reported = some { value := st.value, source := .crosshead } ∧
      t.exh.ox = st.value - rawCrossheadStrain s s.xhu.pos) ∧
    (inTest s = false → t.exh.reported = none)

theorem Judged.later {x : ExtSet} {rangeEnd : Bool} {st : Strain} {s t u : State}
    (h : Judged x rangeEnd st s t) (h' : Unmoved t u) : Judged x rangeEnd st s u := by
  obtain ⟨htsq, hlch, hpru, hrecord, hslips, hkept, hremoved⟩ := h
  rw [← h'.exh] at hrecord hslips hkept hremoved
  exact ⟨h'.tsq.trans htsq, h'.lch.trans hlch, h'.pru.trans hpru, hrecord, hslips, hkept, hremoved⟩

theorem Judged.of_unmoved {x : ExtSet} {rangeEnd : Bool} {st : Strain} {s t u : State}
    (h : Judged x rangeEnd st t u) (h' : Unmoved s t) : Judged x rangeEnd st s u := by
  obtain ⟨htsq, hlch, hpru, hrecord, hslips, hkept, hremoved⟩ := h
  simp only [SlipsCounted, SlipMet, strainLevelMet, inTest, rawCrossheadStrain, h'.tsq, h'.lch, h'.exh,
    h'.xhu] at hrecord hslips hkept hremoved
  exact ⟨htsq.trans h'.tsq, hlch.trans h'.lch, hpru.trans h'.pru, hrecord, hslips, hkept, hremoved⟩

/-- An update as it is published while ATTACHED: reported, kept by the Crosshead Unit, within 32 bits (R72). -/
structure Published (x : ExtSet) (st : Strain) (s : State) : Prop where
  extset : s.exh.extset = some x
  attached : s.exh.handler = .attached
  reported : s.exh.reported = some st
  strain : s.xhu.strain = st.value
  range : InRange32 st.value

theorem Published.of_unmoved {x : ExtSet} {st : Strain} {s t : State} (h : Published x st s)
    (h' : Unmoved s t) : Published x st t := by
  obtain ⟨hx, hattached, hreported, hstrain, hrange⟩ := h
  rw [← h'.exh] at hx hattached hreported
  rw [← h'.xhu] at hstrain
  exact ⟨hx, hattached, hreported, hstrain, hrange⟩

theorem exhStrain_attached {x : ExtSet} {s : State} (react : Strain → State → State) (rangeEnd : Bool)
    (st : Strain) (hx : s.exh.extset = some x) (h : s.exh.handler = .attached) :
    exhStrain react rangeEnd st s = judgeRemoval react rangeEnd st (judgeSlip x st.value s) := by
  simp [exhStrain, hx, h]

/-- The handler's own act on the update (R75, R77, R80). -/
theorem exhStrain_judged {x : ExtSet} {st : Strain} {s : State} (h : Published x st s)
    (rangeEnd : Bool) : PhaseOver s (exhStrain offerStrain rangeEnd st s) ∨
      Judged x rangeEnd st s (exhStrain offerStrain rangeEnd st s) := by
  obtain ⟨hx, hattached, hreported, hstrain, hrange⟩ := h
  obtain ⟨htsq, hlch, hpru, hxhu, n, hslips, hexh⟩ := judgeSlip_keeps x st.value s
  rw [exhStrain_attached _ _ _ hx hattached]
  generalize judgeSlip x st.value s = y at htsq hlch hpru hxhu hexh
  have hlevel : strainLevelMet st.value y = strainLevelMet st.value s := by
    simp only [strainLevelMet, htsq]
  have htest : inTest y = inTest s := inTest_congr (congrArg Tsq.state htsq)
  have hstrainY : y.xhu.strain = st.value := by rw [hxhu, hstrain]
  have hoffset : spliceOffset y = st.value - rawCrossheadStrain s s.xhu.pos := by
    simp only [spliceOffset, rawCrossheadStrain, htsq, hxhu, hexh, hstrain]
  have hattachedY : y.exh.handler = .attached := by rw [hexh, hattached]
  obtain ⟨hmet, cause, he⟩ | ⟨hnot, he⟩ := judgeRemoval_cases offerStrain rangeEnd st hattachedY <;>
    rw [he]
  · rw [hlevel] at hmet
    cases hin : inTest s with
    | true =>
      obtain ⟨hopenTsq, hopenLch, hopenPru, -⟩ := armsOpened_keeps y
      have hspliced : (spliceStrain y) = { value := st.value, source := .crosshead } := by
        have hvalue := spliceStrain_value (s := y) (by rw [hstrainY]; exact hrange)
        rw [← hstrainY, ← hvalue]
        rfl
      have hopen := armsOpened_exh y
      rw [hexh, hoffset, hspliced] at hopen
      refine (removeArms_unmovedOrOver (htest.trans hin) cause).imp
        (fun o => o.of_tsq (hopenTsq.trans htsq)) fun hu => ?_
      rw [← hu.exh] at hopen
      refine ⟨hu.tsq.trans (hopenTsq.trans htsq), hu.lch.trans (hopenLch.trans hlch),
        hu.pru.trans (hopenPru.trans hpru), by rw [hopen], by rw [hopen]; exact hslips,
        fun hkept => absurd hmet hkept, fun _ => ?_⟩
      rw [hopen]
      exact ⟨rfl, fun _ => ⟨rfl, rfl⟩, fun hout => by simp [hin] at hout⟩
    | false =>
      rw [removeArms_outside (htest.trans hin)]
      refine .inr ⟨by simp [htsq], by simp [hlch], by simp [hpru], by simp [hexh],
        by simpa [hexh] using hslips, fun hkept => absurd hmet hkept, fun _ => ?_⟩
      exact ⟨by simp, fun hon => by simp [hin] at hon, fun _ => by simp⟩
  · rw [hlevel] at hnot
    refine .inr ⟨htsq, hlch, hpru, by rw [hexh], by rw [hexh]; exact hslips, fun _ => ?_,
      fun hmet => absurd hmet hnot⟩
    rw [hexh]
    exact ⟨hattached, hreported⟩

/-! ## The blocks in an open order (R72) -/

theorem removeArms_over (cause : RemovalCause) (s : State) :
    PhaseOver s (removeArms offerStrain cause s) ∨ (removeArms offerStrain cause s).tsq = s.tsq := by
  cases h : inTest s with
  | true =>
    obtain ⟨htsq, -⟩ := armsOpened_keeps s
    exact (removeArms_unmovedOrOver h cause).imp (fun o => o.of_tsq htsq) fun hu => hu.tsq.trans htsq
  | false => exact .inr (by simp [removeArms_outside h])

theorem judgeRemoval_over (rangeEnd : Bool) (st : Strain) (s : State) :
    PhaseOver s (judgeRemoval offerStrain rangeEnd st s) ∨
      (judgeRemoval offerStrain rangeEnd st s).tsq = s.tsq := by
  unfold judgeRemoval
  split
  · exact .inr rfl
  · split
    · exact removeArms_over _ s
    · split
      · exact removeArms_over _ s
      · exact .inr rfl

/-- Whatever the handler finds, it leaves the sequencer or its removal ends the phase. -/
theorem exhStrain_over (rangeEnd : Bool) (st : Strain) (s : State) :
    PhaseOver s (exhStrain offerStrain rangeEnd st s) ∨
      (exhStrain offerStrain rangeEnd st s).tsq = s.tsq := by
  unfold exhStrain
  split
  · exact .inr rfl
  · rename_i x _
    split
    · exact .inr rfl
    · obtain ⟨htsq, -⟩ := judgeSlip_keeps x st.value s
      exact (judgeRemoval_over rangeEnd st _).imp (fun o => o.of_tsq htsq) fun h => h.trans htsq

theorem strainActs_over {rangeEnd : Bool} {st : Strain} {act : State → State}
    (h : act ∈ [tsqStrain st, evuStrain st, exhStrain offerStrain rangeEnd st]) (t : State) :
    PhaseOver t (act t) ∨ (act t).tsq = t.tsq := by
  simp only [List.mem_cons, List.not_mem_nil, or_false] at h
  obtain rfl | rfl | rfl := h
  · exact (judgeEnd_unmovedOrOver t _).imp_right Unmoved.tsq
  · exact (evuStrain_unmovedOrOver t st).imp_right Unmoved.tsq
  · exact exhStrain_over rangeEnd st t

/-- In whatever order the blocks take the update, a phase ends on it, or the handler alone has judged it. -/
theorem publishExt_judged {x : ExtSet} {st : Strain} {s : State} (h : Published x st (keepStrain st s))
    (rangeEnd : Bool) : PhaseOver (keepStrain st s) (publishExt rangeEnd st s) ∨
      Judged x rangeEnd st (keepStrain st s) (publishExt rangeEnd st s) := by
  have hothers : ∀ act ∈ [tsqStrain st, evuStrain st] ++ [], ∀ t, UnmovedOrOver t (act t) := by
    intro act ha t
    simp only [List.append_nil, List.mem_cons, List.not_mem_nil, or_false] at ha
    obtain rfl | rfl := ha
    · exact judgeEnd_unmovedOrOver t _
    · exact evuStrain_unmovedOrOver t st
  unfold publishExt
  generalize keepStrain st s = w at h
  refine inOpenOrder_through (P := UnmovedOrOver w) (Q := fun t => PhaseOver w t ∨ Judged x rangeEnd st w t)
    (l₁ := [tsqStrain st, evuStrain st]) (l₂ := [])
    (fun t n ht => ht.trans (.inr ⟨rfl, rfl, rfl, rfl, rfl⟩))
    (fun act ha t ht => ht.trans (hothers act ha t)) (fun t ht => ?_) (fun act ha t ht => ?_) (.refl w)
  · obtain hover | hu := ht
    · exact .inl (hover.later (exhStrain_over rangeEnd st t))
    · exact (exhStrain_judged (h.of_unmoved hu) rangeEnd).imp (fun o => o.of_tsq hu.tsq)
        fun hj => hj.of_unmoved hu
  · obtain hover | hj := ht
    · exact .inl (hover.later ((hothers act ha t).imp_right Unmoved.tsq))
    · exact (hothers act ha t).imp (fun o => o.of_tsq hj.tsq) hj.later

/-- A condition that is met ends the phase (R92, R94). -/
theorem judgeEnd_met {met : EndKind → Int → Bool} {k : Nat} {p : Phase} {s : State}
    (hrun : s.tsq.state = .running) (hk : s.tsq.phase = some k) (hp : phaseAt s k = some p)
    (hmet : met p.end1 p.threshold1 = true ∨
      (p.end2.map fun e => met e p.threshold2).getD false = true) :
    judgeEnd met s = endPhase k p s := by
  have hphase : currentPhase s = some p := by simp only [currentPhase, hk, hp]
  have hany : (met p.end1 p.threshold1 || (p.end2.map fun e => met e p.threshold2).getD false) = true := by
    simpa using hmet
  simp only [judgeEnd, hk, hphase, hrun, hany]
  rfl

/-- A STRAIN-AT-LEAST condition the strain meets ends the phase, before or after the other blocks act (R92). -/
theorem publishExt_over {k : Nat} {p : Phase} {st : Strain} {s : State}
    (hrun : s.tsq.state = .running) (hk : s.tsq.phase = some k) (hp : phaseAt s k = some p)
    (hmet : p.end1 = .strainAtLeast ∧ p.threshold1 ≤ st.value ∨
      p.end2 = some .strainAtLeast ∧ p.threshold2 ≤ st.value) (rangeEnd : Bool) :
    PhaseOver s (publishExt rangeEnd st s) := by
  have hkept : (keepStrain st s).tsq = s.tsq := by simp
  refine inOpenOrder_reaches (P := fun t => PhaseOver s t ∨ t.tsq = s.tsq) (Q := PhaseOver s)
    (a := tsqStrain st) (by simp) (fun t n ht => ht) (fun act ha t ht => ?_) (fun t ht => ?_)
    (fun act ha t ht => ht.later (strainActs_over ha t)) (.inr hkept)
  · obtain hover | he := ht
    · exact .inl (hover.later (strainActs_over ha t))
    · exact (strainActs_over ha t).imp (fun o => o.of_tsq he) fun h => h.trans he
  · obtain hover | he := ht
    · exact hover.later ((judgeEnd_unmovedOrOver t _).imp_right Unmoved.tsq)
    · have hphase : phaseAt t k = some p := by
        rw [← hp]
        simp only [phaseAt, armedProgram, he]
      have hcondition : metByStrain st.value p.end1 p.threshold1 = true ∨
          (p.end2.map fun e => metByStrain st.value e p.threshold2).getD false = true := by
        obtain ⟨hend, hlevel⟩ | ⟨hend, hlevel⟩ := hmet
        · exact .inl (by simp [hend, metByStrain, hlevel])
        · exact .inr (by simp [hend, metByStrain, hlevel])
      rw [tsqStrain, judgeEnd_met (by rw [he]; exact hrun) (by rw [he]; exact hk) hphase hcondition]
      exact (endPhase_over p (by rw [he]; exact hrun) (by rw [he]; exact hk)).of_tsq he

/-- The latch and the latest strain through the handler's act. -/
theorem exhStrain_latch (rangeEnd : Bool) (st : Strain) (s : State) :
    (exhStrain offerStrain rangeEnd st s).pru.latch = s.pru.latch ∧
      (InRange32 s.xhu.strain → (exhStrain offerStrain rangeEnd st s).xhu.strain = s.xhu.strain) := by
  unfold exhStrain
  split
  · exact ⟨rfl, fun _ => rfl⟩
  · rename_i x _
    split
    · exact ⟨rfl, fun _ => rfl⟩
    · obtain ⟨-, -, hpru, hxhu, -⟩ := judgeSlip_keeps x st.value s
      have h := judgeRemoval_reacted (judgeSlip x st.value s) rangeEnd st
      have hstrain := h.strain
      rw [hxhu] at hstrain
      exact ⟨h.latch.trans (by rw [hpru]), hstrain⟩

/-- No block trips on the update, and every splice publishes the strain anew. -/
theorem publishExt_latch {st : Strain} (hrange : InRange32 st.value) (rangeEnd : Bool) (s : State) :
    (publishExt rangeEnd st s).pru.latch = s.pru.latch ∧
      (publishExt rangeEnd st s).xhu.strain = st.value := by
  refine inOpenOrder_keeps (P := fun t => t.pru.latch = s.pru.latch ∧ t.xhu.strain = st.value) _ _
    (fun _ _ ht => ht) (fun act ha t ht => ?_) ⟨by simp, keepStrain_strain st s⟩
  obtain ⟨hlatch, hstrain⟩ := ht
  have hin : InRange32 t.xhu.strain := by rwa [hstrain]
  simp only [List.mem_cons, List.not_mem_nil, or_false] at ha
  obtain rfl | rfl | rfl := ha
  · have h := judgeEnd_reacted t (metByStrain st.value)
    exact ⟨h.latch.trans hlatch, (h.strain hin).trans hstrain⟩
  · have h := evuStrain_reacted t st
    exact ⟨h.latch.trans hlatch, (h.strain hin).trans hstrain⟩
  · obtain ⟨hl, hs⟩ := exhStrain_latch rangeEnd st t
    exact ⟨hl.trans hlatch, (hs hin).trans hstrain⟩

end Sys2Proof.Machine
end

section
/-!
SUPPORT. An arm sample in ATTACHED (O13), from the lane to its strain update.
-/

namespace Sys2Proof.Machine

/-! ## The sample before its update is taken (R64, R65) -/

/-- A steered sample of arm A or B, held and with the ΔL values computed anew (R64, R65). -/
def armMeasured (dt : Nat) (lane : Lane) (f : SampleFrame) (armB : Bool) (x : ExtSet) (s : State) : State :=
  holdDeltas x (holdArm armB f.value (withTap (routeKey lane f.sub) f.value (heard dt lane s)))

/-- ΔL of arm A on a sample (R65). -/
def fallOfA (f : SampleFrame) (armB : Bool) (x : ExtSet) (s : State) : Int :=
  roundDiv (((if armB then s.exh.latestA.getD 0 else f.value) - s.exh.zeroA.getD 0) * x.scaleA) 1024

/-- ΔL of arm B on a sample (R65). -/
def fallOfB (f : SampleFrame) (armB : Bool) (x : ExtSet) (s : State) : Int :=
  roundDiv (((if armB then f.value else s.exh.latestB.getD 0) - s.exh.zeroB.getD 0) * x.scaleB) 1024

/-- The extensometer strain of a sample (R65). -/
def strainOfSample (f : SampleFrame) (armB : Bool) (x : ExtSet) (s : State) : Int :=
  clampSigned32 (clampSigned32 (roundDiv
    ((if x.twoArm then roundDiv (fallOfA f armB x s + fallOfB f armB x s) 2
      else fallOfA f armB x s) * 10000) (gaugeLength s x)) + s.exh.oe)

section measured

variable (dt : Nat) (lane : Lane) (f : SampleFrame) (armB : Bool) (x : ExtSet) (s : State)

theorem armMeasured_keeps : (armMeasured dt lane f armB x s).tsq = s.tsq ∧
    (armMeasured dt lane f armB x s).lch = s.lch ∧ (armMeasured dt lane f armB x s).pru = s.pru ∧
    (armMeasured dt lane f armB x s).xhu = s.xhu ∧ (armMeasured dt lane f armB x s).oln = s.oln ∧
    (armMeasured dt lane f armB x s).tst = s.tst ∧
    workingCopies (armMeasured dt lane f armB x s) = workingCopies s := by
  obtain ⟨hxhu, hexh, hpru, holn, htst, hcopies⟩ :=
    arrived_leaves dt lane (routeKey lane f.sub) f.value s
  obtain ⟨-, hlch, -⟩ := arrived_keeps dt lane (routeKey lane f.sub) f.value s
  have htsq := arrived_tsq dt lane (routeKey lane f.sub) f.value s
  unfold armMeasured
  rw [holdArm_eq]
  refine ⟨htsq, hlch, hpru, hxhu, holn, htst, hcopies.symm ▸ ?_⟩
  cases armB <;> rfl

theorem armMeasured_exh : (armMeasured dt lane f armB x s).exh = { heldExh armB f.value s.exh with
    deltaA := some (fallOfA f armB x s)
    deltaB := if x.twoArm then some (fallOfB f armB x s) else s.exh.deltaB } := by
  obtain ⟨-, hexh, -⟩ := arrived_leaves dt lane (routeKey lane f.sub) f.value s
  unfold armMeasured
  rw [holdArm_eq, hexh]
  cases armB <;> rfl

theorem reportedExtensometer_armMeasured :
    reportedExtensometer x (armMeasured dt lane f armB x s) =
      { value := strainOfSample f armB x s, source := .ext } := by
  obtain ⟨htsq, -⟩ := armMeasured_keeps dt lane f armB x s
  have hexh := armMeasured_exh dt lane f armB x s
  have hA : deltaA x (armMeasured dt lane f armB x s).exh = fallOfA f armB x s := by
    rw [hexh]
    cases armB <;> rfl
  have hB : deltaB x (armMeasured dt lane f armB x s).exh = fallOfB f armB x s := by
    rw [hexh]
    cases armB <;> rfl
  have hoe : (armMeasured dt lane f armB x s).exh.oe = s.exh.oe := by
    rw [hexh]
    cases armB <;> rfl
  unfold reportedExtensometer strainOfSample
  rw [extensometerStrain_of hA fun _ => hB, gaugeLength_congr htsq, hoe]

theorem rangeEndMet_armMeasured : rangeEndMet x armB (armMeasured dt lane f armB x s) = true ↔
    x.rangeEnd ≤ (if armB then fallOfB f armB x s else fallOfA f armB x s).natAbs := by
  unfold rangeEndMet
  rw [armMeasured_exh]
  cases armB <;> exact decide_eq_true_iff

end measured

theorem PhaseOver.of_phase {s t : State} {k : Nat} (h : PhaseOver s t) (hk : s.tsq.phase = some k) :
    t.tsq.state = .ended ∨ ∃ n, k < n ∧ t.tsq.phase = some n := by
  obtain ⟨-, j, hj, hover⟩ := h
  cases hj.symm.trans hk
  exact hover

theorem PhaseOver.phase_ne {s t : State} (h : PhaseOver s t) (hstate : t.tsq.state = s.tsq.state) :
    t.tsq.phase ≠ s.tsq.phase := by
  obtain ⟨hrun, k, hk, hended | ⟨n, hn, hphase⟩⟩ := h
  · cases hended.symm.trans (hstate.trans hrun)
  · rw [hk, hphase]
    exact fun he => absurd (Option.some.inj he) hn.ne'

theorem keepStrain_exh (st : Strain) (s : State) :
    (keepStrain st s).exh = { s.exh with reported := some st } := by
  unfold keepStrain
  extract_lets t
  split <;> rfl

/-- The sample's strain as it is published: what the judgements on it read of the state before (R72). -/
theorem armMeasured_published {dt : Nat} {lane : Lane} {f : SampleFrame} {armB : Bool} {x : ExtSet}
    {s : State} (hx : s.exh.extset = some x) (hattached : s.exh.handler = .attached) :
    let w := keepStrain { value := strainOfSample f armB x s, source := .ext }
      (armMeasured dt lane f armB x s)
    Published x { value := strainOfSample f armB x s, source := .ext } w ∧ w.tsq = s.tsq ∧
      w.lch = s.lch ∧ w.pru = s.pru ∧ w.exh.lastExt = s.exh.lastExt ∧
      w.exh.slipCount = s.exh.slipCount ∧
      rawCrossheadStrain w w.xhu.pos = rawCrossheadStrain s s.xhu.pos := by
  intro w
  obtain ⟨htsq, hlch, hpru, hxhu, -⟩ := armMeasured_keeps dt lane f armB x s
  have hexh : w.exh = { heldExh armB f.value s.exh with
      deltaA := some (fallOfA f armB x s)
      deltaB := if x.twoArm then some (fallOfB f armB x s) else s.exh.deltaB
      reported := some { value := strainOfSample f armB x s, source := .ext } } :=
    (keepStrain_exh _ _).trans (by rw [armMeasured_exh])
  have hheld : (heldExh armB f.value s.exh).handler = s.exh.handler ∧
      (heldExh armB f.value s.exh).extset = s.exh.extset ∧
      (heldExh armB f.value s.exh).lastExt = s.exh.lastExt ∧
      (heldExh armB f.value s.exh).slipCount = s.exh.slipCount ∧
      (heldExh armB f.value s.exh).pRef = s.exh.pRef := by
    cases armB <;> exact ⟨rfl, rfl, rfl, rfl, rfl⟩
  obtain ⟨hhandler, hextset, hrecord, hslips, hpRef⟩ := hheld
  have hstate : w.tsq = s.tsq := by simp [w, htsq]
  have hpos : w.xhu.pos = s.xhu.pos := by simp [w, hxhu]
  refine ⟨⟨?_, ?_, ?_, keepStrain_strain _ _, inRange32_clampSigned32 _⟩, hstate, by simp [w, hlch],
    by simp [w, hpru], by rw [hexh]; exact hrecord, by rw [hexh]; exact hslips, ?_⟩
  · rw [hexh]
    exact hextset.trans hx
  · rw [hexh]
    exact hhandler.trans hattached
  · rw [hexh]
  · simp only [rawCrossheadStrain, hstate, hpos, hexh, hpRef]

/-! ## What the update leaves -/

/-- What every ATTACHED arm sample leaves, a phase ending on it or not (R65, R72). -/
theorem publishExt_armMeasured (dt : Nat) (lane : Lane) (f : SampleFrame) (armB : Bool) (x : ExtSet)
    (rangeEnd : Bool) (s : State) :
    let t := publishExt rangeEnd { value := strainOfSample f armB x s, source := .ext }
      (armMeasured dt lane f armB x s)
    t.exh.deltaA = some (fallOfA f armB x s) ∧
      (x.twoArm = true → t.exh.deltaB = some (fallOfB f armB x s)) ∧
      t.xhu.strain = strainOfSample f armB x s ∧ t.exh.zeroA = s.exh.zeroA ∧
      t.exh.zeroB = s.exh.zeroB ∧ t.lch.last = s.lch.last ∧ t.xhu.demand = s.xhu.demand ∧
      t.pru.latch = s.pru.latch ∧ t.oln = s.oln ∧ t.tst = s.tst ∧
      workingCopies t = workingCopies s := by
  intro t
  obtain ⟨-, hlch, hpru, hxhu, holn, htst, hcopies⟩ := armMeasured_keeps dt lane f armB x s
  have hexh := armMeasured_exh dt lane f armB x s
  have hzeros := heldExh_zeros armB f.value s.exh
  have hbackbone : backbone t = backbone (armMeasured dt lane f armB x s) := publishExt_backbone _ _ _
  have hcalm : calm t = calm (armMeasured dt lane f armB x s) := calm_of_backbone hbackbone
  simp only [calm, Prod.mk.injEq] at hcalm
  obtain ⟨-, ⟨hzeroA, hzeroB⟩, ⟨-, hdemand, -⟩, -, holnT, htstT, hcopiesT, -⟩ := hcalm
  have hdeltaA : t.exh.deltaA = (armMeasured dt lane f armB x s).exh.deltaA :=
    congrArg (fun u => u.exh.deltaA) hbackbone
  have hdeltaB : t.exh.deltaB = (armMeasured dt lane f armB x s).exh.deltaB :=
    congrArg (fun u => u.exh.deltaB) hbackbone
  have hload : ofLoad t = ofLoad (armMeasured dt lane f armB x s) := ofLoad_of_backbone hbackbone
  have hlast : t.lch.last = (armMeasured dt lane f armB x s).lch.last := congrArg Prod.fst hload
  obtain ⟨hlatch, hstrain⟩ := publishExt_latch
    (st := { value := strainOfSample f armB x s, source := .ext }) (inRange32_clampSigned32 _) rangeEnd
    (armMeasured dt lane f armB x s)
  refine ⟨by rw [hdeltaA, hexh], fun htwo => by rw [hdeltaB, hexh]; simp [htwo], hstrain,
    hzeroA.trans (by rw [hexh]; exact hzeros.1), hzeroB.trans (by rw [hexh]; exact hzeros.2),
    hlast.trans (by rw [hlch]), hdemand.trans (by rw [hxhu]), hlatch.trans (by rw [hpru]),
    holnT.trans holn, htstT.trans htst, hcopiesT.trans hcopies⟩

/-- A judgement reads of the state it is made in the sequencer, the force, the slip data and the raw
crosshead strain only. -/
theorem Judged.of_kept {x : ExtSet} {rangeEnd : Bool} {st : Strain} {s w t : State}
    (h : Judged x rangeEnd st w t) (htsq : w.tsq = s.tsq) (hlch : w.lch = s.lch) (hpru : w.pru = s.pru)
    (hrecord : w.exh.lastExt = s.exh.lastExt) (hslips : w.exh.slipCount = s.exh.slipCount)
    (hraw : rawCrossheadStrain w w.xhu.pos = rawCrossheadStrain s s.xhu.pos) :
    Judged x rangeEnd st s t := by
  obtain ⟨htsqT, hlchT, hpruT, hrecordT, hslipsT, hkept, hremoved⟩ := h
  simp only [SlipsCounted, SlipMet, strainLevelMet, inTest, htsq, hlch, hrecord, hslips, hraw]
    at hrecordT hslipsT hkept hremoved
  exact ⟨htsqT.trans htsq, hlchT.trans hlch, hpruT.trans hpru, hrecordT, hslipsT, hkept, hremoved⟩

/-- Settles O13: the update is published with the strain of the sample, and either a phase ends on it or the
handler has judged it. -/
theorem armSampleMeasuresStrain : Obligations.ArmSampleMeasuresStrain := by
  intro dt lane rx f armB x s hsteered hx hu hattached a b length strain rangeEnd running level slip
  have hexec : exec (.sample dt lane rx) s = .next
      (publishExt (rangeEndMet x armB (armMeasured dt lane f armB x s))
        { value := strain, source := .ext } (armMeasured dt lane f armB x s)) := by
    obtain ⟨-, hexh, -⟩ := arrived_leaves dt lane (routeKey lane f.sub) f.value s
    rw [exec_sample_arm hsteered,
      armSample_measures f (by rw [hexh]; exact hx) hu (by rw [hexh]; exact hattached)]
    exact congrArg (fun st => Host.Outcome.next (publishExt _ st _))
      (reportedExtensometer_armMeasured dt lane f armB x s)
  have hrange : rangeEndMet x armB (armMeasured dt lane f armB x s) = true ↔ rangeEnd :=
    rangeEndMet_armMeasured dt lane f armB x s
  generalize rangeEndMet x armB (armMeasured dt lane f armB x s) = atEnd at hexec hrange
  obtain ⟨hdeltaA, hdeltaB, hstrain, hzeroA, hzeroB, hlast, hdemand, hlatch, holn, htst, hcopies⟩ :=
    publishExt_armMeasured dt lane f armB x atEnd s
  obtain ⟨hpublished, htsq, hlch, hpru, hrecord, hslips, hraw⟩ :=
    armMeasured_published (dt := dt) (lane := lane) (f := f) (armB := armB) hx hattached
  have hoverOrJudged := (publishExt_judged hpublished atEnd).imp (fun o => o.of_tsq htsq)
    fun hj => hj.of_kept htsq hlch hpru hrecord hslips hraw
  obtain ⟨hmeasuredTsq, -⟩ := armMeasured_keeps dt lane f armB x s
  have hlevel : strainLevelMet strain s = true ∨ atEnd = true ↔ rangeEnd ∨ level := by
    rw [strainLevelMet_iff, hrange, or_comm]
  refine ⟨_, hexec, hdeltaA, hdeltaB, hstrain, fun hout => ?outside, fun hin hstate hphase => ?during,
    fun hrun k p hk hp hmet => ?atLeast, hzeroA, hzeroB, hlast, hdemand, hlatch, holn, htst, hcopies⟩
  case outside =>
    have hrest : s.tsq.state ≠ .running := fun hrun => by simp [inTest, hrun] at hout
    obtain hover | hj := hoverOrJudged
    · exact absurd hover.1 hrest
    · refine ⟨?_, hj.record, hj.slips.2 fun hslip => hrest hslip.1.1, hj.lch, hj.tsq, hj.pru⟩
      by_cases hend : rangeEnd
      · rw [if_pos hend]
        obtain ⟨hopened, -, hnone⟩ := hj.removed (hlevel.2 (.inl hend))
        exact ⟨hopened, hnone hout⟩
      · rw [if_neg hend]
        exact hj.kept fun hmet => (hlevel.1 hmet).elim hend fun h => hrest h.1
  case during =>
    obtain hover | hj := hoverOrJudged
    · exact absurd hphase (hover.phase_ne hstate)
    · refine ⟨fun hmet => ?_, fun hnot => hj.kept (mt hlevel.1 hnot), hj.record, ?_⟩
      · obtain ⟨hopened, hon, -⟩ := hj.removed (hlevel.2 hmet)
        exact ⟨hopened, hon hin⟩
      · split
        · next hslip => exact hj.slips.1 hslip
        · next hslip => exact hj.slips.2 hslip
  case atLeast =>
    have hpMeasured : phaseAt (armMeasured dt lane f armB x s) k = some p := by
      rw [← hp]
      simp only [phaseAt, armedProgram, hmeasuredTsq]
    have hover := publishExt_over (st := { value := strain, source := .ext }) (hmeasuredTsq ▸ hrun)
      (hmeasuredTsq ▸ hk) hpMeasured hmet atEnd
    exact (hover.of_tsq hmeasuredTsq).of_phase hk

end Sys2Proof.Machine
end

section
/-!
SUPPORT. START (O42): its change of state, the first strain update of the test, and its first phase.
-/

namespace Sys2Proof.Machine

/-! ## The Fm record of a test that starts (R110, R111) -/

/-- The list is open, and the Fm record is of the force held (R110). -/
def Seeded (s : State) : Prop :=
  s.evu.listOpen = true ∧ ∃ m, s.evu.fm = some m ∧ m.force = s.lch.last.net

theorem Seeded.of_parts {s t : State} (h : Seeded s) (hopen : t.evu.listOpen = s.evu.listOpen)
    (hfm : t.evu.fm = s.evu.fm) (hlch : t.lch = s.lch) : Seeded t := by
  unfold Seeded at *
  rwa [hopen, hfm, hlch]

@[simp] theorem recordMilestone_fm (m : Milestone) (s : State) :
    (recordMilestone m s).evu.fm = s.evu.fm := by
  unfold recordMilestone
  (repeat' split) <;> simp

/-- A milestone of the force held takes the record over at most with that force (R111). -/
theorem Seeded.handMilestone {s : State} (h : Seeded s) {m : Milestone}
    (hm : m.sample.force = s.lch.last.net) : Seeded (handMilestone m s) := by
  obtain ⟨hopen, r, hr, hforce⟩ := h
  have hkept : higherForce s.evu.fm m.sample = some r := by
    rw [hr]
    exact if_neg (by omega)
  refine ⟨by simp [hopen], r, ?_, by simp [hforce]⟩
  unfold Machine.handMilestone
  split
  · exact (recordMilestone_fm _ _).trans hkept
  · exact (recordMilestone_fm _ _).trans hr

/-! ## The first strain update (R74) -/

/-- What the blocks leave that take the first strain update of a test, an arm being removed on it or not. -/
structure FirstUpdate (s t : State) : Prop where
  backbone : backbone t = backbone s
  tsq : t.tsq = s.tsq
  lch : t.lch = s.lch
  slips : t.exh.slipCount = s.exh.slipCount
  reported : s.exh.reported.isSome = true → t.exh.reported.isSome = true
  seeded : Seeded s → Seeded t

theorem FirstUpdate.trans {s t u : State} (h : FirstUpdate s t) (h' : FirstUpdate t u) :
    FirstUpdate s u where
  backbone := h'.backbone.trans h.backbone
  tsq := h'.tsq.trans h.tsq
  lch := h'.lch.trans h.lch
  slips := h'.slips.trans h.slips
  reported hr := h'.reported (h.reported hr)
  seeded hs := h'.seeded (h.seeded hs)

theorem FirstUpdate.refl (s : State) : FirstUpdate s s := ⟨rfl, rfl, rfl, rfl, id, id⟩

variable (s : State)

theorem evuStrainLimit_first (st : Strain) : FirstUpdate s (evuStrainLimit st s) :=
  ⟨by simp, by simp, by simp, by simp, by simp, fun h => h.of_parts (by simp) (by simp) (by simp)⟩

theorem keepStrain_first (st : Strain) : FirstUpdate s (keepStrain st s) := by
  refine ⟨by simp, by simp, by simp, by simp, fun _ => by rw [keepStrain_exh]; rfl,
    fun h => h.of_parts (by simp) (by simp) (by simp)⟩

theorem armsOpened_first : FirstUpdate s (armsOpened s) := by
  obtain ⟨htsq, hlch, -, -, hfm, hopen⟩ := armsOpened_keeps s
  have hexh := armsOpened_exh s
  exact ⟨spliceToCrosshead_backbone _, htsq, hlch, by rw [hexh], fun _ => by rw [hexh]; rfl,
    fun h => h.of_parts hopen hfm hlch⟩

/-- EXT-REMOVED carries the force held, so it does not raise the Fm record above it. -/
theorem removalNoted_first (cause : RemovalCause) {t : State} (h : t.lch = s.lch) :
    FirstUpdate t (removalNoted s cause t) := by
  refine ⟨by simp [removalNoted], by simp [removalNoted], by simp [removalNoted],
    by simp [removalNoted], by simp [removalNoted], fun hseeded => ?_⟩
  have hhanded : Seeded (handMilestone (plainMilestone .extRemoved (lastExtSample s)) t) :=
    hseeded.handMilestone (by rw [h]; rfl)
  exact hhanded.of_parts (by simp [removalNoted]) (by simp [removalNoted]) (by simp [removalNoted])

theorem removeArms_first {s : State} (h : inTest s = true) (cause : RemovalCause) :
    FirstUpdate s (removeArms evuStrainLimit cause s) := by
  rw [removeArms_inTest h]
  refine inOpenOrder_keeps (P := FirstUpdate s) _ _ (fun _ _ ht => ht.trans ⟨rfl, rfl, rfl, rfl, id, id⟩)
    (fun act ha t ht => ?_) (armsOpened_first s)
  simp only [List.mem_cons, List.not_mem_nil, or_false] at ha
  obtain rfl | rfl := ha
  · exact ht.trans (evuStrainLimit_first t _)
  · exact ht.trans (removalNoted_first s cause ht.lch)

/-- Without a record of R80 no slip is judged, and the arms stay or are removed. -/
theorem exhStrain_first {s : State} (h : inTest s = true) (hrecord : s.exh.lastExt = none)
    (st : Strain) : FirstUpdate s (exhStrain evuStrainLimit false st s) := by
  have hslip : ∀ x, judgeSlip x st.value s = keepLastExt st.value s := fun x => by
    simp only [judgeSlip, hrecord]
  have hkept : FirstUpdate s (keepLastExt st.value s) := ⟨rfl, rfl, rfl, rfl, id, id⟩
  unfold exhStrain
  split
  · exact .refl s
  · rename_i x _
    split
    · exact .refl s
    · rename_i hattached
      have ha : (keepLastExt st.value s).exh.handler = .attached := not_not.1 hattached
      rw [hslip]
      obtain ⟨-, cause, he⟩ | ⟨-, he⟩ := judgeRemoval_cases evuStrainLimit false st ha <;> rw [he]
      · exact hkept.trans (removeArms_first (s := keepLastExt st.value s) h cause)
      · exact hkept

/-- What the first strain update of a test leaves: the offsets and the slip count are anew, and a strain is
reported (R74). -/
structure FirstStrain (s t : State) : Prop where
  calm : calm t = calm s
  lch : t.lch = s.lch
  reference : t.exh.pRef = s.xhu.pos
  offset : t.exh.oe = 0
  slips : t.exh.slipCount = 0
  reported : t.exh.reported.isSome = true
  seeded : Seeded s → Seeded t

theorem FirstStrain.later {s t u : State} (h : FirstStrain s t) (hcalm : Machine.calm u = Machine.calm t)
    (hlch : u.lch = t.lch) (hexh : u.exh = t.exh) (hevu : u.evu = t.evu) : FirstStrain s u := by
  obtain ⟨hcalmT, hlchT, hreference, hoffset, hslips, hreported, hseeded⟩ := h
  rw [← hexh] at hreference hoffset hslips hreported
  exact ⟨hcalm.trans hcalmT, hlch.trans hlchT, hreference, hoffset, hslips, hreported,
    fun hs => (hseeded hs).of_parts (by rw [hevu]) (by rw [hevu]) hlch⟩

/-- The blocks take an update of a state whose offsets and slip count are anew. -/
theorem FirstUpdate.firstStrain {s t : State} {e : Exh} {st : Strain}
    (h : FirstUpdate (keepStrain st (s.setExh e)) t)
    (hzeros : e.zeroA = s.exh.zeroA ∧ e.zeroB = s.exh.zeroB) (hreference : e.pRef = s.xhu.pos)
    (hoffset : e.oe = 0) (hslips : e.slipCount = 0) (hextset : e.extset = s.exh.extset) :
    FirstStrain s t := by
  have hbackbone : Machine.backbone t = Machine.backbone (s.setExh e) :=
    h.backbone.trans (keepStrain_backbone _ _)
  have hcalm : Machine.calm (s.setExh e) = Machine.calm s := by
    simp [Machine.calm, workingCopies, hzeros, hextset]
  have hexh (g : Exh → Int) (hg : g (Machine.backbone t).exh = g t.exh)
      (hg' : g (Machine.backbone (s.setExh e)).exh = g e) : g t.exh = g e := by
    rw [← hg, hbackbone, hg']
  refine ⟨(calm_of_backbone hbackbone).trans hcalm, by simp [h.lch],
    (hexh Exh.pRef rfl rfl).trans hreference, (hexh Exh.oe rfl rfl).trans hoffset,
    by simp [h.slips, hslips], h.reported (by rw [keepStrain_exh]; rfl), fun hs => h.seeded ?_⟩
  exact hs.of_parts (by simp) (by simp) (by simp)

/-- START publishes the first strain of the test, from the arms or from the crosshead (R74). -/
theorem exhStart_firstStrain {s : State} (h : inTest s = true) : FirstStrain s (exhStart s) := by
  unfold exhStart
  extract_lets t
  split
  · rename_i x _ _
    extract_lets u st
    refine FirstUpdate.firstStrain (st := st) (e := u.exh) ?_ ⟨rfl, rfl⟩ rfl rfl rfl rfl
    have htest : inTest (keepStrain st u) = true := by
      have hkept : (keepStrain st u).tsq = s.tsq := (keepStrain_first u st).tsq
      rw [inTest_congr (congrArg Tsq.state hkept), h]
    refine inOpenOrder_through (l₁ := [evuStrainLimit st]) (l₂ := [])
      (P := fun v => FirstUpdate (keepStrain st u) v ∧ v.exh.lastExt = none)
      (Q := FirstUpdate (keepStrain st u)) (fun v n hv => ⟨hv.1.trans ⟨rfl, rfl, rfl, rfl, id, id⟩, hv.2⟩)
      (fun act ha v hv => ?_) (fun v hv => ?_) (fun act ha v hv => ?_)
      ⟨.refl _, by simp [u, t, clearOffsets, holdDeltas]⟩
    · cases List.mem_singleton.1 ha
      exact ⟨hv.1.trans (evuStrainLimit_first v st), by simp [hv.2]⟩
    · exact hv.1.trans
        (exhStrain_first ((inTest_congr (congrArg Tsq.state hv.1.tsq)).trans htest) hv.2 st)
    · cases List.mem_singleton.1 ha
      exact hv.trans (evuStrainLimit_first v st)
  · exact FirstUpdate.firstStrain (e := t.exh) (evuStrainLimit_first _ _) ⟨rfl, rfl⟩ rfl rfl rfl rfl

/-! ## The sequencer (R90, R91, R97) -/

theorem startRefusal_eq : startRefusal s = startAnswer s := by
  unfold startRefusal startAnswer
  simp only [Bool.not_eq_true']

/-- RUNNING with its times, the evaluations begun anew, before the first strain of the test. -/
def startEntered (r : Specimen) (s : State) : State :=
  evuStart r (changeStateArming .running .start (startTimes s))

theorem startTest_eq (r : Specimen) : startTest r s = beginPhase 0 (endJog (exhStart (startEntered r s))) :=
  rfl

section entered

variable {s} (r : Specimen)

/-- With LOAD UP the change to RUNNING trips nothing (R139). -/
theorem startEntered_quiet (hup : channelUp s .load = true) : ∃ (p : Pru) (d : NoticeDetail),
    p.latch = s.pru.latch ∧ startEntered r s =
      evuStart r ((raise .test d (enterState .running (startTimes s))).setPru p) := by
  let u := raise .test (.test .running s.tsq.state .start) (enterState .running (startTimes s))
  have hload : channelUp u .load = true := by
    rw [← hup]
    simp [u, channelUp, channelUpUnder, laneUp, startTimes, enterState]
  obtain ⟨p, hp, he⟩ := judgeLoadLost_quiet (s := u) (.inl hload)
  exact ⟨p, _, hp.trans (by simp [u, startTimes]), congrArg (evuStart r) he⟩

theorem startEntered_keeps (hup : channelUp s .load = true) :
    (startEntered r s).tsq =
      { s.tsq with
        state := .running, startedAt := s.now, limitAt := some (s.now + timeLimitOf s), testTime := 0
        phase := some 0, phaseBase := 0, phaseSince := s.now, phaseTimer := none } ∧
    (startEntered r s).now = s.now ∧ (startEntered r s).lif = s.lif ∧ (startEntered r s).lch = s.lch ∧
    (startEntered r s).xhu = s.xhu ∧ (startEntered r s).pru.latch = s.pru.latch ∧
    calm (startEntered r s) = calm s ∧ Seeded (startEntered r s) := by
  have hcalm : calm (startEntered r s) = calm s := by
    simp [startEntered, calm, workingCopies, startTimes, evuStart]
  obtain ⟨p, d, hp, he⟩ := startEntered_quiet r hup
  rw [he] at hcalm ⊢
  refine ⟨?_, by simp [evuStart, startTimes], by simp [evuStart, startTimes],
    by simp [evuStart, startTimes], by simp [evuStart, startTimes], hp, hcalm, ?_⟩
  · simp [evuStart, enterState, startTimes, phaseTime]
  · exact ⟨rfl, maximumSeed r _, rfl, rfl⟩

/-- On a settled link the notice of the change leaves the link settled, and the order the newest. -/
theorem startEntered_link (hup : channelUp s .load = true) (hs : Settled s) {own : Outstanding}
    {ls : List (Byte × Byte)} (hn : Newest own ls s) :
    Settled (startEntered r s) ∧ Newest own ls (startEntered r s) := by
  obtain ⟨p, d, -, he⟩ := startEntered_quiet r hup
  have hmoved : Settled (raise .test d (enterState .running (startTimes s))) := by
    rw [raise_settled (by exact hs)]
    exact noticed_settled (by exact hs) _ _
  have hnewest : Newest own ls (raise .test d (enterState .running (startTimes s))) := by
    obtain ⟨os, ho, hl⟩ := hn
    exact ⟨os, by simpa [startTimes] using ho, hl⟩
  rw [he]
  exact ⟨hmoved, hnewest⟩

end entered

/-- The end of a jog moves the crosshead and LOAD-LOST's condition only (R52, R60). -/
theorem endJog_keeps : (endJog s).tsq = s.tsq ∧ (endJog s).now = s.now ∧ (endJog s).lch = s.lch ∧
    (endJog s).exh = s.exh ∧ (endJog s).evu = s.evu ∧ (endJog s).pru.latch = s.pru.latch ∧
    backbone (endJog s) = backbone s := by
  unfold endJog
  split <;> simp

theorem beginPhase_tsq (k : Nat) : (beginPhase k s).tsq = { s.tsq with
    phase := some k, phaseBase := 0, phaseSince := s.now
    phaseTimer := (phaseAt s k).bind phaseLimit } := by
  simp [beginPhase]

theorem phaseAt_congr {s t : State} (hslot : t.tsq.slot = s.tsq.slot) (hprog : t.tsq.prog = s.tsq.prog)
    (k : Nat) : phaseAt t k = phaseAt s k := by
  simp only [phaseAt, armedProgram, hslot, hprog]

/-- What START leaves, its reply aside (R74, R90, R91, R97, R110). -/
structure TestStarted (r : Specimen) (s t : State) : Prop where
  tsq : t.tsq = { s.tsq with
    state := .running, startedAt := s.now, limitAt := some (s.now + timeLimitOf s), testTime := 0
    phase := some 0, phaseBase := 0, phaseSince := s.now, phaseTimer := (phaseAt s 0).bind phaseLimit }
  latch : t.pru.latch = s.pru.latch
  lif : t.lif = s.lif
  strain : FirstStrain (startEntered r s) t
  requested : ∀ q : Phase, phaseAt s 0 = some q → latchEmpty s = true → Requested q r t

theorem startTest_started {s : State} {r : Specimen} (hup : channelUp s .load = true)
    (hr : s.tsq.specimen = some r) : TestStarted r s (startTest r s) := by
  obtain ⟨htsq, hnow, hlif, hlch, hxhu, hlatch, -⟩ := startEntered_keeps r hup
  have htest : inTest (startEntered r s) = true := by simp [inTest, htsq]
  have hfirst := exhStart_firstStrain htest
  have hconsole := exhStart_console (startEntered r s)
  have hmoves := exhStart_moves (b := false) (startEntered r s)
  rw [startTest_eq]
  generalize hv : startEntered r s = v at htsq hnow hlif hlatch hfirst hconsole hmoves ⊢
  simp only [console, Prod.mk.injEq] at hconsole
  obtain ⟨htsqU, hpruU, -⟩ := hconsole
  have hnowU : (exhStart v).now = v.now := congrArg Prod.fst hfirst.calm
  generalize exhStart v = u at hfirst hmoves htsqU hpruU hnowU ⊢
  obtain ⟨htsqJ, hnowJ, hlchJ, hexhJ, hevuJ, hlatchJ, hbackboneJ⟩ := endJog_keeps u
  have hmovesJ := (hmoves.trans (endJog_moves u)).trans (beginPhase_moves (b := false) (endJog u) 0)
  have htsqAll : (endJog u).tsq = v.tsq := htsqJ.trans htsqU
  have hlatchAll : (endJog u).pru.latch = s.pru.latch := hlatchJ.trans ((congrArg Pru.latch hpruU).trans hlatch)
  have hphase : phaseAt (endJog u) 0 = phaseAt s 0 :=
    phaseAt_congr (by rw [htsqAll, htsq]) (by rw [htsqAll, htsq]) 0
  refine ⟨?_, by simp [hlatchAll], hmovesJ.stage.lif.trans hlif, ?_, fun q hq hempty => ?_⟩
  · rw [beginPhase_tsq, hphase, htsqAll, htsq, hnowJ, hnowU, hnow]
  · rw [hv]
    exact hfirst.later (calm_of_backbone ((beginPhase_backbone _ _).trans hbackboneJ)) (by simp [hlchJ])
      (by simp [hexhJ]) (by simp [hevuJ])
  · refine (beginPhase_begun (hphase.trans hq)).2 r (by rw [htsqAll, htsq]; exact hr) ?_
    exact (latchEmpty_congr hlatchAll).trans hempty

theorem timeLimitOf_eq : timeLimitOf s =
    match armedProgram s with
    | some p => p.timeLimit * 1000000
    | none => 0 := by
  unfold timeLimitOf
  cases armedProgram s <;> rfl

/-! ## The order (R90) -/

theorem exec_start (dt : Nat) (tag : Byte) {s : State} (h : Ready s) : exec (.start dt tag []) s =
    .next (ownStart tag [] (joinOutstanding (orderCode .start) tag (later dt s))) :=
  congrArg Host.Outcome.next (takeOrder_ready h rfl)

/-- The checks of R90 all pass with the sequencer ARMED and LOAD UP. -/
theorem startAnswer_none {s : State} (h : startAnswer s = none) :
    s.tsq.state = .armed ∧ channelUp s .load = true := by
  unfold startAnswer at h
  split at h
  · cases h
  · rename_i hstate
    split at h
    · cases h
    · rename_i hload
      exact ⟨not_not.1 hstate, Bool.eq_true_of_not_eq_false hload⟩

/-- START is answered behind what the start of the test has raised. -/
theorem start_formed {s : State} (dt : Nat) (tag : Byte) (r : Specimen) (h : Settled s)
    (hup : channelUp s .load = true) : ∃ os, labels os = labels s.cpt.outstanding ∧
      reply .start tag .done none none
        (startTest r (joinOutstanding (orderCode .start) tag (later dt s))) =
      answered (plainReply .start tag .done)
        { startTest r (joinOutstanding (orderCode .start) tag (later dt s)) with cpt :=
          { (startTest r (joinOutstanding (orderCode .start) tag (later dt s))).cpt with
            outstanding := os } } := by
  obtain ⟨hsettled, hnewest⟩ := startEntered_link r
    (s := joinOutstanding (orderCode .start) tag (later dt s)) hup h
    (own := { tag := tag, kind := orderCode .start, answered := false })
    (ls := labels s.cpt.outstanding) ⟨s.cpt.outstanding, rfl, rfl⟩
  have hmoves := ((exhStart_moves (b := false) _).trans (endJog_moves _)).trans
    (beginPhase_moves (endJog (exhStart
      (startEntered r (joinOutstanding (orderCode .start) tag (later dt s))))) 0)
  have hother : orderCode .start ≠ orderCode .tare := by decide
  rw [startTest_eq]
  exact reply_newest (hmoves.settled hsettled).1 (hmoves.newest hother hnewest) .done

/-- Settles O42: the refusal by the first check, and the start with its first strain and its first phase. -/
theorem startRunsPhaseZero : Obligations.StartRunsPhaseZero := by
  intro dt tag s hready
  let w := joinOutstanding (orderCode .start) tag (later dt s)
  have hexec := exec_start dt tag hready
  have hrefusal : startRefusal w = startAnswer s := startRefusal_eq w
  refine ⟨fun check hcheck => ?_, fun r hpass hr => ?_⟩
  · have hown : ownStart tag [] w = reply .start tag .wrongState (some (.start check)) none w := by
      simp only [ownStart, hrefusal, hcheck]
    rw [hexec]
    exact congrArg Host.Outcome.next
      (hown.trans (reply_join (s := later dt s) hready.1 .start tag .wrongState (some (.start check)) none))
  · obtain ⟨-, hup⟩ := startAnswer_none hpass
    have hown : ownStart tag [] w = reply .start tag .done none none (startTest r w) := by
      have hspecimen : w.tsq.specimen = some r := hr
      simp only [ownStart, hrefusal, hpass, hspecimen]
    obtain ⟨os, hos, hreply⟩ := start_formed dt tag r hready.1 hup
    obtain ⟨htsq, hlatch, hlif, hstrain, hrequested⟩ := startTest_started (s := w) (r := r) hup hr
    obtain ⟨-, -, -, hlch, hxhu, -, hcalm, hseeded⟩ := startEntered_keeps (s := w) r hup
    obtain ⟨hcalmT, hlchT, hreference, hoffset, hslips, hreported, hseed⟩ := hstrain
    have hcalmW := hcalmT.trans hcalm
    simp only [calm, Prod.mk.injEq] at hcalmW
    obtain ⟨hnow, ⟨hzeroA, hzeroB⟩, ⟨hpos, hdemand, -⟩, -, holn, htst, hcopies, -⟩ := hcalmW
    have hlchW : (startTest r w).lch = s.lch := hlchT.trans hlch
    obtain ⟨hopen, m, hm, hforce⟩ := hseed hseeded
    refine ⟨_, hexec.trans (congrArg _ (hown.trans hreply)), answered_formed _ hos,
      congrArg Tsq.state htsq, congrArg Tsq.phase htsq, ?testTime, ?phaseTime, ?limit,
      (congrArg Tsq.specimen htsq).trans hr, hopen, ⟨m, hm, hforce.trans (by rw [hlchW])⟩,
      hreference.trans (congrArg Xhu.pos hxhu), hslips, hoffset, hreported, fun q hq hempty => ?begun,
      hdemand, hpos, hlchW, hzeroA, hzeroB, hlatch, holn, hlif, htst, hcopies⟩
    case testTime =>
      have hzero : testTime (startTest r w) = 0 := by simp [testTime, htsq, hnow]
      exact hzero
    case phaseTime =>
      have hzero : phaseTime (startTest r w) = 0 := by simp [phaseTime, htsq, hnow]
      exact hzero
    case limit =>
      exact (congrArg Tsq.limitAt htsq).trans (congrArg (fun n => some (s.now + dt + n)) (timeLimitOf_eq w))
    case begun =>
      have htimer : (startTest r w).tsq.phaseTimer = (phaseAt s 0).bind phaseLimit :=
        congrArg Tsq.phaseTimer htsq
      obtain ⟨hmode, hstep, hstrainMode, hstressMode, hrest⟩ := hrequested q hq hempty
      exact ⟨by rw [hq] at htimer; exact htimer, hmode, hstep, hstrainMode, hstressMode, hrest⟩

end Sys2Proof.Machine
end

section
/-!
SUPPORT. The end of a test, whatever ends it (R98), and the time limit (O23).
-/

namespace Sys2Proof.Machine

variable (s : State)

/-! ## The evaluations at the end of a test (R116, R125, R127) -/

/-- A milestone of a kind with a place reserved finds the list never full (R124). -/
theorem recordMilestone_reserved {m : Milestone} (h : reservedKind m.kind = true) :
    (recordMilestone m s).evu =
      { s.evu with list := if willRecord m s then s.evu.list ++ [m] else s.evu.list } := by
  have hfull : listFull s.evu.list m = false := by simp [listFull, h]
  unfold recordMilestone willRecord
  rw [hfull]
  cases s.evu.listOpen <;> cases alreadyRecorded s.evu.list m <;> simp

theorem evuEndOfTest_evu (new : SeqState) (cause : EndCause) (silent : Bool) :
    (evuEndOfTest new cause silent s).evu = closedEvu new cause s := by
  cases silent with
  | true => rw [evuEndOfTest_silent]
  | false =>
    unfold evuEndOfTest closedEvu finalList
    cases hfm : s.evu.fm with
    | none => simp [hfm]
    | some fm =>
      simp [hfm, recordMilestone_reserved _ (m := plainMilestone .fmax fm) rfl, willRecord]

/-! ## The blocks at the end of a test (R98) -/

theorem endTest_tsq (new : SeqState) (cause : EndCause) :
    (endTest new cause s).tsq = endedTsq new cause s := by
  unfold endTest
  dsimp only
  split <;> simp [releaseSpecimen, endedTsq]

theorem endTest_lch (new : SeqState) (cause : EndCause) :
    (endTest new cause s).lch = { s.lch with stress := none } := by
  unfold endTest
  dsimp only
  split <;> simp [releaseSpecimen]

theorem endTest_xhu (new : SeqState) (cause : EndCause) :
    (endTest new cause s).xhu = heldXhu s.xhu := by
  unfold endTest
  dsimp only
  split <;> simp [enterHold_xhu]

theorem endTest_evu (new : SeqState) (cause : EndCause) :
    (endTest new cause s).evu = closedEvu new cause s := by
  have hclosed : ∀ u : State, u.evu = s.evu → closedEvu new cause u = closedEvu new cause s := by
    intro u hu
    rw [closedEvu, closedEvu, finalList_eq, finalList_eq, hu]
  unfold endTest
  dsimp only
  split <;> simp only [settleLoadLost_keeps, exhEndOfTest_keeps, evuEndOfTest_evu] <;>
    exact hclosed _ (by simp)

/-- Every end of a test leaves what R98 says, whatever its end state and cause. -/
theorem endTest_ended (new : SeqState) (cause : EndCause) :
    TestEnded new cause s (endTest new cause s) where
  toEvaluationClosed := closedEvu_closed new cause (endTest_evu s new cause)
  state := by simp [endTest_tsq, endedTsq]
  timers := by simp [endTest_tsq, endedTsq]
  time := by simp [testTime, endTest_tsq, endedTsq]
  record := ⟨endTest_specimen s new cause, endTest_lch s new cause⟩
  phase := by simp
  hold := endTest_xhu s new cause
  strain := endTest_exh new cause s
  latch := by simp
  same := by simp [workingCopies]

/-- Settles O23: the limit is reached, so test time stands at it before the test ends. -/
theorem timeLimitEndsTest : Obligations.TimeLimitEndsTest := by
  intro deadline s hlimit htest
  have hexec : exec .timeLimitExpiry s = .next (endTest .ended .timeLimit (atExpiry deadline s)) := by
    simp only [exec, execTimeLimitExpiry, hlimit, htest, if_true]
    rfl
  have hended := endTest_ended (atExpiry deadline s) .ended .timeLimit
  have htime : testTime (atExpiry deadline s) = deadline - s.tsq.startedAt := by
    have hreached : min (max s.now deadline) deadline = deadline := min_eq_right (le_max_right _ _)
    simp only [testTime, atExpiry, hlimit, hreached]
  have hkept : (endTest .ended .timeLimit (atExpiry deadline s)).cpt.outstanding =
      (atExpiry deadline s).cpt.outstanding := by simp
  exact ⟨_, hexec, hended, hended.time.trans htime, hkept⟩

end Sys2Proof.Machine
end

section
/-!
SUPPORT. An order that changes the sequencer's state: the judgement of LOAD-LOST on it (R139), and its reply.
-/

namespace Sys2Proof.Machine

variable {s : State}

/-! ## LOAD-LOST judged (R139) -/

/-- LOAD-LOST has been judged and has not tripped: only its own condition and timer may have moved. -/
def LossRests (s t : State) : Prop :=
  ∃ p : Pru, t = s.setPru p ∧ p.latch = s.pru.latch ∧ p.history = s.pru.history ∧
    ∀ c : TripClass, c ≠ .loadLost → p.conditions[tripNumber c] = s.pru.conditions[tripNumber c]

theorem LossRests.of_conditions (x : Condition) (n : Option Nat) (s : State) :
    LossRests s (s.setPru { s.pru with
      conditions := s.pru.conditions.set (tripNumber .loadLost) x, loadLossAt := n }) := by
  refine ⟨_, rfl, rfl, rfl, fun c hc => ?_⟩
  have hne : (tripNumber .loadLost).val ≠ (tripNumber c).val := by
    cases c <;> simp_all [tripNumber]
  simp [hne]

theorem loadLostHolds_iff (s : State) :
    loadLostHolds (channelUp s .load) s = true ↔ channelUp s .load = false ∧ NeedsLoad s := by
  simp [loadLostHolds, NeedsLoad, or_assoc]

/-- LOAD-LOST does not trip where LOAD is not needed, or where something speaks against a trip. -/
theorem judgeLoadLost_rests (h : NeedsLoad s → NoLoadLossNow s) :
    LossRests s (judgeLoadLost (channelUp s .load) s) := by
  have hsame : LossRests s s := ⟨s.pru, rfl, rfl, rfl, fun _ _ => rfl⟩
  unfold judgeLoadLost
  split
  · exact hsame
  · rename_i p hp
    split
    · rename_i hholds
      obtain ⟨hdown, hneeds⟩ := (loadLostHolds_iff s).1 hholds
      split
      · rename_i hclear
        have hdelay : 0 < p.loadLossMs :=
          (((h hneeds).resolve_left (by simp [hdown])).resolve_left (· hclear)) p hp
        rw [if_neg (by omega)]
        exact .of_conditions (.timing s.now) (some (s.now + millis p.loadLossMs)) s
      · exact hsame
    · exact .of_conditions .clear none s

/-- LOAD-LOST trips on the spot where LOAD is needed and nothing speaks against it. -/
theorem judgeLoadLost_trips (hneeds : NeedsLoad s) (h : ¬ NoLoadLossNow s) :
    judgeLoadLost (channelUp s .load) s = spend .loadLost s := by
  simp only [NoLoadLossNow, not_or, not_forall, Bool.not_eq_true, ne_eq, not_not, not_lt] at h
  obtain ⟨hdown, hclear, p, hp, hdelay⟩ := h
  have hholds := (loadLostHolds_iff s).2 ⟨hdown, hneeds⟩
  simp [judgeLoadLost, hp, hholds, hclear, hdelay]

/-! ## What a trip leaves alone -/

/-- Phase time does not jump at a change of state that leaves RUNNING or does not enter it (R93). -/
theorem spend_phaseTime (c : TripClass) (s : State) : phaseTime (spend c s) = phaseTime s := by
  have hchange : ∀ (new : SeqState) cause (u : State), new ≠ .running →
      phaseTime (changeState new cause u) = phaseTime u := by
    intro new cause u hnew
    simp [changeState, phaseTime, enterState, hnew]
  have hmilestone : ∀ (u : State), phaseTime (handTrip c u) = phaseTime u := by
    intro u
    simp [phaseTime]
  have hseq : ∀ u, phaseTime (sequencerTrip c u) = phaseTime u := by
    intro u
    unfold sequencerTrip
    split
    · exact (hchange _ _ _ (by decide)).trans (by simp [phaseTime])
    · exact (hmilestone _).trans (hchange _ _ _ (by decide))
    · exact (hmilestone _).trans (hchange _ _ _ (by decide))
    · exact hmilestone u
    all_goals rfl
  unfold spend trip
  split
  · rfl
  · refine (hseq _).trans ?_
    simp [phaseTime]

/-- Only an armed test's end releases the stress. -/
theorem spend_lch (c : TripClass) (h : s.tsq.state ≠ .armed) : (spend c s).lch = s.lch := by
  have hseq : ∀ u, u.tsq.state ≠ .armed → (sequencerTrip c u).lch = u.lch := by
    intro u hu
    unfold sequencerTrip
    split <;> simp_all
  unfold spend trip
  split
  · rfl
  · exact (hseq _ (by simpa using h)).trans (by simp)

/-- The crosshead enters HOLD with a class that is not latched yet (R142). -/
theorem spend_xhu (c : TripClass) (s : State) :
    (spend c s).xhu = if latched s c then s.xhu else heldXhu s.xhu := by
  have hlatched : latched (setCondition c .spent s) c = latched s c := rfl
  unfold spend trip
  rw [hlatched]
  split
  · rfl
  · simp [enterHold_xhu]

/-- No other class is latched by a trip (R142). -/
theorem spend_others {c d : TripClass} (h : d ≠ c) (s : State) :
    latched (spend c s) d = latched s d := by
  have hne : (tripNumber c).val ≠ (tripNumber d).val := by
    cases c <;> cases d <;> simp_all [tripNumber]
  unfold spend trip
  split
  · rfl
  · simp [latched, updateHistory, hne]

theorem spend_state {c : TripClass} (h : latched s c = false) :
    (spend c s).tsq.state = trippedState s.tsq.state :=
  congrArg Dials.state (trip_dials (s := setCondition c .spent s) h)

/-! ## A change of state (R105, R139) -/

/-- The sequencer in another state, its TEST occurrence raised. -/
def entered (new : SeqState) (cause : TestCause) (s : State) : State :=
  raise .test (.test new s.tsq.state cause) (enterState new s)

theorem entered_keeps (new : SeqState) (cause : TestCause) (s : State) :
    (entered new cause s).tsq = { s.tsq with
      state := new, phaseBase := phaseTime s, phaseSince := s.now } ∧
    (entered new cause s).pru = s.pru ∧ (entered new cause s).xhu = s.xhu ∧
    (entered new cause s).lch = s.lch ∧ (entered new cause s).evu = s.evu ∧
    (entered new cause s).now = s.now := by
  simp [entered, enterState]

theorem entered_phaseTime (new : SeqState) (cause : TestCause) (s : State) :
    phaseTime (entered new cause s) = phaseTime s := by
  obtain ⟨htsq, -, -, -, -, hnow⟩ := entered_keeps new cause s
  simp [phaseTime, htsq, hnow]

theorem entered_channelUp (new : SeqState) (cause : TestCause) (s : State) (c : Channel) :
    channelUp (entered new cause s) c = channelUp s c := by
  simp [channelUp, channelUpUnder, laneUp, entered]

/-- LOAD is needed in a state: a test state that needs it, or a jog (R139). -/
def NeedsLoadIn (new : SeqState) (s : State) : Prop :=
  new = .armed ∨ new = .running ∨ new = .held ∨ jogActive s = true

theorem entered_needsLoad (new : SeqState) (cause : TestCause) (s : State) :
    NeedsLoad (entered new cause s) ↔ NeedsLoadIn new s := by
  obtain ⟨htsq, -, hxhu, -⟩ := entered_keeps new cause s
  simp [NeedsLoad, NeedsLoadIn, htsq, jogActive, hxhu]

theorem entered_noLoadLossNow (new : SeqState) (cause : TestCause) (s : State) :
    NoLoadLossNow (entered new cause s) ↔ NoLoadLossNow s := by
  obtain ⟨-, hpru, -⟩ := entered_keeps new cause s
  simp [NoLoadLossNow, entered_channelUp, condition, hpru]

theorem changeStateArming_eq (new : SeqState) (cause : TestCause) (s : State) :
    changeStateArming new cause s =
      judgeLoadLost (channelUp (entered new cause s) .load) (entered new cause s) := rfl

/-- A change of state on which LOAD-LOST does not trip. -/
theorem changeStateArming_rests {new : SeqState} (cause : TestCause)
    (h : NeedsLoadIn new s → NoLoadLossNow s) :
    LossRests (entered new cause s) (changeStateArming new cause s) := by
  rw [changeStateArming_eq]
  exact judgeLoadLost_rests fun hneeds =>
    (entered_noLoadLossNow new cause s).2 (h ((entered_needsLoad new cause s).1 hneeds))

/-- A change of state on which LOAD-LOST trips. -/
theorem changeStateArming_trips {new : SeqState} (cause : TestCause) (hneeds : NeedsLoadIn new s)
    (h : ¬ NoLoadLossNow s) :
    changeStateArming new cause s = spend .loadLost (entered new cause s) := by
  rw [changeStateArming_eq]
  exact judgeLoadLost_trips ((entered_needsLoad new cause s).2 hneeds)
    (mt (entered_noLoadLossNow new cause s).1 h)

/-- LOAD-LOST rests or trips on a change of state. -/
theorem changeStateArming_cases (new : SeqState) (cause : TestCause) (s : State) :
    LossRests (entered new cause s) (changeStateArming new cause s) ∨
      changeStateArming new cause s = spend .loadLost (entered new cause s) := by
  by_cases h : NeedsLoadIn new s → NoLoadLossNow s
  · exact .inl (changeStateArming_rests cause h)
  · obtain ⟨hneeds, hnow⟩ := Classical.not_imp.1 h
    exact .inr (changeStateArming_trips cause hneeds hnow)

theorem changeStateArming_phaseTime (new : SeqState) (cause : TestCause) (s : State) :
    phaseTime (changeStateArming new cause s) = phaseTime s := by
  refine Eq.trans ?_ (entered_phaseTime new cause s)
  obtain ⟨p, he, -⟩ | he := changeStateArming_cases new cause s <;> rw [he]
  · rfl
  · exact spend_phaseTime _ _

theorem changeStateArming_testTime (new : SeqState) (cause : TestCause) (s : State) :
    testTime (changeStateArming new cause s) = testTime s := by
  simp [testTime]

theorem changeStateArming_lch {new : SeqState} (cause : TestCause) (s : State) (h : new ≠ .armed) :
    (changeStateArming new cause s).lch = s.lch := by
  obtain ⟨htsq, -, -, hlch, -⟩ := entered_keeps new cause s
  obtain ⟨p, he, -⟩ | he := changeStateArming_cases new cause s <;> rw [he]
  · exact hlch
  · exact (spend_lch _ (by simpa [htsq] using h)).trans hlch

/-- What a change of state leaves, whether LOAD-LOST trips or not. -/
theorem changeStateArming_leaves (new : SeqState) (cause : TestCause) (s : State) :
    let t := changeStateArming new cause s
    t.exh = s.exh ∧ t.lif = s.lif ∧ t.rtb.route = s.rtb.route ∧ t.oln = s.oln ∧ t.tst = s.tst ∧
      workingCopies t = workingCopies s := by
  simp [workingCopies]

theorem changeStateArming_moves {new : SeqState} (cause : TestCause) (s : State)
    (h : outsideTest new = true ∨ inTest s = true) :
    Moves true s (changeStateArming new cause s) :=
  ((enterState_moves s h).trans (.raised _ _ _ (by decide))).trans (judgeLoadLost_moves _ (.inr rfl))

/-- What a change of state leaves where LOAD-LOST does not trip. -/
structure StateEntered (new : SeqState) (s t : State) : Prop where
  tsq : t.tsq = { s.tsq with state := new, phaseBase := phaseTime s, phaseSince := s.now }
  lch : t.lch = s.lch
  xhu : t.xhu = s.xhu
  evu : t.evu = s.evu
  latch : t.pru.latch = s.pru.latch
  history : t.pru.history = s.pru.history
  conditions : ∀ c : TripClass, c ≠ .loadLost → condition t c = condition s c

theorem changeStateArming_entersQuietly {new : SeqState} (cause : TestCause)
    (h : NeedsLoadIn new s → NoLoadLossNow s) :
    StateEntered new s (changeStateArming new cause s) := by
  obtain ⟨htsq, hpru, hxhu, hlch, hevu, -⟩ := entered_keeps new cause s
  obtain ⟨p, he, hlatch, hhistory, hconditions⟩ := changeStateArming_rests cause h
  rw [hpru] at hlatch hhistory hconditions
  rw [he]
  exact ⟨htsq, hlch, hxhu, hevu, hlatch, hhistory, hconditions⟩

/-- What a change of state leaves where LOAD-LOST trips. -/
structure StateTripped (new : SeqState) (s t : State) : Prop where
  latch : latched t .loadLost = true
  others : ∀ c : TripClass, c ≠ .loadLost → latched t c = latched s c
  xhu : t.xhu = if latched s .loadLost then s.xhu else heldXhu s.xhu
  state : latched s .loadLost = false → t.tsq.state = trippedState new
  conditions : ∀ c : TripClass, c ≠ .loadLost → condition t c = condition s c

theorem changeStateArming_entersTripping {new : SeqState} (cause : TestCause)
    (hneeds : NeedsLoadIn new s) (h : ¬ NoLoadLossNow s) :
    StateTripped new s (changeStateArming new cause s) := by
  obtain ⟨htsq, hpru, hxhu, -⟩ := entered_keeps new cause s
  have hlatched : latched (entered new cause s) .loadLost = latched s .loadLost := by
    simp only [latched, hpru]
  rw [changeStateArming_trips cause hneeds h]
  refine ⟨spend_latched _, fun c hc => ?_, ?_, fun hopen => ?_, fun c hc => ?_⟩
  · rw [spend_others hc]
    simp only [latched, hpru]
  · rw [spend_xhu, hlatched, hxhu]
  · rw [spend_state (hlatched.trans hopen), htsq]
  · rw [spend_condition _ hc hc]
    simp only [condition, hpru]

/-! ## The order and its reply (R156 to R158) -/

/-- An order that has joined the outstanding set. -/
abbrev joined (o : OrderName) (dt : Nat) (tag : Byte) (s : State) : State :=
  joinOutstanding (orderCode o) tag (later dt s)

/-- An order answered at once: beside the controller port nothing changes. -/
theorem reply_joined (o : OrderName) (dt : Nat) (tag : Byte) (code : ReplyCode) (d : Option Detail)
    (h : Settled s) : reply o tag code d none (joined o dt tag s) =
      answered { tag := tag, kind := orderCode o, code := code, detail := d, payload := none }
        (later dt s) :=
  reply_join (s := later dt s) h o tag code d none

/-- An order is answered behind what it has raised from `w` on: beside the controller port the reply moves
nothing. -/
theorem reply_moved {b : Bool} (o : OrderName) (dt : Nat) (tag : Byte) {w u : State}
    (hother : orderCode o ≠ orderCode .tare) (h : Settled s) (m : Moves b w u)
    (hcpt : w.cpt = (joined o dt tag s).cpt) (hntu : w.ntu = s.ntu) :
    ∃ c : Cpt, reply o tag .done none none u = { u with cpt := c } ∧
      ReplyFormed (plainReply o tag .done) s { u with cpt := c } := by
  have hsettled : Settled w := by
    unfold Settled
    rw [hcpt, hntu]
    exact h
  obtain ⟨os, hos, hreply⟩ := reply_newest (o := o) (tag := tag) (m.settled hsettled).1
    (m.newest hother ⟨s.cpt.outstanding, congrArg Cpt.outstanding hcpt, rfl⟩) .done
  exact ⟨_, hreply, answered_formed _ hos⟩

end Sys2Proof.Machine
end

section
/-!
SUPPORT. ARM (O40): its checks in their order, and the test it holds (R86 to R88).
-/

namespace Sys2Proof.Machine

/-- The checks of R87, read from the model and from the manual. -/
theorem armRefusal_eq (r : Specimen) (s : State) : armRefusal r s = armAnswer r s := by
  have hreceived : receivedRangeValid s = false ↔
      ∀ g, s.lch.received = some g → s.lch.cal[g] = none := by
    unfold receivedRangeValid calValid
    cases s.lch.received <;> simp
  unfold armRefusal armAnswer
  simp only [valid, hasContent, workingCopies, Bool.not_eq_true', Option.isSome_eq_false_iff,
    Option.isNone_iff_eq_none, List.mem_cons, List.not_mem_nil, or_false, not_or, hreceived]
  cases s.lch.received <;> simp

/-- The checks of R87 that all pass: what the armed test stands on. -/
structure ArmPasses (s : State) : Prop where
  state : s.tsq.state = .idle ∨ s.tsq.state = .ended ∨ s.tsq.state = .aborted
  latch : latchEmpty s = true
  load : channelUp s .load = true

theorem armAnswer_none {r : Specimen} {s : State} (h : armAnswer r s = none) : ArmPasses s := by
  unfold armAnswer at h
  simp only [ite_eq_iff, reduceCtorEq, and_false, false_or, Bool.not_eq_false] at h
  obtain ⟨hstate, hlatch, -, -, -, -, -, hload, -⟩ := h
  exact ⟨by simpa [or_iff_not_imp_left] using hstate, hlatch, hload⟩

/-- The test ARM holds, before the change of state: the record and the slot, and nothing of the test before
(R88). -/
def specimenHeld (r : Specimen) (s : State) : State := evuDiscard (holdSpecimen r s)

theorem armTest_eq (r : Specimen) (s : State) :
    armTest r s = changeStateArming .armed .arm (specimenHeld r s) := rfl

/-- What an accepted ARM leaves, its reply aside (R86, R88). -/
theorem armTest_armed {s : State} (r : Specimen) (h : ArmPasses s) :
    StateEntered .armed (specimenHeld r s) (armTest r s) :=
  changeStateArming_entersQuietly .arm fun _ => .inl h.load

theorem armTest_phaseTime {s : State} (r : Specimen) (h : ArmPasses s) :
    phaseTime (armTest r s) = 0 := by
  have hstopped : s.tsq.state ≠ .running := by
    obtain hs | hs | hs := h.state <;> simp [hs]
  rw [armTest_eq, changeStateArming_phaseTime]
  exact if_neg hstopped

/-- ARMED with an empty latch, every table is in use but the lines', the levels and the other programs
(R186). -/
theorem armed_tableInUse {t : State} {r : Specimen} (hstate : t.tsq.state = .armed)
    (hlatch : latchEmpty t = true) (hspecimen : t.tsq.specimen = some r)
    (hslot : t.tsq.slot = some (slotOf r)) (x : TableId) :
    tableInUse t x = decide (x ≠ .lineset ∧ x ≠ .nlevels ∧
      ∀ k : Fin 4, x = .prog k → k = slotOf r) := by
  cases x <;> simp [tableInUse, hspecimen, hslot, hlatch, inTest, hstate, eq_comm]

/-- Settles O40: the refusal by the first check, and the change to ARMED, which with LOAD UP trips nothing. -/
theorem armHoldsSpecimen : Obligations.ArmHoldsSpecimen := by
  intro dt tag args s hready hargs
  let r := readSpecimen args
  let w := joined .arm dt tag s
  have hexec : exec (.arm dt tag args) s = .next (ownArm tag args w) :=
    congrArg Host.Outcome.next (takeOrder_ready hready hargs)
  have hrefusal : armRefusal (readSpecimen args) w = armAnswer (readSpecimen args) s := armRefusal_eq _ w
  split
  · rename_i code check hcheck
    have hown : ownArm tag args w = reply .arm tag code (some (.arm check)) none w := by
      simp only [ownArm, hrefusal, hcheck]
    rw [hexec, hown]
    exact congrArg _ (reply_joined .arm dt tag code (some (.arm check)) hready.1)
  · rename_i hnone
    have hpass : ArmPasses w := armAnswer_none hnone
    have hown : ownArm tag args w = reply .arm tag .done none none (armTest r w) := by
      simp only [ownArm, hrefusal, hnone]
      rfl
    have hmoves : Moves true (specimenHeld r w) (armTest r w) :=
      changeStateArming_moves .arm _ (.inl rfl)
    obtain ⟨c, hreply, hformed⟩ := reply_moved .arm dt tag (by decide) hready.1 hmoves rfl rfl
    obtain ⟨htsq, hlch, hxhu, hevu, hlatch, hhistory, -⟩ := armTest_armed r hpass
    obtain ⟨hexh, hlif, hroute, holn, htst, hcopies⟩ :=
      changeStateArming_leaves .armed .arm (specimenHeld r w)
    have htime : testTime (armTest r w) = 0 := changeStateArming_testTime .armed .arm (specimenHeld r w)
    have hresult : resultSummary (armTest r w) =
        { fields := ResultFields.empty, duration := 0, fm := none, slipCount := 0, milestones := 0
          overflow := false } := if_neg (by rw [hevu]; exact Bool.false_ne_true)
    exact ⟨_, hexec.trans (congrArg _ (hown.trans hreply)), hformed, congrArg Tsq.state htsq,
      congrArg Tsq.specimen htsq, congrArg Tsq.slot htsq, htime, armTest_phaseTime r hpass,
      congrArg Tsq.phase htsq, congrArg Tsq.endCause htsq, hlch, hresult, congrArg Evu.list hevu,
      fun x _ => armed_tableInUse (congrArg Tsq.state htsq) ((latchEmpty_congr hlatch).trans hpass.latch)
        (congrArg Tsq.specimen htsq) (congrArg Tsq.slot htsq) x,
      hxhu, hexh, hlif, hroute, holn, hlatch, hhistory, htst, hcopies⟩

end Sys2Proof.Machine
end

section
/-!
SUPPORT. DISARM, RELEASE and ABORT (O41): a test is left, or ends.
-/

namespace Sys2Proof.Machine

/-! ## The change to IDLE (R89, R101) -/

/-- In IDLE the sequencer takes no notice of a trip (R102). -/
theorem spend_tsq {s : State} (c : TripClass) (h : s.tsq.state = .idle) : (spend c s).tsq = s.tsq := by
  have hseq : ∀ u, u.tsq.state = .idle → sequencerTrip c u = u := by
    intro u hu
    simp only [sequencerTrip, hu]
  unfold spend trip
  split
  · rfl
  · simp [hseq, h]

/-- LOAD-LOST does not trip on a change to IDLE: no jog goes on, or something speaks against it (R139). -/
def Quiet (s : State) : Prop := jogActive s = false ∨ NoLoadLossNow s

/-- What the change to IDLE leaves, LOAD-LOST being judged on it. -/
structure Left (s t : State) : Prop where
  tsq : t.tsq = { s.tsq with state := .idle, phaseBase := phaseTime s, phaseSince := s.now }
  evu : t.evu = s.evu
  quiet : Quiet s → t.xhu = s.xhu ∧ t.pru.latch = s.pru.latch ∧ t.pru.history = s.pru.history
  trips : ¬ Quiet s → latched t .loadLost = true ∧ t.xhu.demand = s.xhu.demand ∧
    (latched s .loadLost = false → t.xhu.mode = .hold)

theorem needsLoadIn_idle (s : State) : NeedsLoadIn .idle s ↔ jogActive s = true := by
  simp [NeedsLoadIn]

theorem changeStateArming_left (cause : TestCause) (s : State) :
    Left s (changeStateArming .idle cause s) := by
  obtain ⟨htsq, -, -, -, hevu, -⟩ := entered_keeps .idle cause s
  by_cases hquiet : Quiet s
  · have hrests : NeedsLoadIn .idle s → NoLoadLossNow s := fun hneeds =>
      hquiet.resolve_left (by simp [(needsLoadIn_idle s).1 hneeds])
    obtain ⟨htsqT, -, hxhu, hevuT, hlatch, hhistory, -⟩ := changeStateArming_entersQuietly cause hrests
    exact ⟨htsqT, hevuT, fun _ => ⟨hxhu, hlatch, hhistory⟩, fun h => absurd hquiet h⟩
  · obtain ⟨hjog, hnow⟩ := not_or.1 hquiet
    have hneeds := (needsLoadIn_idle s).2 (Bool.eq_true_of_not_eq_false hjog)
    obtain ⟨hlatched, -, hxhu, -⟩ := changeStateArming_entersTripping cause hneeds hnow
    have hstate : (entered .idle cause s).tsq.state = .idle := congrArg Tsq.state htsq
    refine ⟨?_, ?_, fun h => absurd h hquiet, fun _ => ⟨hlatched, by simp, fun hopen => ?_⟩⟩
    · rw [changeStateArming_trips cause hneeds hnow, spend_tsq _ hstate, htsq]
    · rw [changeStateArming_trips cause hneeds hnow, spend_evu _ (by simp [inTest, hstate]), hevu]
    · rw [hxhu, hopen]
      rfl

/-! ## The orders (R89, R100, R101) -/

section orders

variable {s : State} (dt : Nat) (tag : Byte) (h : Ready s)
include h

theorem disarm_left (hstate : s.tsq.state = .armed) : ∃ t, exec (.disarm dt tag []) s = .next t ∧
    ReplyFormed (plainReply .disarm tag .done) s t ∧
    Left (releaseSpecimen ((later dt s).setTsq { s.tsq with slot := none })) t ∧
    t.lch = { s.lch with stress := none } ∧ t.exh = s.exh ∧ t.oln = s.oln ∧ t.lif = s.lif ∧
    t.tst = s.tst ∧ workingCopies t = workingCopies s := by
  let w := joined .disarm dt tag s
  let u := releaseSpecimen (w.setTsq { w.tsq with slot := none })
  have hown : ownDisarm tag [] w = reply .disarm tag .done none none (disarmTest w) := if_pos hstate
  have hexec : exec (.disarm dt tag []) s = .next (reply .disarm tag .done none none (disarmTest w)) :=
    congrArg Host.Outcome.next ((takeOrder_ready h rfl).trans hown)
  have hmoves : Moves true u (disarmTest w) := changeStateArming_moves .disarm _ (.inl rfl)
  obtain ⟨c, hreply, hformed⟩ := reply_moved .disarm dt tag (by decide) h.1 hmoves rfl rfl
  obtain ⟨htsq, hevu, hquiet, htrips⟩ := changeStateArming_left .disarm u
  obtain ⟨hexh, hlif, -, holn, htst, hcopies⟩ := changeStateArming_leaves .idle .disarm u
  have hlch : (disarmTest w).lch = u.lch := changeStateArming_lch .disarm u (by decide)
  exact ⟨_, hexec.trans (congrArg _ hreply), hformed, ⟨htsq, hevu, hquiet, htrips⟩, hlch, hexh, holn,
    hlif, htst, hcopies⟩

theorem release_left (hstate : s.tsq.state = .ended ∨ s.tsq.state = .aborted) :
    ∃ t, exec (.release dt tag []) s = .next t ∧ ReplyFormed (plainReply .release tag .done) s t ∧
      Left ((later dt s).setTsq { s.tsq with slot := none, phase := none }) t ∧
      testTime t = testTime (later dt s) ∧ t.lch = s.lch ∧ t.exh = s.exh ∧ t.oln = s.oln ∧
      t.lif = s.lif ∧ t.tst = s.tst ∧ workingCopies t = workingCopies s := by
  let w := joined .release dt tag s
  let u := w.setTsq { w.tsq with slot := none, phase := none }
  have hown : ownRelease tag [] w = reply .release tag .done none none (releaseTest w) := by
    have hw : w.tsq.state = .ended ∨ w.tsq.state = .aborted := hstate
    obtain hw | hw := hw <;> simp only [ownRelease, hw]
  have hexec : exec (.release dt tag []) s =
      .next (reply .release tag .done none none (releaseTest w)) :=
    congrArg Host.Outcome.next ((takeOrder_ready h rfl).trans hown)
  have hmoves : Moves true u (releaseTest w) := changeStateArming_moves .release _ (.inl rfl)
  obtain ⟨c, hreply, hformed⟩ := reply_moved .release dt tag (by decide) h.1 hmoves rfl rfl
  obtain ⟨htsq, hevu, hquiet, htrips⟩ := changeStateArming_left .release u
  obtain ⟨hexh, hlif, -, holn, htst, hcopies⟩ := changeStateArming_leaves .idle .release u
  have hlch : (releaseTest w).lch = u.lch := changeStateArming_lch .release u (by decide)
  have htime : testTime (releaseTest w) = testTime u := changeStateArming_testTime .idle .release u
  exact ⟨_, hexec.trans (congrArg _ hreply), hformed, ⟨htsq, hevu, hquiet, htrips⟩, htime, hlch, hexh,
    holn, hlif, htst, hcopies⟩

/-- ABORT ends the test as any other cause does. -/
theorem abort_ended (htest : inTest s = true) : ∃ t, exec (.abort dt tag []) s = .next t ∧
    ReplyFormed (plainReply .abort tag .done) s t ∧
    TestEnded .aborted .abortOrder (later dt s) t := by
  let w := joined .abort dt tag s
  have hown : ownAbort tag [] w =
      reply .abort tag .done none none (endTest .aborted .abortOrder w) := if_pos htest
  have hexec : exec (.abort dt tag []) s =
      .next (reply .abort tag .done none none (endTest .aborted .abortOrder w)) :=
    congrArg Host.Outcome.next ((takeOrder_ready h rfl).trans hown)
  have hmoves : Moves false w (endTest .aborted .abortOrder w) := endTest_moves w _ rfl
  obtain ⟨c, hreply, hformed⟩ := reply_moved .abort dt tag (by decide) h.1 hmoves rfl rfl
  obtain ⟨⟨hsearch, hsummary, hlist⟩, hstate, htimers, htime, hrecord, hphase, hhold, hstrain, hlatch,
    hsame⟩ := endTest_ended w .aborted .abortOrder
  exact ⟨_, hexec.trans (congrArg _ hreply), hformed, ⟨hsearch, hsummary, hlist⟩, hstate, htimers, htime,
    hrecord, hphase, hhold, hstrain, hlatch, hsame⟩

end orders

/-- Settles O41: the two ways to IDLE judge LOAD-LOST alike, and ABORT is an end of the test. -/
theorem testIsLeft : Obligations.TestIsLeft := by
  intro dt tag s h
  have hrefused (o : OrderName) : reply o tag .wrongState none none (joined o dt tag s) =
      answered (plainReply o tag .wrongState) (later dt s) :=
    reply_joined o dt tag .wrongState none h.1
  refine ⟨fun hstate => ?_, fun hstate => ?_, fun hstate => ?_, fun hstate => ?_,
    abort_ended dt tag h, fun htest => ?_⟩
  · obtain ⟨t, hexec, hformed, ⟨htsq, hevu, hquiet, htrips⟩, hlch, hexh, holn, hlif, htst, hcopies⟩ :=
      disarm_left dt tag h hstate
    exact ⟨t, hexec, hformed, congrArg Tsq.state htsq, congrArg Tsq.specimen htsq,
      congrArg Tsq.slot htsq, ⟨hquiet, htrips⟩, hlch, hexh, hevu, holn, hlif, htst, hcopies⟩
  · have hown : ownDisarm tag [] (joined .disarm dt tag s) =
        reply .disarm tag .wrongState none none (joined .disarm dt tag s) := if_neg hstate
    exact congrArg Host.Outcome.next ((takeOrder_ready h rfl).trans (hown.trans (hrefused .disarm)))
  · obtain ⟨t, hexec, hformed, ⟨htsq, hevu, hquiet, htrips⟩, htime, hlch, hexh, holn, hlif, htst,
      hcopies⟩ := release_left dt tag h hstate
    exact ⟨t, hexec, hformed, congrArg Tsq.state htsq, congrArg Tsq.slot htsq, congrArg Tsq.phase htsq,
      ⟨hquiet, htrips⟩, (congrArg Tsq.endCause htsq :), htime, hevu, hlch, hexh, holn, hlif, htst, hcopies⟩
  · have hown : ownRelease tag [] (joined .release dt tag s) =
        reply .release tag .wrongState none none (joined .release dt tag s) := by
      have hw : ¬ ((joined .release dt tag s).tsq.state = .ended ∨
        (joined .release dt tag s).tsq.state = .aborted) := hstate
      unfold ownRelease
      split <;> simp_all
    exact congrArg Host.Outcome.next ((takeOrder_ready h rfl).trans (hown.trans (hrefused .release)))
  · have hown : ownAbort tag [] (joined .abort dt tag s) =
        reply .abort tag .wrongState none none (joined .abort dt tag s) :=
      if_neg (Bool.eq_false_iff.1 htest)
    exact congrArg Host.Outcome.next ((takeOrder_ready h rfl).trans (hown.trans (hrefused .abort)))

end Sys2Proof.Machine
end

section
/-!
SUPPORT. HOLD and RESUME (O43): the two changes of state, the crosshead, and the phase's mode (R95, R96).
-/

namespace Sys2Proof.Machine

variable {s : State}

/-! ## After the change of state -/

/-- What HOLD and RESUME leave as their change of state has left it, the crosshead apart. -/
structure Follows (u t : State) : Prop where
  tsq : t.tsq = u.tsq
  now : t.now = u.now
  latch : t.pru.latch = u.pru.latch
  lch : t.lch = u.lch
  others : t.exh = u.exh ∧ t.lif = u.lif ∧ t.oln = u.oln ∧ t.tst = u.tst ∧
    workingCopies t = workingCopies u

/-- What HOLD and RESUME leave of a test, whether LOAD-LOST trips or not (R93, R95 to R97). -/
structure TestGoesOn (s t : State) : Prop where
  phase : t.tsq.phase = s.tsq.phase
  phaseTime : phaseTime t = phaseTime s
  testTime : testTime t = testTime s
  phaseTimer : t.tsq.phaseTimer = s.tsq.phaseTimer
  lch : t.lch = s.lch
  others : t.exh = s.exh ∧ t.oln = s.oln ∧ t.lif = s.lif ∧ t.tst = s.tst ∧
    workingCopies t = workingCopies s

theorem Follows.goesOn {new : SeqState} {cause : TestCause} {t : State} (hnew : new ≠ .armed)
    (h : Follows (changeStateArming new cause s) t) : TestGoesOn s t := by
  obtain ⟨hexh, hlif, -, holn, htst, hcopies⟩ := changeStateArming_leaves new cause s
  obtain ⟨hexhT, hlifT, holnT, htstT, hcopiesT⟩ := h.others
  refine ⟨?_, ?_, ?_, ?_, h.lch.trans (changeStateArming_lch cause s hnew), hexhT.trans hexh,
    holnT.trans holn, hlifT.trans hlif, htstT.trans htst, hcopiesT.trans hcopies⟩
  · simp [h.tsq]
  · rw [← changeStateArming_phaseTime new cause s]
    simp only [Machine.phaseTime, h.tsq, h.now]
  · rw [← changeStateArming_testTime new cause s]
    simp only [Machine.testTime, h.tsq, h.now]
  · simp [h.tsq]

theorem Follows.latched_eq {u t : State} (h : Follows u t) (c : TripClass) :
    latched t c = latched u c := by
  simp only [latched, h.latch]

/-! ## HOLD (R95) -/

theorem holdTest_follows (s : State) : Follows (changeStateArming .held .hold s) (holdTest s) := by
  constructor <;> simp [holdTest, workingCopies]

/-- A change of state moves the crosshead into HOLD at most. -/
theorem changeStateArming_heldXhu (new : SeqState) (cause : TestCause) (s : State) :
    heldXhu (changeStateArming new cause s).xhu = heldXhu s.xhu := by
  obtain ⟨-, -, hxhu, -⟩ := entered_keeps new cause s
  obtain ⟨p, he, -⟩ | he := changeStateArming_cases new cause s <;> rw [he]
  · exact congrArg heldXhu hxhu
  · rw [spend_xhu, ← hxhu]
    split <;> rfl

theorem holdTest_xhu (s : State) : (holdTest s).xhu = heldXhu s.xhu := by
  rw [← changeStateArming_heldXhu .held .hold s]
  simp [holdTest, enterHold_xhu]

theorem holdTest_moves (hstate : s.tsq.state = .running) : Moves true s (holdTest s) :=
  ((changeStateArming_moves .hold s (.inr (by simp [inTest, hstate]))).trans (enterHold_moves _)).trans
    (handMilestone_moves _ _)

/-! ## RESUME (R96) -/

theorem resumeTest_follows (s : State) :
    Follows (changeStateArming .running .resume s) (resumeTest s) := by
  constructor <;> simp [resumeTest, workingCopies]

theorem resumeTest_moves (hstate : s.tsq.state = .held) : Moves true s (resumeTest s) :=
  ((changeStateArming_moves .resume s (.inr (by simp [inTest, hstate]))).trans
    (handMilestone_moves _ _)).trans (requestPhaseMode_moves _)

/-- The state RESUME asks for its phase's mode in. -/
def resumed (s : State) : State :=
  handMilestone (phaseMilestone .resume (changeStateArming .running .resume s))
    (changeStateArming .running .resume s)

theorem resumeTest_eq (s : State) : resumeTest s = requestPhaseMode (resumed s) := rfl

/-- With an empty latch the phase's mode is granted (R51, R57). -/
theorem requestPhaseMode_requested {q : Phase} {r : Specimen} (hq : currentPhase s = some q)
    (hr : s.tsq.specimen = some r) (h : latchEmpty s = true) : Requested q r (requestPhaseMode s) := by
  simp only [requestPhaseMode, hq, hr]
  exact requestMode_requested q r h

/-- With a class latched no mode but HOLD is granted (R51). -/
theorem requestPhaseMode_refused (h : latchEmpty s = false) (hmode : s.xhu.mode = .hold) :
    (requestPhaseMode s).xhu.mode = .hold := by
  have hrefused : ∀ m, (requestMode m s).xhu.mode = .hold := by
    intro m
    cases m with
    | hold => exact enterHold_mode s
    | jog v d => exact hmode
    | positionRate | strainRate | stressRate => simp [requestMode, h, hmode]
  unfold requestPhaseMode
  split
  · exact hrefused _
  · exact hmode

theorem resumed_keeps (s : State) :
    (resumed s).tsq = (changeStateArming .running .resume s).tsq ∧
    (resumed s).xhu = (changeStateArming .running .resume s).xhu ∧
    (resumed s).pru.latch = (changeStateArming .running .resume s).pru.latch := by
  simp [resumed]

theorem resumeTest_requested (hnow : NoLoadLossNow s) {q : Phase} {r : Specimen}
    (hq : currentPhase s = some q) (hr : s.tsq.specimen = some r) (h : latchEmpty s = true) :
    Requested q r (resumeTest s) := by
  obtain ⟨htsq, -, hlatch⟩ := resumed_keeps s
  have hentered := changeStateArming_entersQuietly (new := .running) .resume fun _ => hnow
  rw [hentered.tsq] at htsq
  rw [resumeTest_eq]
  refine requestPhaseMode_requested (s := resumed s) ?_ (by rw [htsq]; exact hr)
    ((latchEmpty_congr (hlatch.trans hentered.latch)).trans h)
  rw [← hq]
  simp only [currentPhase, phaseAt, armedProgram, htsq]

theorem resumeTest_tripped (hnow : ¬ NoLoadLossNow s) (hopen : latched s .loadLost = false) :
    (resumeTest s).xhu.mode = .hold := by
  obtain ⟨-, hxhu, hlatch⟩ := resumed_keeps s
  have htripped := changeStateArming_entersTripping (new := .running) .resume (.inr (.inl rfl)) hnow
  rw [htripped.xhu, hopen] at hxhu
  rw [resumeTest_eq]
  refine requestPhaseMode_refused (s := resumed s) ?_ (by rw [hxhu]; rfl)
  exact (latchEmpty_congr hlatch).trans (latchEmpty_of_latched htripped.latch)

/-! ## The orders -/

section orders

variable (dt : Nat) (tag : Byte) (h : Ready s)
include h

theorem hold_held (hstate : s.tsq.state = .running) : ∃ t, exec (.hold dt tag []) s = .next t ∧
    ReplyFormed (plainReply .hold tag .done) s t ∧
    (NoLoadLossNow s → t.tsq.state = .held ∧ t.pru.latch = s.pru.latch) ∧
    (¬ NoLoadLossNow s → latched t .loadLost = true ∧
      (latched s .loadLost = false → t.tsq.state = .tripped)) ∧
    t.xhu = heldXhu s.xhu ∧ TestGoesOn (later dt s) t := by
  let w := joined .hold dt tag s
  have hown : ownHold tag [] w = reply .hold tag .done none none (holdTest w) := by
    have hw : w.tsq.state = .running := hstate
    simp only [ownHold, hw]
  have hexec : exec (.hold dt tag []) s = .next (reply .hold tag .done none none (holdTest w)) :=
    congrArg Host.Outcome.next ((takeOrder_ready h rfl).trans hown)
  obtain ⟨c, hreply, hformed⟩ :=
    reply_moved .hold dt tag (by decide) h.1 (holdTest_moves (s := w) hstate) rfl rfl
  have hfollows := holdTest_follows w
  obtain ⟨hphase, hphaseTime, htestTime, htimer, hlch, hothers⟩ := hfollows.goesOn (by decide)
  refine ⟨_, hexec.trans (congrArg _ hreply), hformed, fun hnow => ?_, fun hnow => ?_, holdTest_xhu w,
    hphase, hphaseTime, htestTime, htimer, hlch, hothers⟩
  · have hentered := changeStateArming_entersQuietly (s := w) (new := .held) .hold fun _ => hnow
    exact ⟨congrArg Tsq.state (hfollows.tsq.trans hentered.tsq), hfollows.latch.trans hentered.latch⟩
  · have htripped := changeStateArming_entersTripping (s := w) (new := .held) .hold
      (.inr (.inr (.inl rfl))) hnow
    exact ⟨(hfollows.latched_eq _).trans htripped.latch,
      fun hopen => (congrArg Tsq.state hfollows.tsq).trans (htripped.state hopen)⟩

theorem resume_runs (hstate : s.tsq.state = .held) : ∃ t, exec (.resume dt tag []) s = .next t ∧
    ReplyFormed (plainReply .resume tag .done) s t ∧
    (NoLoadLossNow s → t.tsq.state = .running ∧ t.pru.latch = s.pru.latch ∧
      ∀ (q : Phase) (r : Specimen), currentPhase s = some q → s.tsq.specimen = some r →
        latchEmpty s = true → Requested q r t) ∧
    (¬ NoLoadLossNow s → latched t .loadLost = true ∧
      (latched s .loadLost = false → t.tsq.state = .tripped ∧ t.xhu.mode = .hold)) ∧
    t.xhu.demand = s.xhu.demand ∧ t.xhu.pos = s.xhu.pos ∧ TestGoesOn (later dt s) t := by
  let w := joined .resume dt tag s
  have hown : ownResume tag [] w = reply .resume tag .done none none (resumeTest w) := if_pos hstate
  have hexec : exec (.resume dt tag []) s = .next (reply .resume tag .done none none (resumeTest w)) :=
    congrArg Host.Outcome.next ((takeOrder_ready h rfl).trans hown)
  obtain ⟨c, hreply, hformed⟩ :=
    reply_moved .resume dt tag (by decide) h.1 (resumeTest_moves (s := w) hstate) rfl rfl
  have hfollows := resumeTest_follows w
  obtain ⟨hphase, hphaseTime, htestTime, htimer, hlch, hothers⟩ := hfollows.goesOn (by decide)
  have hdemand : ∀ u, (resumeTest u).xhu.demand = u.xhu.demand ∧ (resumeTest u).xhu.pos = u.xhu.pos := by
    simp [resumeTest]
  refine ⟨_, hexec.trans (congrArg _ hreply), hformed, fun hnow => ?_, fun hnow => ?_, (hdemand w).1,
    (hdemand w).2, hphase, hphaseTime, htestTime, htimer, hlch, hothers⟩
  · have hentered := changeStateArming_entersQuietly (s := w) (new := .running) .resume fun _ => hnow
    refine ⟨congrArg Tsq.state (hfollows.tsq.trans hentered.tsq), hfollows.latch.trans hentered.latch,
      fun q r hq hr hempty => ?_⟩
    obtain ⟨hmode, hstep, hstrain, hstress, hrest⟩ :=
      resumeTest_requested (s := w) hnow (q := q) (r := r) hq hr hempty
    exact ⟨hmode, hstep, hstrain, hstress, hrest⟩
  · have htripped := changeStateArming_entersTripping (s := w) (new := .running) .resume
      (.inr (.inl rfl)) hnow
    exact ⟨(hfollows.latched_eq _).trans htripped.latch, fun hopen =>
      ⟨(congrArg Tsq.state hfollows.tsq).trans (htripped.state hopen),
        resumeTest_tripped (s := w) hnow hopen⟩⟩

end orders

/-- Settles O43: the two changes of state on which LOAD-LOST is judged, and the answers that change
nothing. -/
theorem holdAndResume : Obligations.HoldAndResume := by
  intro dt tag s h
  refine ⟨fun hstate => ?_, fun hstate => ?_, fun hrun hheld => ?_, fun hstate => ?_, fun hstate => ?_⟩
  · obtain ⟨t, hexec, hformed, hquiet, htrips, hxhu, hphase, hphaseTime, htestTime, htimer, hlch,
      hothers⟩ := hold_held dt tag h hstate
    exact ⟨t, hexec, hformed, hquiet, htrips, hphase, hphaseTime, htestTime, htimer, hxhu, hlch, hothers⟩
  · have hown : ownHold tag [] (joined .hold dt tag s) =
        reply .hold tag .done none none (joined .hold dt tag s) := by
      have hw : (joined .hold dt tag s).tsq.state = .held := hstate
      simp only [ownHold, hw]
    exact congrArg Host.Outcome.next
      ((takeOrder_ready h rfl).trans (hown.trans (reply_joined .hold dt tag .done none h.1)))
  · have hown : ownHold tag [] (joined .hold dt tag s) =
        reply .hold tag .wrongState none none (joined .hold dt tag s) := by
      have hw : (joined .hold dt tag s).tsq.state ≠ .running ∧
        (joined .hold dt tag s).tsq.state ≠ .held := ⟨hrun, hheld⟩
      unfold ownHold
      split <;> simp_all
    exact congrArg Host.Outcome.next
      ((takeOrder_ready h rfl).trans (hown.trans (reply_joined .hold dt tag .wrongState none h.1)))
  · obtain ⟨t, hexec, hformed, hquiet, htrips, hdemand, hpos, hphase, hphaseTime, htestTime, htimer, hlch,
      hothers⟩ := resume_runs dt tag h hstate
    have hstands : phaseTime (later dt s) = phaseTime s := by
      have hl : (later dt s).tsq.state = .held := hstate
      simp only [phaseTime, hl, hstate]
      rfl
    exact ⟨t, hexec, hformed, hquiet, htrips, hphase, hphaseTime.trans hstands, htestTime, htimer,
      hdemand, hpos, hlch, hothers⟩
  · have hown : ownResume tag [] (joined .resume dt tag s) =
        reply .resume tag .wrongState none none (joined .resume dt tag s) := if_neg hstate
    exact congrArg Host.Outcome.next
      ((takeOrder_ready h rfl).trans (hown.trans (reply_joined .resume dt tag .wrongState none h.1)))

end Sys2Proof.Machine
end

section
/-!
SUPPORT. CLEAR-TRIP (O48): the recovery of the latched classes, and the clear (R104, R146, R147).
-/

namespace Sys2Proof.Machine

variable {s : State}

/-! ## Recovery (R146) -/

theorem recovered_iff (s : State) (c : TripClass) : recovered s c = true ↔ hasRecovered s c := by
  have hby : ∀ test : ProtSet → Bool,
      recoveredBy test s = true ↔ ∃ p, s.pru.protset = some p ∧ test p = true := by
    intro test
    unfold recoveredBy
    cases s.pru.protset <;> simp
  cases c with
  | tension1 | tension2 | compression => simp [recovered, hasRecovered, hby]
  | following => simp [recovered, hasRecovered, hby]
  | travel =>
    simp only [recovered, hasRecovered, Bool.and_eq_true]
    cases s.xhu.xset <;> simp
  | loadLost | positionLost => simp [recovered, hasRecovered]
  | driveFault => simp [recovered, hasRecovered, and_assoc]

/-- The refusal names the lowest latched class that has not recovered. -/
theorem find_unrecovered {c : TripClass} (hc : latched s c = true) (hr : recovered s c = false)
    (hlow : ∀ d : TripClass, (tripNumber d).val < (tripNumber c).val → latched s d = true →
      recovered s d = true) :
    ((latchedClasses s).find? fun d => !recovered s d) = some c := by
  have hsorted : allTrips.Pairwise fun a b => (tripNumber a).val < (tripNumber b).val := by decide
  have hmem : c ∈ allTrips := by cases c <;> decide
  obtain ⟨before, after, heq⟩ := List.append_of_mem hmem
  rw [heq] at hsorted
  rw [latchedClasses, List.find?_filter, List.find?_eq_some_iff_append]
  refine ⟨by simp [hc, hr], before, after, heq, fun d hd => ?_⟩
  have hlower := (List.pairwise_append.1 hsorted).2.2 d hd c (by simp)
  cases hl : latched s d with
  | false => simp
  | true => simp [hlow d hlower hl]

theorem find_recovered (h : ∀ c : TripClass, latched s c = true → recovered s c = true) :
    ((latchedClasses s).find? fun d => !recovered s d) = none := by
  rw [List.find?_eq_none]
  intro c hc
  simp [h c (List.mem_filter.1 hc).2]

/-! ## The clear (R147) -/

/-- The latch emptied, and the demand initialised where a DUMP-class class has been cleared. -/
def latchCleared (s : State) : State :=
  if dumpFunction s then initialiseDemand (emptyLatch s) else emptyLatch s

theorem clearTrips_eq (s : State) : clearTrips s =
    raise .trip .cleared (sequencerClear (dumpFunction s) (latchCleared s)) := rfl

theorem latchCleared_keeps (s : State) :
    (latchCleared s).tsq = s.tsq ∧ (latchCleared s).evu = s.evu ∧
    (latchCleared s).pru =
      { s.pru with latch := Vector.replicate 8 false, conditions := Vector.replicate 8 .clear
                   loadLossAt := none } ∧
    (latchCleared s).lif = s.lif ∧ (latchCleared s).rtb.route = s.rtb.route := by
  unfold latchCleared
  split <;> simp [emptyLatch, clearConditions]

theorem latchCleared_demand (s : State) : (latchCleared s).xhu.demand =
    if dumpFunction s then some (limited s.xhu.xset s.xhu.pos) else s.xhu.demand := by
  unfold latchCleared
  split
  · exact initialiseDemand_demand (emptyLatch s)
  · rfl

theorem latchCleared_latched (s : State) (c : TripClass) : latched (latchCleared s) c = false := by
  obtain ⟨-, -, hpru, -⟩ := latchCleared_keeps s
  simp [latched, hpru]

theorem latchCleared_condition (s : State) (c : TripClass) :
    condition (latchCleared s) c = .clear := by
  obtain ⟨-, -, hpru, -⟩ := latchCleared_keeps s
  simp [condition, hpru]

theorem latchCleared_moves (s : State) : Moves true s (latchCleared s) := by
  have hempty : Moves true s (emptyLatch s) := .after (clearConditions_moves _) (.quiet rfl)
  unfold latchCleared
  split
  · exact hempty.trans (initialiseDemand_moves _)
  · exact hempty

/-- A TRIPPED test goes on, HELD, where no DUMP-class class has been cleared (R104). -/
def Resumable (s : State) : Prop := s.tsq.state = .tripped ∧ dumpFunction s = false

/-- LOAD-LOST trips anew on the change to HELD (R104, R139). -/
def TripsAgain (s : State) : Prop :=
  s.tsq.state = .tripped ∧ dumpFunction s = false ∧ channelUp s .load = false ∧
    ∃ p, s.pru.protset = some p ∧ p.loadLossMs ≤ 0

theorem tripsAgain_iff (s : State) :
    TripsAgain s ↔ Resumable s ∧ ¬ NoLoadLossNow (latchCleared s) := by
  obtain ⟨-, -, hpru, hlif, hroute⟩ := latchCleared_keeps s
  have hup : channelUp (latchCleared s) .load = channelUp s .load := by
    simp only [channelUp, channelUpUnder, laneUp, hlif, hroute]
  simp [TripsAgain, Resumable, NoLoadLossNow, latchCleared_condition, hup, hpru, and_assoc]

theorem clearTrips_held (h : Resumable s) : clearTrips s =
    raise .trip .cleared (changeStateArming .held .clearTrip (latchCleared s)) := by
  obtain ⟨htsq, -⟩ := latchCleared_keeps s
  simp [clearTrips_eq, sequencerClear, htsq, h.1, h.2]

theorem clearTrips_ends (hstate : s.tsq.state = .tripped) (hdump : dumpFunction s = true) :
    clearTrips s = raise .trip .cleared (endTest .aborted .trip (latchCleared s)) := by
  obtain ⟨htsq, -⟩ := latchCleared_keeps s
  simp [clearTrips_eq, sequencerClear, htsq, hstate, hdump]

theorem clearTrips_outside (hstate : s.tsq.state ≠ .tripped) :
    clearTrips s = raise .trip .cleared (latchCleared s) := by
  obtain ⟨htsq, -⟩ := latchCleared_keeps s
  simp [clearTrips_eq, sequencerClear, htsq, hstate]

/-! ## What the clear leaves (R104, R147) -/

/-- The end of a test moves LOAD-LOST's condition only. -/
theorem endTest_condition {c : TripClass} (h : c ≠ .loadLost) (new : SeqState) (cause : EndCause)
    (s : State) : condition (endTest new cause s) c = condition s c := by
  have hhold : ∀ u, condition (enterHold u) c = condition u c := fun u => settleLoadLost_condition _ h
  have hsame : ∀ u v : State, u.pru = v.pru → condition u c = condition v c := fun u v huv => by
    simp only [condition, huv]
  unfold endTest
  dsimp only
  rw [settleLoadLost_condition _ h]
  refine Eq.trans ?_ (hhold (s.setTsq { s.tsq with
    state := new, phaseBase := phaseTime s, phaseSince := s.now, phaseTimer := none
    testTime := testTime s, limitAt := none, endCause := some cause }))
  exact hsame _ _ (by split <;> simp)

/-- The protection after a clear, the state of the sequencer apart. -/
structure ProtectionCleared (s t : State) : Prop where
  classes : ∀ c : TripClass, latched t c = true ↔ c = .loadLost ∧ TripsAgain s
  history : ¬ TripsAgain s → t.pru.history = s.pru.history
  conditions : ∀ c : TripClass, c ≠ .loadLost → condition t c = .clear

/-- A clear that trips nothing anew. -/
theorem ProtectionCleared.of_rest {t : State} (hagain : ¬ TripsAgain s)
    (hlatch : t.pru.latch = (latchCleared s).pru.latch)
    (hhistory : t.pru.history = (latchCleared s).pru.history)
    (hconditions : ∀ c : TripClass, c ≠ .loadLost → condition t c = condition (latchCleared s) c) :
    ProtectionCleared s t := by
  obtain ⟨-, -, hpru, -⟩ := latchCleared_keeps s
  refine ⟨fun c => ?_, fun _ => by rw [hhistory, hpru],
    fun c hc => (hconditions c hc).trans (latchCleared_condition s c)⟩
  have hopen : latched t c = false := by
    rw [← latchCleared_latched s c]
    simp only [latched, hlatch]
  simp [hopen, hagain]

theorem ProtectionCleared.raised {t : State} (h : ProtectionCleared s t) (src : Source)
    (d : NoticeDetail) : ProtectionCleared s (raise src d t) := by
  have hpru : (raise src d t).pru = t.pru := by simp
  constructor <;> simp only [latched, condition, hpru]
  · exact h.classes
  · exact h.history
  · exact h.conditions

theorem clearTrips_protection (s : State) : ProtectionCleared s (clearTrips s) := by
  by_cases hresume : Resumable s
  · rw [clearTrips_held hresume]
    refine ProtectionCleared.raised ?_ .trip .cleared
    by_cases hnow : NoLoadLossNow (latchCleared s)
    · obtain ⟨-, -, -, -, hlatch, hhistory, hconditions⟩ :=
        changeStateArming_entersQuietly (new := .held) .clearTrip fun _ => hnow
      exact .of_rest (fun h => ((tripsAgain_iff s).1 h).2 hnow) hlatch hhistory hconditions
    · obtain ⟨hlatched, hothers, -, -, hconditions⟩ := changeStateArming_entersTripping (new := .held)
        .clearTrip (.inr (.inr (.inl rfl))) hnow
      have hagain : TripsAgain s := (tripsAgain_iff s).2 ⟨hresume, hnow⟩
      refine ⟨fun c => ?_, fun h => absurd hagain h,
        fun c hc => (hconditions c hc).trans (latchCleared_condition s c)⟩
      by_cases hc : c = .loadLost
      · simp [hc, hlatched, hagain]
      · simp [hc, hothers c hc, latchCleared_latched]
  · have hagain : ¬ TripsAgain s := fun h => hresume ((tripsAgain_iff s).1 h).1
    by_cases hstate : s.tsq.state = .tripped
    · have hdump : dumpFunction s = true := Bool.eq_true_of_not_eq_false fun h => hresume ⟨hstate, h⟩
      rw [clearTrips_ends hstate hdump]
      exact (ProtectionCleared.of_rest hagain (by simp) (by simp)
        fun c hc => endTest_condition hc _ _ _).raised _ _
    · rw [clearTrips_outside hstate]
      exact (ProtectionCleared.of_rest hagain rfl rfl fun _ _ => rfl).raised _ _

/-- The sequencer after a clear (R104). -/
structure TestCleared (s t : State) : Prop where
  ended : s.tsq.state = .tripped → dumpFunction s = true → t.tsq.state = .aborted ∧
    t.tsq.endCause = some .trip ∧ t.tsq.specimen = none ∧ t.xhu.mode = .hold
  held : s.tsq.state = .tripped → dumpFunction s = false → ¬ TripsAgain s → t.tsq.state = .held
  again : TripsAgain s → t.tsq.state = .tripped ∧ t.xhu.mode = .hold
  outside : s.tsq.state ≠ .tripped → t.tsq = s.tsq ∧ t.evu = s.evu

theorem clearTrips_test (s : State) : TestCleared s (clearTrips s) where
  ended hstate hdump := by
    rw [clearTrips_ends hstate hdump]
    have hxhu := endTest_xhu (latchCleared s) .aborted .trip
    simp [endTest_tsq, endedTsq, hxhu, heldXhu]
  held hstate hdump hagain := by
    have hnow : NoLoadLossNow (latchCleared s) :=
      not_not.1 fun h => hagain ((tripsAgain_iff s).2 ⟨⟨hstate, hdump⟩, h⟩)
    have hentered := changeStateArming_entersQuietly (new := .held) .clearTrip fun _ => hnow
    rw [clearTrips_held ⟨hstate, hdump⟩]
    simp [hentered.tsq]
  again hagain := by
    obtain ⟨hresume, hnow⟩ := (tripsAgain_iff s).1 hagain
    have htripped := changeStateArming_entersTripping (new := .held) .clearTrip
      (.inr (.inr (.inl rfl))) hnow
    have hopen := latchCleared_latched s .loadLost
    rw [clearTrips_held hresume]
    simp [htripped.state hopen, htripped.xhu, hopen, heldXhu, trippedState]
  outside hstate := by
    obtain ⟨htsq, hevu, -⟩ := latchCleared_keeps s
    rw [clearTrips_outside hstate]
    simp [htsq, hevu]

/-- What a clear leaves, whatever it clears. -/
theorem clearTrips_leaves (s : State) : (clearTrips s).lch.last = s.lch.last ∧
    (clearTrips s).lch.tare = s.lch.tare ∧ (clearTrips s).xhu.pos = s.xhu.pos ∧
    (clearTrips s).oln = s.oln ∧ (clearTrips s).lif = s.lif ∧ (clearTrips s).tst = s.tst ∧
    workingCopies (clearTrips s) = workingCopies s := by
  unfold clearTrips sequencerClear
  dsimp only
  (repeat' split) <;> simp [workingCopies, emptyLatch]

theorem clearTrips_demand (s : State) : (clearTrips s).xhu.demand =
    if dumpFunction s then some (limited s.xhu.xset s.xhu.pos) else s.xhu.demand := by
  rw [← latchCleared_demand, clearTrips_eq, sequencerClear]
  (repeat' split) <;> simp

theorem clearTrips_moves (s : State) : Moves true s (clearTrips s) := by
  rw [clearTrips_eq]
  refine ((latchCleared_moves s).trans ?_).trans (.raised _ _ _ (by decide))
  unfold sequencerClear
  split
  · rename_i hstate
    split
    · exact endTest_moves _ _ rfl
    · exact changeStateArming_moves _ _ (.inr (by simp [inTest, hstate]))
  · exact .refl _

/-! ## The order (R146, R147) -/

/-- Settles O48: the empty latch, the refusal by the lowest class, and the clear with its two ends. -/
theorem clearTripEmptiesLatch : Obligations.ClearTripEmptiesLatch := by
  intro dt tag s h
  let w := joined .clearTrip dt tag s
  have hexec : ∀ {t}, ownClearTrip tag [] w = t → exec (.clearTrip dt tag []) s = .next t :=
    fun hown => congrArg Host.Outcome.next ((takeOrder_ready h rfl).trans hown)
  refine ⟨fun hempty => hexec ?_, fun c hc hr hlow => hexec ?_, fun hlatch hall => ?_⟩
  · have hown : ownClearTrip tag [] w = reply .clearTrip tag .done none none w := if_pos hempty
    exact hown.trans (reply_joined .clearTrip dt tag .done none h.1)
  · have hfound := find_unrecovered (s := w) hc
      (Bool.eq_false_iff.2 fun hrec => hr ((recovered_iff w c).1 hrec))
      fun d hd hl => (recovered_iff w d).2 (hlow d hd hl)
    have hown : ownClearTrip tag [] w =
        reply .clearTrip tag .conditionPresent (some (.tripClass c)) none w := by
      have hw : latchEmpty w = false := latchEmpty_of_latched (s := w) hc
      simp only [ownClearTrip, hw, hfound]
      rfl
    exact hown.trans (reply_joined .clearTrip dt tag .conditionPresent (some (.tripClass c)) h.1)
  · have hfound := find_recovered (s := w) fun c hc => (recovered_iff w c).2 (hall c hc)
    have hown : ownClearTrip tag [] w = reply .clearTrip tag .done none none (clearTrips w) := by
      have hw : latchEmpty w = false := hlatch
      simp only [ownClearTrip, hw, hfound]
      rfl
    obtain ⟨c, hreply, hformed⟩ :=
      reply_moved .clearTrip dt tag (by decide) h.1 (clearTrips_moves w) rfl rfl
    obtain ⟨hlatched, hhistory, hconditions⟩ := clearTrips_protection w
    obtain ⟨hended, hheld, hagain, houtside⟩ := clearTrips_test w
    exact ⟨_, hexec (hown.trans hreply), hformed, hlatched, hhistory, hconditions,
      clearTrips_demand w, hended, hheld, hagain, houtside, clearTrips_leaves w⟩

end Sys2Proof.Machine
end

section
/-!
SUPPORT. The course of a test on a force update, the Evaluation Unit apart: what break detection looks at
stays, and the test goes on, is TRIPPED, or has run out of phases (R94, R102, R111).
-/

namespace Sys2Proof.Machine

/-! ## What break detection looks at (R110, R120, R121) -/

/-- What break detection looks at, Fm apart, and the break force it leaves in the result. -/
def breakSight (s : State) : Int × Bool × Bool × List Int × Option Int :=
  (s.lch.last.net, s.evu.breakArmed, s.evu.breakSeen, s.evu.window, s.evu.result.breakForce)

/-- Fm stays, or a milestone of the force held, which is greater, has taken it over (R111). -/
def FmTaken (s t : State) : Prop :=
  t.evu.fm = s.evu.fm ∨ ∃ x, t.evu.fm = some x ∧ x.force = s.lch.last.net ∧
    ∀ m, s.evu.fm = some m → m.force < s.lch.last.net

/-- What break detection looks at stays, but for a milestone that takes Fm over. -/
structure Sighted (s t : State) : Prop where
  look : breakSight t = breakSight s
  fm : FmTaken s t

theorem Sighted.net {s t : State} (h : Sighted s t) : t.lch.last.net = s.lch.last.net :=
  congrArg Prod.fst h.look

theorem Sighted.of_fm {s t : State} (h : breakSight t = breakSight s) (hfm : t.evu.fm = s.evu.fm) :
    Sighted s t := ⟨h, .inl hfm⟩

theorem Sighted.trans {s t u : State} (h : Sighted s t) (h' : Sighted t u) : Sighted s u where
  look := h'.look.trans h.look
  fm := by
    have hnet := h.net
    obtain hfm | ⟨x, hx, hforce, hlower⟩ := h.fm
    · have hnext := h'.fm
      unfold FmTaken at *
      rwa [hfm, hnet] at hnext
    · obtain hfm' | ⟨y, hy, hforce', hlower'⟩ := h'.fm
      · exact .inr ⟨x, hfm'.trans hx, hforce, hlower⟩
      · exact absurd (hlower' x hx) (by omega)

/-- One act after another, the later one given first. -/
theorem Sighted.after {s t u : State} (h' : Sighted t u) (h : Sighted s t) : Sighted s u := h.trans h'

/-! ## The course of the test -/

/-- The test goes on in its state, or the part stays out of a test; the crosshead stays in HOLD out of
RUNNING. -/
structure GoesOn (s t : State) : Prop where
  state : t.tsq.state = s.tsq.state
  specimen : t.tsq.specimen = s.tsq.specimen
  endCause : t.tsq.endCause = s.tsq.endCause
  latch : latchEmpty s = false → latchEmpty t = false
  mode : s.tsq.state ≠ .running → s.xhu.mode = .hold → t.xhu.mode = .hold

/-- A trip has taken the test to TRIPPED (R102). -/
structure FellTripped (s t : State) : Prop where
  before : s.tsq.state = .running ∨ s.tsq.state = .held
  state : t.tsq.state = .tripped
  latch : latchEmpty t = false
  mode : t.xhu.mode = .hold

/-- The last phase of the test has ended (R94). -/
structure RanOut (s t : State) : Prop where
  before : s.tsq.state = .running
  state : t.tsq.state = .ended
  endCause : t.tsq.endCause = some .programEnd
  mode : t.xhu.mode = .hold

/-- The course of a test over an act. -/
def Course (s t : State) : Prop := GoesOn s t ∨ FellTripped s t ∨ RanOut s t

/-- An act that detects no break: it leaves what break detection looks at, and, an ARMED test apart, which
a trip drops, the test takes its course. -/
structure Onward (s t : State) : Prop where
  sight : Sighted s t
  course : s.tsq.state ≠ .armed → Course s t

section
variable {s t u : State}

theorem GoesOn.trans (h : GoesOn s t) (h' : GoesOn t u) : GoesOn s u where
  state := h'.state.trans h.state
  specimen := h'.specimen.trans h.specimen
  endCause := h'.endCause.trans h.endCause
  latch hl := h'.latch (h.latch hl)
  mode hrun hm := h'.mode (by rwa [h.state]) (h.mode hrun hm)

theorem FellTripped.stays (h : FellTripped s t) (h' : GoesOn t u) : FellTripped s u where
  before := h.before
  state := h'.state.trans h.state
  latch := h'.latch h.latch
  mode := h'.mode (by simp [h.state]) h.mode

theorem RanOut.stays (h : RanOut s t) (h' : GoesOn t u) : RanOut s u where
  before := h.before
  state := h'.state.trans h.state
  endCause := h'.endCause.trans h.endCause
  mode := h'.mode (by simp [h.state]) h.mode

/-- Out of RUNNING and HELD nothing happens to a test. -/
theorem Course.goesOn (h : Course s t) (hrun : s.tsq.state ≠ .running) (hheld : s.tsq.state ≠ .held) :
    GoesOn s t := by
  obtain h | h | h := h
  · exact h
  · exact (h.before.elim hrun hheld).elim
  · exact (hrun h.before).elim

theorem Course.armed (h : Course s t) (ha : s.tsq.state ≠ .armed) : t.tsq.state ≠ .armed := by
  obtain h | h | h := h
  · rwa [h.state]
  · simp [h.state]
  · simp [h.state]

theorem Course.trans (h : Course s t) (h' : Course t u) : Course s u := by
  obtain h | h | h := h
  · obtain h' | h' | h' := h'
    · exact .inl (h.trans h')
    · exact .inr (.inl { h' with before := h.state ▸ h'.before })
    · exact .inr (.inr { h' with before := h.state ▸ h'.before })
  · exact .inr (.inl (h.stays (h'.goesOn (by simp [h.state]) (by simp [h.state]))))
  · exact .inr (.inr (h.stays (h'.goesOn (by simp [h.state]) (by simp [h.state]))))

theorem Onward.trans (h : Onward s t) (h' : Onward t u) : Onward s u where
  sight := h.sight.trans h'.sight
  course ha := (h.course ha).trans (h'.course ((h.course ha).armed ha))

/-- One act after another, the later one given first. -/
theorem Onward.after (h' : Onward t u) (h : Onward s t) : Onward s u := h.trans h'

/-- An act that leaves the sequencer, the latch and the mode. -/
theorem Onward.quiet (hsight : Sighted s t) (htsq : t.tsq = s.tsq)
    (hlatch : t.pru.latch = s.pru.latch) (hmode : t.xhu.mode = s.xhu.mode) : Onward s t where
  sight := hsight
  course _ := .inl
    { state := by rw [htsq]
      specimen := by rw [htsq]
      endCause := by rw [htsq]
      latch := by rw [latchEmpty_congr hlatch]; exact id
      mode := fun _ hm => hmode.trans hm }

end

variable (s : State)

theorem Onward.refl : Onward s s := .quiet (.of_fm rfl rfl) rfl rfl rfl

theorem inOpenOrder_onward (acts : List (State → State)) (h : ∀ act ∈ acts, ∀ t, Onward t (act t)) :
    Onward s (inOpenOrder acts s) :=
  inOpenOrder_keeps (P := Onward s) acts s (fun _ _ ht => ht.trans (.quiet (.of_fm rfl rfl) rfl rfl rfl))
    (fun act ha t ht => ht.trans (h act ha t)) (.refl s)

/-! ## Milestones and strain (R78, R111, R115) -/

theorem closeAtLimit_breakForce (x : EvalSample) :
    (closeAtLimit x s).evu.result.breakForce = s.evu.result.breakForce := by
  unfold closeAtLimit endPlateau
  split
  · rfl
  · rfl
  · dsimp only
    split <;> simp

theorem closeAtLimit_onward (x : EvalSample) : Onward s (closeAtLimit x s) :=
  .quiet (.of_fm (by simp [breakSight, closeAtLimit_breakForce]) (by simp)) (by simp) (by simp) (by simp)

/-- A milestone of the force held takes Fm over, or leaves it (R111). -/
theorem handMilestone_sighted {m : Milestone} (h : m.sample.force = s.lch.last.net) :
    Sighted s (handMilestone m s) where
  look := by simp [breakSight]
  fm := by
    unfold handMilestone
    split
    · cases hfm : s.evu.fm with
      | none => exact .inr ⟨m.sample, by simp [higherForce], h, by simp [hfm]⟩
      | some r =>
        by_cases hlower : r.force < m.sample.force
        · exact .inr ⟨m.sample, by simp [higherForce, hlower], h, by simp [hfm, ← h, hlower]⟩
        · exact .inl (by simp [higherForce, hlower, hfm])
    · exact .inl (by simp)

theorem handMilestone_onward {m : Milestone} (h : m.sample.force = s.lch.last.net) :
    Onward s (handMilestone m s) :=
  .quiet (handMilestone_sighted s h) (by simp) (by simp) (by simp)

theorem handTrip_sighted (c : TripClass) : Sighted s (handTrip c s) := by
  unfold handTrip
  split
  · exact .after (handMilestone_sighted _ rfl) (.of_fm rfl rfl)
  · exact handMilestone_sighted _ rfl

theorem armsOpened_onward : Onward s (armsOpened s) := by
  obtain ⟨htsq, hlch, hpru, hxhu, hfm, -⟩ := armsOpened_keeps s
  exact .quiet (.of_fm (by simp [breakSight, armsOpened, spliceToCrosshead]) hfm) htsq
    (by rw [hpru]) (by rw [hxhu])

theorem noteRemovalStrain_onward (v : Int) : Onward s (noteRemovalStrain v s) := by
  refine .quiet (.of_fm ?_ (by simp)) (by simp) (by simp) (by simp)
  unfold noteRemovalStrain
  split <;> rfl

theorem raiseExt_onward (d : ExtDetail) : Onward s (raiseExt d s) :=
  .quiet (.of_fm (by simp [breakSight]) (by simp)) (by simp) (by simp) (by simp)

/-- EXT-REMOVED carries the force held (R77). -/
theorem removalNoted_onward (cause : RemovalCause) {t : State} (h : t.lch.last.net = s.lch.last.net) :
    Onward t (removalNoted s cause t) :=
  ((handMilestone_onward t h.symm).trans
    (noteRemovalStrain_onward _ _)).trans (raiseExt_onward _ _)

theorem removeArms_onward {react : Strain → State → State} (hr : ∀ st t, Onward t (react st t))
    (cause : RemovalCause) : Onward s (removeArms react cause s) := by
  cases h : inTest s with
  | true =>
    rw [removeArms_inTest h]
    refine inOpenOrder_keeps (P := Onward s) _ _
      (fun _ _ ht => ht.trans (.quiet (.of_fm rfl rfl) rfl rfl rfl)) (fun act ha t ht => ?_) (armsOpened_onward s)
    simp only [List.mem_cons, List.not_mem_nil, or_false] at ha
    obtain rfl | rfl := ha
    · exact ht.trans (hr _ t)
    · exact ht.trans (removalNoted_onward s cause ht.sight.net)
  | false =>
    rw [removeArms_outside h]
    exact (raiseExt_onward _ _).after (.quiet (.of_fm rfl rfl) rfl rfl rfl)

theorem requestRemoval_onward {react : Strain → State → State} (hr : ∀ st t, Onward t (react st t))
    (cause : RemovalCause) : Onward s (requestRemoval react cause s) := by
  have hopened : ∀ d x, Onward s (raiseExt d (s.setExh x)) := fun d x =>
    (raiseExt_onward _ d).after (.quiet (.of_fm rfl rfl) rfl rfl rfl)
  unfold requestRemoval
  split
  · exact hopened _ _
  · exact hopened _ _
  · exact removeArms_onward s hr cause
  · split
    · exact hopened _ _
    · exact .refl s
  · exact .refl s

theorem evuStrainLimit_onward (st : Strain) : Onward s (evuStrainLimit st s) := by
  unfold evuStrainLimit
  split
  · exact closeAtLimit_onward s _
  · exact .refl s

/-! ## Phases and the end of a test (R94, R98) -/

theorem endTest_sighted (new : SeqState) (cause : EndCause) : Sighted s (endTest new cause s) :=
  .of_fm (by simp [breakSight, endTest_evu, closedEvu]) (by simp [endTest_evu, closedEvu])

theorem phaseClosed_onward (k : Nat) (p : Phase) : Onward s (phaseClosed k p s) := by
  have hstopped : Onward s (s.setTsq { s.tsq with phaseTimer := none }) :=
    ⟨.of_fm rfl rfl, fun _ => .inl ⟨rfl, rfl, rfl, id, fun _ => id⟩⟩
  have hnoted := hstopped.trans (handMilestone_onward (s.setTsq { s.tsq with phaseTimer := none })
    (m := { kind := .phaseEnd, index := some k, sample := currentSample s, value := none }) rfl)
  unfold phaseClosed
  dsimp only
  split
  · exact hnoted.trans (requestRemoval_onward _ (fun st t => evuStrainLimit_onward t st) _)
  · exact hnoted

theorem endPhase_onward {k : Nat} {p : Phase} (hrun : s.tsq.state = .running) :
    Onward s (endPhase k p s) := by
  have hclosed := phaseClosed_onward s k p
  have hstill : (phaseClosed k p s).tsq.state = .running := by
    rw [(phaseClosed_keeps k p s).1]
    exact hrun
  refine hclosed.trans ?_
  rw [endPhase_eq]
  split
  · exact ⟨.of_fm (by simp [breakSight]) (by simp), fun _ => .inl
      { state := by simp
        specimen := by simp
        endCause := by simp
        latch := fun hl => (latchEmpty_congr (by simp)).trans hl
        mode := fun h => (h hstill).elim }⟩
  · exact ⟨endTest_sighted _ _ _, fun _ => .inr (.inr
      { before := hstill
        state := endTest_state _ _ _
        endCause := endTest_cause _ _ _
        mode := by rw [endTest_xhu]; rfl })⟩

theorem judgeEnd_onward (met : EndKind → Int → Bool) : Onward s (judgeEnd met s) := by
  obtain h | ⟨k, p, hrun, -, h⟩ := judgeEnd_cases s met <;> rw [h]
  · exact .refl s
  · exact endPhase_onward s hrun

theorem evuStrain_onward (st : Strain) : Onward s (evuStrain st s) := by
  unfold evuStrain
  split
  · exact (judgeEnd_onward _ _).after (closeAtLimit_onward s _)
  · exact .refl s

theorem offerStrain_onward (st : Strain) : Onward s (offerStrain st s) := by
  refine inOpenOrder_onward s _ fun act ha t => ?_
  simp only [List.mem_cons, List.not_mem_nil, or_false] at ha
  obtain rfl | rfl := ha
  · exact judgeEnd_onward t _
  · exact evuStrain_onward t st

/-! ## Trips (R102, R142) -/

theorem sequencerTrip_sighted (c : TripClass) : Sighted s (sequencerTrip c s) := by
  have hchange : ∀ new cause u, Sighted u (changeState new cause u) := fun new cause u =>
    .of_fm (by simp [breakSight]) (by simp)
  unfold sequencerTrip
  split
  · exact .after (hchange _ _ _) (.of_fm rfl rfl)
  · exact (hchange _ _ _).trans (handTrip_sighted _ c)
  · exact (hchange _ _ _).trans (handTrip_sighted _ c)
  · exact handTrip_sighted _ c
  all_goals exact .of_fm rfl rfl

theorem spend_sighted (c : TripClass) : Sighted s (spend c s) := by
  have hcount : ∀ x u, Sighted u (updateHistory c x u) := fun _ _ => .of_fm rfl rfl
  unfold spend trip
  split
  · exact .of_fm rfl rfl
  · refine .after (hcount _ _) (.after (sequencerTrip_sighted _ c) (.of_fm ?_ ?_))
    · simp [breakSight]
    · simp

/-- A class already in the latch changes its condition and its record only (R143). -/
theorem spend_again {c : TripClass} (h : latched s c = true) :
    (spend c s).tsq = s.tsq ∧ (spend c s).xhu = s.xhu := by
  have hlatched : latched (setCondition c .spent s) c = true := h
  unfold spend trip
  rw [if_pos hlatched]
  exact ⟨rfl, rfl⟩

/-- A class trips: a test in RUNNING or HELD is TRIPPED; elsewhere the state stays (R102). -/
theorem spend_onward (c : TripClass) : Onward s (spend c s) where
  sight := spend_sighted s c
  course ha := by
    have hlatch : latchEmpty (spend c s) = false := latchEmpty_of_latched (c := c) (spend_latched s)
    cases hc : latched s c with
    | true =>
      obtain ⟨htsq, hxhu⟩ := spend_again s hc
      exact .inl ⟨by rw [htsq], by rw [htsq], by rw [htsq], fun _ => hlatch,
        fun _ hm => by rw [hxhu]; exact hm⟩
    | false =>
      have hstate := spend_state hc
      have hmode := spend_hold hc
      have hspecimen : (spend c s).tsq.specimen = s.tsq.specimen :=
        (congrArg Dials.specimen (trip_dials (s := setCondition c .spent s) hc)).trans (if_neg ha)
      by_cases hin : s.tsq.state = .running ∨ s.tsq.state = .held
      · refine .inr (.inl ⟨hin, ?_, hlatch, hmode⟩)
        rw [hstate]
        obtain h | h := hin <;> rw [h] <;> rfl
      · refine .inl ⟨?_, hspecimen, by simp, fun _ => hlatch, fun _ _ => hmode⟩
        rw [hstate]
        cases h : s.tsq.state <;> simp_all [trippedState]

theorem setCondition_onward (c : TripClass) (x : Condition) : Onward s (setCondition c x s) :=
  .quiet (.of_fm rfl rfl) rfl rfl rfl

theorem judgeDelayed_onward (c : TripClass) (h : Bool) (d : Nat) :
    Onward s (judgeDelayed c h d s) := by
  unfold judgeDelayed
  split
  · split
    · split
      · exact spend_onward s c
      · exact setCondition_onward s c _
    · split
      · exact spend_onward s c
      · exact .refl s
    · exact .refl s
  · exact setCondition_onward s c _

theorem judgeTension2_onward (h : Bool) (n : Nat) : Onward s (judgeTension2 h n s) := by
  unfold judgeTension2
  split
  · split
    · split
      · exact spend_onward s _
      · exact setCondition_onward s _ _
    · split
      · exact spend_onward s _
      · exact setCondition_onward s _ _
    · exact .refl s
  · exact setCondition_onward s _ _

theorem protectForce_onward : Onward s (protectForce s) := by
  unfold protectForce
  split
  · exact .refl s
  · refine inOpenOrder_onward s _ fun act ha t => ?_
    simp only [List.mem_cons, List.not_mem_nil, or_false] at ha
    obtain rfl | rfl | rfl := ha
    · exact judgeDelayed_onward t _ _ _
    · exact judgeTension2_onward t _ _
    · exact judgeDelayed_onward t _ _ _

/-! ## The blocks that take a force update, the Evaluation Unit apart (R25) -/

theorem exhForce_onward : Onward s (exhForce s) := by
  unfold exhForce
  split
  · exact removeArms_onward s (fun st t => offerStrain_onward t st) _
  · exact .refl s

/-- What the stream and the Load Channel's own work may move is no part of the test. -/
theorem Onward.of_unloaded {s t : State} (h : unloaded t = unloaded s) : Onward s t :=
  .quiet (.of_fm (congrArg breakSight h :) (congrArg (fun u => u.evu.fm) h :))
    (congrArg State.tsq h :) (congrArg (fun u => u.pru.latch) h :) (congrArg (fun u => u.xhu.mode) h :)

/-- No block but the Evaluation Unit detects a break. -/
theorem otherForceActs_onward {before : Bool} {g : Fin 4} {act : State → State}
    (h : act ∈ [protectForce] ++ [sequencerForce, exhForce, streamForce, loadWork before g]) :
    Onward s (act s) := by
  simp only [List.cons_append, List.nil_append, List.mem_cons, List.not_mem_nil, or_false] at h
  obtain rfl | rfl | rfl | rfl | rfl := h
  · exact protectForce_onward s
  · exact judgeEnd_onward s _
  · exact exhForce_onward s
  · exact .of_unloaded (unloaded_streamForce s)
  · exact .of_unloaded (unloaded_loadWork before g s)

end Sys2Proof.Machine
end

section
/-!
SUPPORT. A break (O54): the update shows it once Fm and the window have taken the sample, and the Evaluation
Unit detects it unless the test has left RUNNING and HELD before (R99, R110, R120 to R122).
-/

namespace Sys2Proof.Machine

/-! ## The evaluations of a sample leave the course of the test (R112 to R119) -/

theorem GoesOn.of_parts {s t : State} (htsq : t.tsq = s.tsq) (hlatch : t.pru.latch = s.pru.latch)
    (hmode : t.xhu.mode = s.xhu.mode) : GoesOn s t where
  state := by rw [htsq]
  specimen := by rw [htsq]
  endCause := by rw [htsq]
  latch hl := (latchEmpty_congr hlatch).trans hl
  mode _ hm := hmode.trans hm

/-- An evaluation that detects no break, nor ends a phase. -/
structure Steady (s t : State) : Prop where
  sight : Sighted s t
  course : GoesOn s t

theorem Steady.trans {s t u : State} (h : Steady s t) (h' : Steady t u) : Steady s u :=
  ⟨h.sight.trans h'.sight, h.course.trans h'.course⟩

/-- An evaluation that leaves the break's part of the Evaluation Unit and the other blocks. -/
theorem Steady.of_parts {s t : State} (hsight : breakSight t = breakSight s)
    (hfm : t.evu.fm = s.evu.fm) (htsq : t.tsq = s.tsq) (hpru : t.pru = s.pru) (hxhu : t.xhu = s.xhu) :
    Steady s t :=
  ⟨.of_fm hsight hfm, .of_parts htsq (by rw [hpru]) (by rw [hxhu])⟩

variable (s : State)

theorem Steady.refl : Steady s s := .of_parts rfl rfl rfl rfl rfl

theorem recordMilestone_steady (m : Milestone) : Steady s (recordMilestone m s) :=
  .of_parts (by simp [breakSight]) (by simp) (by simp) (by simp) (by simp)

theorem closeAtLimit_steady (x : EvalSample) : Steady s (closeAtLimit x s) :=
  .of_parts (by simp [breakSight, closeAtLimit_breakForce]) (by simp) (by simp) (by simp) (by simp)

theorem endPlateau_steady (x : EvalSample) : Steady s (endPlateau x s) := by
  have hbreak : (endPlateau x s).evu.result.breakForce = s.evu.result.breakForce := by
    unfold endPlateau
    dsimp only
    split <;> simp
  exact .of_parts (by simp [breakSight, hbreak]) (by simp) (by simp) (by simp) (by simp)

theorem judgePlateau_steady (r : Specimen) (strain : Int) (x : EvalSample) :
    Steady s (judgePlateau r strain x s) := by
  have hcandidate : ∀ c, Steady s (s.setEvu { s.evu with candidate := c }) := fun _ =>
    .of_parts rfl rfl rfl rfl rfl
  unfold judgePlateau
  split
  · exact .refl s
  · dsimp only
    split
    · exact (hcandidate _).trans (endPlateau_steady _ x)
    · exact hcandidate _

theorem foundUpperYield_steady (fy : EvalSample) : Steady s (foundUpperYield fy s) :=
  (recordMilestone_steady s _).trans (.of_parts rfl rfl rfl rfl rfl)

theorem searchYield_steady (r : Specimen) (strain : Int) (x : EvalSample) :
    Steady s (searchYield r strain x s) := by
  have hfy : ∀ fy, Steady s (s.setEvu { s.evu with fy := fy }) := fun _ =>
    .of_parts rfl rfl rfl rfl rfl
  unfold searchYield
  split
  · exact .refl s
  · split
    · exact closeAtLimit_steady s x
    · dsimp only
      split
      · exact ((hfy _).trans (foundUpperYield_steady _ _)).trans (judgePlateau_steady _ _ _ _)
      · exact hfy _
  · split
    · exact closeAtLimit_steady s x
    · exact judgePlateau_steady s r strain x

theorem judgeChord_steady (x : EvalSample) (r : Specimen) (strain : Int) :
    Steady s (judgeChord x r strain s) := by
  unfold judgeChord
  split
  · split
    · exact (recordMilestone_steady s _).trans (.of_parts rfl rfl rfl rfl rfl)
    · exact .refl s
  · split
    · exact .refl s
    · split
      · exact (recordMilestone_steady s _).trans (.of_parts rfl rfl rfl rfl rfl)
      · exact .refl s
  · exact .refl s

theorem judgeProof_steady (x : EvalSample) (r : Specimen) (strain : Int) :
    Steady s (judgeProof x r strain s) := by
  unfold judgeProof
  split
  · split
    · exact (recordMilestone_steady s _).trans (.of_parts rfl rfl rfl rfl rfl)
    · exact .refl s
  · exact .refl s

theorem whileRunning_steady {f : Specimen → Int → State → State} (hf : ∀ r v t, Steady t (f r v t))
    (x : EvalSample) : Steady s (whileRunning f x s) := by
  unfold whileRunning
  split
  · split
    · exact hf _ _ s
    · exact .refl s
  · exact .refl s

/-- What precedes the break detection in the evaluations of a sample (R117 to R119). -/
def moduliJudged (x : EvalSample) (s : State) : State :=
  let t := whileRunning (judgeChord x) x s
  if s.evu.proof = .watching then whileRunning (judgeProof x) x t else t

theorem evaluateRest_eq (x : EvalSample) : evaluateRest x s = detectBreak x (moduliJudged x s) := by
  simp only [evaluateRest, moduliJudged, decide_eq_true_eq]

theorem moduliJudged_steady (x : EvalSample) : Steady s (moduliJudged x s) := by
  have hchord := whileRunning_steady s (fun r v t => judgeChord_steady t x r v) x
  unfold moduliJudged
  dsimp only
  split
  · exact hchord.trans (whileRunning_steady _ (fun r v t => judgeProof_steady t x r v) x)
  · exact hchord

/-! ## The sample taken by Fm and the window (R110, R120) -/

/-- Fm and the window with the sample of the present update. -/
def sampleTaken (s : State) : State :=
  takeForce (evaluationSample s) (trackMaximum (evaluationSample s) s)

/-- The greatest force with the force held counted in: Fm as the present update will leave it (R110). -/
def greatestForce (s : State) : Int :=
  max ((s.evu.fm.map EvalSample.force).getD s.lch.last.net) s.lch.last.net

variable {s} {t u : State} {r : Specimen}

/-- A milestone of the force held moves Fm no further than the update itself will (R111). -/
theorem Sighted.greatest (h : Sighted s t) : greatestForce t = greatestForce s := by
  have hnet := h.net
  unfold greatestForce
  rw [hnet]
  obtain hfm | ⟨x, hx, hforce, hlower⟩ := h.fm
  · rw [hfm]
  · rw [hx]
    cases hs : s.evu.fm with
    | none => simp [hforce]
    | some m =>
      have := hlower m hs
      simp only [Option.map_some, Option.getD_some]
      omega

theorem sampleTaken_fm (s : State) :
    ∃ m, (sampleTaken s).evu.fm = some m ∧ m.force = greatestForce s := by
  have hfm : (sampleTaken s).evu.fm = higherForce s.evu.fm (evaluationSample s) := rfl
  have hnet : (evaluationSample s).force = s.lch.last.net := rfl
  rw [hfm]
  unfold higherForce greatestForce
  cases s.evu.fm with
  | none => exact ⟨_, rfl, by simp [hnet]⟩
  | some m =>
    dsimp only
    split
    · refine ⟨_, rfl, ?_⟩
      simp only [hnet, Option.map_some, Option.getD_some] at *
      omega
    · refine ⟨m, rfl, ?_⟩
      simp only [hnet, Option.map_some, Option.getD_some] at *
      omega

/-- The window of four that a full or nearly full window becomes (R120). -/
theorem pushForce_four {w : List Int} {old f : Int} (hlen : 3 ≤ w.length)
    (hold : w[w.length - 3]? = some old) :
    (pushForce w f).length = 4 ∧ (pushForce w f).head? = some old ∧
      (pushForce w f).getLast? = some f := by
  obtain ⟨hlt, hget⟩ := List.getElem?_eq_some_iff.1 hold
  have hdrop : w.drop (w.length - 3) = old :: w.drop (w.length - 3 + 1) := by
    rw [← hget]
    exact List.drop_eq_getElem_cons hlt
  have hpush : pushForce w f = w.drop (w.length - 3) ++ [f] := by
    unfold pushForce
    split
    · rfl
    · rw [show w.length - 3 = 0 by omega]
      rfl
  rw [hpush]
  refine ⟨?_, by simp [hdrop], by simp⟩
  simp
  omega

/-! ## A break that the update shows (R121) -/

/-- The force held is a break against Fm and the window as the update will leave them. -/
def BreakDue (r : Specimen) (s : State) : Prop :=
  s.lch.last.net * 10000 ≤ greatestForce s * r.breakFraction ∨
    ∃ old, 3 ≤ s.evu.window.length ∧ s.evu.window[s.evu.window.length - 3]? = some old ∧
      r.breakDrop < old - s.lch.last.net

/-- The force held is a break against Fm, which it does not exceed, and the window. -/
def BreakShown (r : Specimen) (s : State) : Prop :=
  (∃ m, s.evu.fm = some m ∧ s.lch.last.net ≤ m.force) ∧
    breakFound r s.evu.fm s.evu.window s.lch.last.net = true

/-- A test in RUNNING or HELD with break detection armed and no break seen. -/
structure BreakWatched (r : Specimen) (s : State) : Prop where
  state : s.tsq.state = .running ∨ s.tsq.state = .held
  specimen : s.tsq.specimen = some r
  armed : s.evu.breakArmed = true
  unseen : s.evu.breakSeen = false

theorem BreakWatched.kept (h : BreakWatched r s) (hgoes : GoesOn s t)
    (hlook : breakSight t = breakSight s) : BreakWatched r t := by
  simp only [breakSight, Prod.mk.injEq] at hlook
  obtain ⟨-, harmed, hseen, -, -⟩ := hlook
  exact ⟨by rw [hgoes.state]; exact h.state, hgoes.specimen.trans h.specimen, harmed.trans h.armed,
    hseen.trans h.unseen⟩

theorem BreakDue.kept (h : BreakDue r s) (hs : Sighted s t) : BreakDue r t := by
  have hlook := hs.look
  simp only [breakSight, Prod.mk.injEq] at hlook
  obtain ⟨hnet, -, -, hwindow, -⟩ := hlook
  unfold BreakDue at *
  rwa [hs.greatest, hnet, hwindow]

/-- No milestone of the force held takes over an Fm that the force held does not exceed. -/
theorem BreakShown.kept (h : BreakShown r s) (hs : Sighted s t) : BreakShown r t := by
  have hlook := hs.look
  simp only [breakSight, Prod.mk.injEq] at hlook
  obtain ⟨hnet, -, -, hwindow, -⟩ := hlook
  obtain ⟨⟨m, hm, hle⟩, hfound⟩ := h
  have hfm : t.evu.fm = s.evu.fm := by
    obtain hfm | ⟨-, -, -, hlower⟩ := hs.fm
    · exact hfm
    · exact absurd (hlower m hm) (by omega)
  unfold BreakShown
  rw [hfm, hnet, hwindow]
  exact ⟨⟨m, hm, hle⟩, hfound⟩

/-- The sample taken shows the break that is due (R121). -/
theorem BreakDue.shown (h : BreakDue r s) : BreakShown r (sampleTaken s) := by
  obtain ⟨m, hm, hforce⟩ := sampleTaken_fm s
  have hnet : (sampleTaken s).lch.last.net = s.lch.last.net := rfl
  have hwindow : (sampleTaken s).evu.window = pushForce s.evu.window s.lch.last.net := rfl
  have hle : s.lch.last.net ≤ greatestForce s := le_max_right _ _
  refine ⟨⟨m, hm, by rw [hnet, hforce]; exact hle⟩, ?_⟩
  unfold breakFound
  rw [hm, hnet, hwindow]
  obtain hfraction | ⟨old, hlen, hold, hdrop⟩ := h
  · simp [hforce, hfraction]
  · obtain ⟨hfour, hhead, hlast⟩ := pushForce_four (f := s.lch.last.net) hlen hold
    simp [hfour, hhead, hlast, hdrop]

theorem sampleTaken_goesOn (s : State) : GoesOn s (sampleTaken s) := .of_parts rfl rfl rfl

theorem BreakWatched.sampleTaken (h : BreakWatched r s) : BreakWatched r (sampleTaken s) where
  state := h.state
  specimen := h.specimen
  armed := by
    have harmed : (Machine.sampleTaken s).evu.breakArmed =
        (s.evu.breakArmed || carriesArmForce (higherForce s.evu.fm (evaluationSample s)) s) := rfl
    rw [harmed, h.armed, Bool.true_or]
  unseen := h.unseen

/-! ## The break taken (R99, R122) -/

/-- The test has ended with the break, its force in the result. -/
structure BrokeOff (t : State) : Prop where
  state : t.tsq.state = .ended
  endCause : t.tsq.endCause = some .breakFound
  force : t.evu.result.breakForce = some t.lch.last.net
  mode : t.xhu.mode = .hold

/-- The test of `s` has ended with the break, or a trip or the end of its last phase came first. -/
def BreakTaken (s t : State) : Prop := BrokeOff t ∨ FellTripped s t ∨ RanOut s t

theorem BreakTaken.since (h : BreakTaken t u) (hs : t.tsq.state = s.tsq.state) : BreakTaken s u := by
  obtain h | h | h := h
  · exact .inl h
  · exact .inr (.inl { h with before := hs ▸ h.before })
  · exact .inr (.inr { h with before := hs ▸ h.before })

/-- Nothing that comes after moves the outcome. -/
theorem BreakTaken.onward (h : BreakTaken s t) (h' : Onward t u) : BreakTaken s u := by
  have hlook := h'.sight.look
  simp only [breakSight, Prod.mk.injEq] at hlook
  obtain ⟨hnet, -, -, -, hbreak⟩ := hlook
  obtain h | h | h := h
  · have hgoes := (h'.course (by simp [h.state])).goesOn (by simp [h.state]) (by simp [h.state])
    exact .inl ⟨hgoes.state.trans h.state, hgoes.endCause.trans h.endCause,
      by rw [hbreak, hnet]; exact h.force, hgoes.mode (by simp [h.state]) h.mode⟩
  · exact .inr (.inl (h.stays
      ((h'.course (by simp [h.state])).goesOn (by simp [h.state]) (by simp [h.state]))))
  · exact .inr (.inr (h.stays
      ((h'.course (by simp [h.state])).goesOn (by simp [h.state]) (by simp [h.state]))))

/-- The break in the result and the crosshead in HOLD, before the removal it requests (R122). -/
def breakNoted (x : EvalSample) (s : State) : State :=
  let t := recordMilestone (plainMilestone .breakFound x) (s.setEvu { s.evu with breakSeen := true })
  enterHold (t.setEvu { t.evu with
    result := { t.evu.result with
      breakForce := some x.force, breakStrain := x.strain.map Strain.value } })

theorem takeBreak_eq (x : EvalSample) (s : State) : takeBreak x s =
    let t := requestRemoval offerStrain .breakFound (breakNoted x s)
    match t.tsq.state with
    | .running | .held => endTest .ended .breakFound t
    | _ => t := rfl

/-- The removal that the break requests may end the last phase; it does nothing else to the test. -/
theorem takeBreak_taken {x : EvalSample} (hstate : s.tsq.state = .running ∨ s.tsq.state = .held)
    (hforce : x.force = s.lch.last.net) : BreakTaken s (takeBreak x s) := by
  have hnoted : (breakNoted x s).tsq = s.tsq := by simp [breakNoted]
  have hresult : (breakNoted x s).evu.result.breakForce = some (breakNoted x s).lch.last.net := by
    simp [breakNoted, hforce]
  have hremoved := requestRemoval_onward (breakNoted x s) (fun st t => offerStrain_onward t st)
    .breakFound
  refine BreakTaken.since (t := breakNoted x s) ?_ (by rw [hnoted])
  rw [takeBreak_eq]
  generalize requestRemoval offerStrain .breakFound (breakNoted x s) = t at hremoved
  have hlook := hremoved.sight.look
  simp only [breakSight, Prod.mk.injEq] at hlook
  obtain ⟨hnet, -, -, -, hbreak⟩ := hlook
  have hended : BrokeOff (endTest .ended .breakFound t) :=
    { state := endTest_state _ _ _
      endCause := endTest_cause _ _ _
      force := by
        rw [endTest_lch, endTest_evu]
        exact hbreak.trans (hresult.trans (congrArg some hnet.symm))
      mode := by rw [endTest_xhu]; rfl }
  dsimp only
  split
  · exact .inl hended
  · exact .inl hended
  · rename_i hrun hheld
    obtain h | h := hremoved.course (by rw [hnoted]; obtain h | h := hstate <;> simp [h])
    · rw [← hnoted, ← h.state] at hstate
      exact (hstate.elim hrun hheld).elim
    · exact .inr h

theorem detectBreak_taken {x : EvalSample} (hw : BreakWatched r s) (hshown : BreakShown r s)
    (hforce : x.force = s.lch.last.net) : BreakTaken s (detectBreak x s) := by
  have hfound : detectBreak x s = takeBreak x s := by
    unfold detectBreak
    rw [hw.specimen]
    simp [hw.state, hw.armed, hw.unseen, hforce, hshown.2]
  rw [hfound]
  exact takeBreak_taken hw.state hforce

/-- Out of RUNNING and HELD no sample is evaluated past the yield search (R109, R121). -/
theorem evaluateRest_outside (hrun : s.tsq.state ≠ .running) (hheld : s.tsq.state ≠ .held)
    (x : EvalSample) : evaluateRest x s = s := by
  have hnot : ∀ f u, u.tsq.state ≠ .running → whileRunning f x u = u := by
    intro f u hu
    unfold whileRunning
    split
    · exact if_neg hu
    · rfl
  have hmoduli : moduliJudged x s = s := by
    simp [moduliJudged, hnot _ s hrun]
  rw [evaluateRest_eq, hmoduli]
  unfold detectBreak
  split
  · rfl
  · simp [hrun, hheld]

/-- The break detection of an update finds the break, or the test out of RUNNING and HELD. -/
theorem evaluateRest_taken {x : EvalSample} (hw : BreakWatched r s) (hshown : BreakShown r s)
    (hforce : x.force = s.lch.last.net) (h : Onward s t) : BreakTaken s (evaluateRest x t) := by
  have harmed : s.tsq.state ≠ .armed := by obtain hs | hs := hw.state <;> simp [hs]
  obtain hgoes | hover := h.course harmed
  · have hmoduli := moduliJudged_steady t x
    have hsight := h.sight.trans hmoduli.sight
    rw [evaluateRest_eq]
    refine BreakTaken.since (detectBreak_taken (r := r) ?_ (hshown.kept hsight) ?_)
      (hgoes.trans hmoduli.course).state
    · exact hw.kept (hgoes.trans hmoduli.course) hsight.look
    · rw [hsight.net, hforce]
  · rw [evaluateRest_outside _ _ x]
    · exact .inr hover
    · obtain hover | hover := hover <;> simp [hover.state]
    · obtain hover | hover := hover <;> simp [hover.state]

/-! ## The update as the Evaluation Unit takes it (R108, R116) -/

/-- The sample taken, and the yield search run on it (R112). -/
def yieldSearched (s : State) : State :=
  whileRunning (fun r strain => searchYield r strain (evaluationSample s)) (evaluationSample s)
    (sampleTaken s)

theorem evuForce_eq (s : State) : evuForce s =
    if inTest s then
      if (sampleTaken s).evu.search ≠ .closed ∧ (yieldSearched s).evu.search = .closed then
        inOpenOrder [judgeEnd metByClosing, evaluateRest (evaluationSample s)] (yieldSearched s)
      else evaluateRest (evaluationSample s) (yieldSearched s)
    else s := rfl

theorem yieldSearched_steady (s : State) : Steady (sampleTaken s) (yieldSearched s) :=
  whileRunning_steady _ (fun r v t => searchYield_steady t r v _) _

/-- Out of RUNNING and HELD an update moves nothing but Fm and the window. -/
theorem evuForce_outside (hrun : s.tsq.state ≠ .running) (hheld : s.tsq.state ≠ .held) :
    GoesOn s (evuForce s) := by
  have hsearched : yieldSearched s = sampleTaken s := by
    have hstate : (sampleTaken s).tsq.state ≠ .running := hrun
    unfold yieldSearched whileRunning
    split
    · exact if_neg hstate
    · rfl
  have hopen : ¬ ((sampleTaken s).evu.search ≠ .closed ∧ (sampleTaken s).evu.search = .closed) :=
    fun h => h.1 h.2
  rw [evuForce_eq, hsearched, if_neg hopen]
  split
  · rw [evaluateRest_outside (s := sampleTaken s) hrun hheld]
    exact sampleTaken_goesOn s
  · exact .of_parts rfl rfl rfl

/-- An update that shows a break is taken: the sequencer may judge the closing of the search first. -/
theorem evuForce_breaks (hw : BreakWatched r s) (hdue : BreakDue r s) : BreakTaken s (evuForce s) := by
  have hin : inTest s = true := by
    unfold inTest
    obtain h | h := hw.state <;> rw [h]
  have hsearched := yieldSearched_steady s
  have hwatched := hw.sampleTaken.kept hsearched.course hsearched.sight.look
  have hshown := hdue.shown.kept hsearched.sight
  have hforce : (evaluationSample s).force = (yieldSearched s).lch.last.net :=
    hsearched.sight.net.symm
  refine BreakTaken.since (t := yieldSearched s) ?_ hsearched.course.state
  rw [evuForce_eq, if_pos hin]
  split
  · refine inOpenOrder_through (P := Onward (yieldSearched s)) (Q := BreakTaken (yieldSearched s))
      (l₁ := [judgeEnd metByClosing]) (l₂ := [])
      (fun _ _ ht => ht.trans (.quiet (.of_fm rfl rfl) rfl rfl rfl)) (fun act ha t ht => ?_)
      (fun t ht => evaluateRest_taken hwatched hshown hforce ht) (fun act ha t ht => ?_) (.refl _)
    · obtain rfl : act = judgeEnd metByClosing := by simpa using ha
      exact ht.trans (judgeEnd_onward t _)
    · obtain rfl : act = judgeEnd metByClosing := by simpa using ha
      exact ht.onward (judgeEnd_onward t _)
  · exact evaluateRest_taken hwatched hshown hforce (.refl _)

/-- The break is taken after whatever the other blocks have done on the update. -/
theorem evuForce_taken (hw : BreakWatched r s) (hdue : BreakDue r s) (h : Onward s t) :
    BreakTaken s (evuForce t) := by
  have harmed : s.tsq.state ≠ .armed := by obtain hs | hs := hw.state <;> simp [hs]
  obtain hgoes | hover | hover := h.course harmed
  · exact (evuForce_breaks (hw.kept hgoes h.sight.look) (hdue.kept h.sight)).since hgoes.state
  · exact .inr (.inl (hover.stays (evuForce_outside (by simp [hover.state]) (by simp [hover.state]))))
  · exact .inr (.inr (hover.stays (evuForce_outside (by simp [hover.state]) (by simp [hover.state]))))

/-! ## The LOAD sample (R25) -/

/-- The blocks take the update in any order; the Evaluation Unit alone detects the break. -/
theorem loadSample_breaks {f : SampleFrame} (hw : BreakWatched r (converted f s))
    (hdue : BreakDue r (converted f s)) : BreakTaken (converted f s) (loadSample f s) :=
  inOpenOrder_through (P := Onward (converted f s)) (Q := BreakTaken (converted f s))
    (l₁ := [protectForce]) (a := evuForce)
    (l₂ := [sequencerForce, exhForce, streamForce, loadWork (requestOutstanding s) f.range])
    (fun _ _ ht => ht.trans (.quiet (.of_fm rfl rfl) rfl rfl rfl))
    (fun _ ha t ht => ht.trans (otherForceActs_onward t ha)) (fun _ ht => evuForce_taken hw hdue ht)
    (fun _ ha t ht => ht.onward (otherForceActs_onward t ha)) (.refl _)

/-- The conversion of a sample is no part of the sequencer or of the evaluations. -/
theorem converted_keeps (f : SampleFrame) (s : State) :
    (converted f s).tsq = s.tsq ∧ (converted f s).evu = s.evu := by
  have hreceived : (receiveRange f.range s).tsq = s.tsq ∧ (receiveRange f.range s).evu = s.evu := by
    unfold receiveRange
    extract_lets _ t
    split
    · exact ⟨rfl, rfl⟩
    · split
      · exact ⟨rfl, rfl⟩
      · simp [t]
  exact hreceived

/-- The tap and the silence timer are no part of them either. -/
theorem withTap_heard_keeps (dt : Nat) (lane : Lane) (k : Fin 10) (v : Int) (s : State) :
    (withTap k v (heard dt lane s)).tsq = s.tsq ∧ (withTap k v (heard dt lane s)).evu = s.evu := by
  unfold withTap
  split <;> exact ⟨rfl, rfl⟩

/-- The force that the sample forms stays to the end of the update. -/
theorem loadSample_last (f : SampleFrame) (s : State) :
    (loadSample f s).lch.last = (converted f s).lch.last :=
  (congrArg (fun t => t.lch.last) (loadSample_offered f s).1 :).trans
    (congrArg (fun t => t.lch.last) (converted_backbone f s)).symm

/-- Settles O54: the break is due when the sample is converted, no block but the Evaluation Unit moves what it
looks at, and each of them leaves the test in its state, TRIPPED, or at the end of its program. -/
theorem breakEndsTest : Obligations.BreakEndsTest := by
  intro dt lane rx f r s hsteered hstate hspecimen harmed hunseen
  refine ⟨_, exec_sample_steered hsteered, ?_⟩
  obtain ⟨htsqHeard, hevuHeard⟩ := withTap_heard_keeps dt lane (routeKey lane f.sub) f.value s
  simp only [deliver]
  generalize withTap (routeKey lane f.sub) f.value (heard dt lane s) = u at *
  obtain ⟨htsq, hevu⟩ := converted_keeps f u
  rw [htsqHeard] at htsq
  rw [hevuHeard] at hevu
  have hlast := loadSample_last f u
  intro hbreak
  have hdue : BreakDue r (converted f u) := by
    unfold BreakDue greatestForce
    rw [← hlast, hevu]
    exact hbreak
  have hwatched : BreakWatched r (converted f u) :=
    ⟨by rw [htsq]; exact hstate, by rw [htsq]; exact hspecimen, by rw [hevu]; exact harmed,
      by rw [hevu]; exact hunseen⟩
  obtain h | h | h := loadSample_breaks hwatched hdue
  · exact ⟨h.mode, .inl ⟨h.state, h.endCause, h.force⟩⟩
  · exact ⟨h.mode, .inr (.inl ⟨h.state, h.latch⟩)⟩
  · exact ⟨h.mode, .inr (.inr ⟨by rw [← htsq]; exact h.before, h.state, h.endCause⟩)⟩

end Sys2Proof.Machine
end

section
/-!
SUPPORT. The orders that read: each is answered as soon as it has joined the outstanding set, from what the
part holds at that moment (R129, R130, R167, R188).
-/

namespace Sys2Proof.Machine

variable {s : State} (dt : Nat) (tag : Byte)

/-- STATUS-READ reaches its owner in start-up too (R156). -/
theorem takeOrder_statusRead (h : s.cpt.outstanding.length < 4) (n : Byte) :
    takeOrder .statusRead ownStatusRead tag [n] (elapse dt s) =
      ownStatusRead tag [n] (joined .statusRead dt tag s) := by
  have hroom : ¬ 4 ≤ (elapse dt s).cpt.outstanding.length := Nat.not_le.2 h
  have hform : wellFormedArguments .statusRead [n] = true := rfl
  rw [takeOrder, if_neg hroom, dispatch, hform]
  simp
  rfl

/-- The section asked for, of a part that has the STATUS-READ outstanding (R167). -/
theorem ownStatusRead_answered (h : Settled s) (n : Byte) :
    ownStatusRead tag [n] (joined .statusRead dt tag s) =
      answered
        (match statusSection (joined .statusRead dt tag s) n.toNat with
          | some x => payloadReply .statusRead tag (.status x)
          | none => plainReply .statusRead tag .badArgument)
        (later dt s) := by
  have hbyte : byteAt [n] 0 = n := rfl
  rw [ownStatusRead, hbyte]
  cases statusSection (joined .statusRead dt tag s) n.toNat with
  | none => exact reply_join (s := later dt s) h _ tag _ _ _
  | some x => exact reply_join (s := later dt s) h _ tag _ _ _

/-- The milestone of the index in four bytes, or the count where there is none (R130). -/
theorem ownMilestoneRead_answered (h : Settled s) (a b c d : Byte) :
    ownMilestoneRead tag [a, b, c, d] (joined .milestoneRead dt tag s) =
      answered
        (match s.evu.list[((a.toNat * 256 + b.toNat) * 256 + c.toNat) * 256 + d.toNat]? with
          | some m => payloadReply .milestoneRead tag (.milestone m s.evu.list.length)
          | none => detailReply .milestoneRead tag .badArgument (.count s.evu.list.length))
        (later dt s) := by
  have hindex : unsignedAt [a, b, c, d] 0 4 =
      ((a.toNat * 256 + b.toNat) * 256 + c.toNat) * 256 + d.toNat := by
    simp [unsignedAt, bigEndian, byteAt, List.range_succ]
  have hlist : (joined .milestoneRead dt tag s).evu = s.evu := rfl
  rw [ownMilestoneRead, hindex, hlist]
  cases s.evu.list[((a.toNat * 256 + b.toNat) * 256 + c.toNat) * 256 + d.toNat]? with
  | none => exact reply_join (s := later dt s) h _ tag _ _ _
  | some m => exact reply_join (s := later dt s) h _ tag _ _ _

/-- At most sixteen entries of a VALID working copy, from a segment that it reaches (R188). -/
theorem ownTableRead_answered (h : Settled s) (id segment : Byte) :
    ownTableRead tag [id, segment] (joined .tableRead dt tag s) =
      answered
        (match allTables[id.toNat]? with
          | none => plainReply .tableRead tag .badArgument
          | some x =>
            match tableEntries x (workingCopies s) with
            | none => detailReply .tableRead tag .blankTable (.edition s.tst.editions[tableNumber x])
            | some es =>
              if segment.toNat * 16 < es.length then
                payloadReply .tableRead tag
                  (.entries es.length s.tst.editions[tableNumber x]
                    ((es.drop (segment.toNat * 16)).take 16))
              else
                detailReply .tableRead tag .badArgument
                  (.entriesEdition es.length s.tst.editions[tableNumber x]))
        (later dt s) := by
  have hreply := fun code d p => reply_join (s := later dt s) h .tableRead tag code d p
  have hid : tableOfByte (byteAt [id, segment] 0) = allTables[id.toNat]? := rfl
  have hcopies : workingCopies (joined .tableRead dt tag s) = workingCopies s := rfl
  rw [ownTableRead, hid]
  cases allTables[id.toNat]? with
  | none => exact hreply _ _ _
  | some x =>
    dsimp only
    rw [hcopies]
    cases tableEntries x (workingCopies s) with
    | none => exact hreply _ _ _
    | some es =>
      dsimp only
      by_cases hwithin : segment.toNat * 16 < es.length
      · rw [if_neg (by exact Nat.not_le.2 hwithin), if_pos hwithin]
        exact hreply _ _ _
      · rw [if_pos (by exact Nat.not_lt.1 hwithin), if_neg hwithin]
        exact hreply _ _ _

/-- Settles O34: each owner answers at once, so beside the port nothing changes. -/
theorem readsAnswerAndChangeNothing : Obligations.ReadsAnswerAndChangeNothing := by
  intro dt tag s hsettled hroom
  refine ⟨fun n => ?_, fun hstarted => ?_⟩
  · exact congrArg Host.Outcome.next
      ((takeOrder_statusRead dt tag hroom n).trans (ownStatusRead_answered dt tag hsettled n))
  · have hready : Ready s := ⟨hsettled, hroom, hstarted⟩
    refine ⟨?_, fun a b c d => ?_, fun id segment => ?_⟩
    · exact congrArg Host.Outcome.next ((takeOrder_ready hready rfl).trans
        (reply_join (s := later dt s) hsettled .resultRead tag _ _ _))
    · exact congrArg Host.Outcome.next ((takeOrder_ready hready rfl).trans
        (ownMilestoneRead_answered dt tag hsettled a b c d))
    · exact congrArg Host.Outcome.next ((takeOrder_ready hready rfl).trans
        (ownTableRead_answered dt tag hsettled id segment))

end Sys2Proof.Machine
end

section
/-!
SUPPORT. The evaluations of a force update and the other blocks that take it (R25): while the test goes on no
other block moves what the yield search, the chord and the proof hold, but that a strain update at the
search limit closes the search (R108 to R119).
-/

namespace Sys2Proof.Machine

/-! ## What the evaluations hold -/

/-- What the yield search holds and gives the result (R112 to R115). -/
structure SearchRecord where
  search : YieldSearch
  fy : Option EvalSample
  reh : Option EvalSample
  candidate : Option EvalSample
  upper : Option ForceStress
  lower : Option ForceStress
  ae : Option Int

def searchRecord (s : State) : SearchRecord :=
  { search := s.evu.search
    fy := s.evu.fy
    reh := s.evu.reh
    candidate := s.evu.candidate
    upper := s.evu.result.reh
    lower := s.evu.result.rel
    ae := s.evu.result.ae }

/-- What the chord and the proof hold and give the result (R117 to R119). -/
structure ModuliRecord where
  chord : ChordState
  point1 : Option ChordPoint
  point2 : Option ChordPoint
  proof : ProofState
  status : ModulusStatus
  modulus : Option Int
  rp : Option Int

def moduliRecord (s : State) : ModuliRecord :=
  { chord := s.evu.chord
    point1 := s.evu.point1
    point2 := s.evu.point2
    proof := s.evu.proof
    status := s.evu.result.modulusStatus
    modulus := s.evu.result.modulus
    rp := s.evu.result.rp }

/-- The value of the latest strain of the test (R109). -/
def latestStrain (s : State) : Option Int := s.evu.strain.map Strain.value

/-- All that the evaluations of a sample read and move in the Evaluation Unit, Fm and the window apart. -/
def evaluations (s : State) : Option Int × SearchRecord × ModuliRecord :=
  (latestStrain s, searchRecord s, moduliRecord s)

/-- The search stands, or the strain `v` has closed it at the limit (R115). -/
def SearchRecord.Stands (r : Specimen) (v : Int) (m n : SearchRecord) : Prop :=
  n = m ∨ r.searchLimit ≤ v ∧ n.search = .closed ∧ n.fy = m.fy

theorem SearchRecord.Stands.trans {r : Specimen} {v : Int} {m n k : SearchRecord} (h : m.Stands r v n)
    (h' : n.Stands r v k) : m.Stands r v k := by
  obtain rfl | ⟨hlimit', hclosed', hfy'⟩ := h'
  · exact h
  · obtain rfl | ⟨-, -, hfy⟩ := h
    · exact .inr ⟨hlimit', hclosed', hfy'⟩
    · exact .inr ⟨hlimit', hclosed', hfy'.trans hfy⟩

variable {r : Specimen} {v : Int} {s t u : State}

/-- A test in RUNNING whose latest strain is `v`, with its stress that of the force held (R27, R109). -/
structure Strained (r : Specimen) (v : Int) (s : State) : Prop where
  state : s.tsq.state = .running
  specimen : s.tsq.specimen = some r
  sequenced : Sequenced s
  stress : currentStress s = stressOf s.lch.last.net r.s0
  strain : latestStrain s = some v

theorem Strained.inTest (h : Strained r v s) : inTest s = true := by
  unfold Machine.inTest
  rw [h.state]

theorem Strained.not_armed (h : Strained r v s) : s.tsq.state ≠ .armed := by simp [h.state]

/-- The crosshead keeps the same strain (R72, R109). -/
theorem Strained.crosshead (h : Strained r v s) : s.xhu.strain = v ∧ InRange32 v := by
  obtain ⟨st, hst, rfl⟩ := Option.map_eq_some_iff.1 h.strain
  exact h.sequenced.strain h.inTest st hst

/-- An act on which the test goes on, with its strain, leaves it so. -/
theorem Strained.kept (h : Strained r v s) (hgoes : GoesOn s t) (hnet : t.lch.last.net = s.lch.last.net)
    (hguarded : Guarded s t) (hstress : StressKept s t) (hstrain : latestStrain t = some v) :
    Strained r v t where
  state := hgoes.state.trans h.state
  specimen := hgoes.specimen.trans h.specimen
  sequenced := hguarded.sequenced h.sequenced
  stress := by
    obtain hsame | hnone := hstress
    · simp only [stressRecord, Prod.mk.injEq] at hsame
      obtain ⟨hspecimen, hlast⟩ := hsame
      rw [hnet, ← h.stress]
      simp only [currentStress, hspecimen, hlast, hnet]
    · exact absurd (hnone.symm.trans (hgoes.specimen.trans h.specimen)) nofun
  strain := hstrain

/-! ## The course of the test, looked back upon -/

theorem Course.goesOn_of_running (h : Course s t) (hrun : t.tsq.state = .running) : GoesOn s t := by
  obtain h | h | h := h
  · exact h
  · exact absurd (h.state.symm.trans hrun) nofun
  · exact absurd (h.state.symm.trans hrun) nofun

theorem Course.inTest_before (h : Course s t) (hin : inTest t = true) : inTest s = true := by
  obtain h | h | h := h
  · rwa [← inTest_congr h.state]
  · obtain hs | hs := h.before <;> simp [inTest, hs]
  · simp [inTest, h.state] at hin

/-! ## Acts that evaluate nothing -/

/-- An act that evaluates no sample: while the test goes on, its strain and what the evaluations hold stay,
but that the search may close at the limit. -/
structure Unjudged (r : Specimen) (v : Int) (s t : State) : Prop where
  onward : Onward s t
  guarded : Guarded s t
  stress : StressKept s t
  specimen : s.tsq.state ≠ .armed → inTest t = true → t.tsq.specimen = s.tsq.specimen
  kept : Strained r v s → t.tsq.state = .running →
    latestStrain t = some v ∧ moduliRecord t = moduliRecord s ∧
      (searchRecord s).Stands r v (searchRecord t)

/-- The test goes on as it was, when it goes on. -/
theorem Unjudged.strained (h : Unjudged r v s t) (hs : Strained r v s) (hrun : t.tsq.state = .running) :
    Strained r v t :=
  hs.kept ((h.onward.course hs.not_armed).goesOn_of_running hrun) h.onward.sight.net h.guarded h.stress
    (h.kept hs hrun).1

theorem Unjudged.trans (h : Unjudged r v s t) (h' : Unjudged r v t u) : Unjudged r v s u where
  onward := h.onward.trans h'.onward
  guarded := h.guarded.trans h'.guarded
  stress := h.stress.trans h'.stress
  specimen ha hin := by
    have ha' := (h.onward.course ha).armed ha
    exact (h'.specimen ha' hin).trans (h.specimen ha ((h'.onward.course ha').inTest_before hin))
  kept hs hrun := by
    have ha' := (h.onward.course hs.not_armed).armed hs.not_armed
    have hrun' : t.tsq.state = .running :=
      ((h'.onward.course ha').goesOn_of_running hrun).state ▸ hrun
    obtain ⟨-, hmoduli, hsearch⟩ := h.kept hs hrun'
    obtain ⟨hstrain', hmoduli', hsearch'⟩ := h'.kept (h.strained hs hrun') hrun
    exact ⟨hstrain', hmoduli'.trans hmoduli, hsearch.trans hsearch'⟩

/-- One act after another, the later one given first. -/
theorem Unjudged.after (h' : Unjudged r v t u) (h : Unjudged r v s t) : Unjudged r v s u := h.trans h'

/-- An act that leaves the record, its stress and what the evaluations hold. -/
theorem Unjudged.quiet (honward : Onward s t) (hguarded : Guarded s t)
    (hrecord : stressRecord t = stressRecord s) (heval : evaluations t = evaluations s) :
    Unjudged r v s t where
  onward := honward
  guarded := hguarded
  stress := .inl hrecord
  specimen _ _ := congrArg Prod.fst hrecord
  kept hs _ := by
    simp only [evaluations, Prod.mk.injEq] at heval
    obtain ⟨hstrain, hsearch, hmoduli⟩ := heval
    exact ⟨hstrain.trans hs.strain, hmoduli, .inl hsearch⟩

/-- The strain matters only where it is the latest strain of the test. -/
theorem Unjudged.of_value {w : Int} (h : Unjudged r w s t) (hv : Strained r v s → w = v) :
    Unjudged r v s t where
  onward := h.onward
  guarded := h.guarded
  stress := h.stress
  specimen := h.specimen
  kept hs := by
    obtain rfl := hv hs
    exact h.kept hs

variable (s)

theorem Unjudged.refl : Unjudged r v s s := .quiet (.refl s) (.refl s) rfl rfl

/-- A choice evaluates nothing. -/
theorem Unjudged.counted (n : Nat) : Unjudged r v s { s with choices := n } :=
  .quiet (.quiet (.of_fm rfl rfl) rfl rfl rfl) (.quiet rfl) rfl rfl

theorem inOpenOrder_unjudged (acts : List (State → State))
    (h : ∀ act ∈ acts, ∀ t, Unjudged r v t (act t)) : Unjudged r v s (inOpenOrder acts s) :=
  inOpenOrder_keeps (P := Unjudged r v s) acts s
    (fun _ _ ht => ht.trans (.counted _ _))
    (fun act ha t ht => ht.trans (h act ha t)) (.refl s)

/-! ## Milestones and removals (R76 to R78) -/

theorem handMilestone_unjudged {m : Milestone} (h : m.sample.force = s.lch.last.net) :
    Unjudged r v s (handMilestone m s) :=
  .quiet (handMilestone_onward s h) (handMilestone_guarded s m) (by simp [stressRecord])
    (by simp [evaluations, latestStrain, searchRecord, moduliRecord])

theorem raiseExt_unjudged (d : ExtDetail) : Unjudged r v s (raiseExt d s) :=
  .quiet (raiseExt_onward s d) (raiseExt_guarded s d) (by simp [stressRecord])
    (by simp [evaluations, latestStrain, searchRecord, moduliRecord])

theorem setExh_unjudged (x : Exh) : Unjudged r v s (s.setExh x) :=
  .quiet (.quiet (.of_fm rfl rfl) rfl rfl rfl) (.quiet rfl) rfl rfl

theorem noteRemovalStrain_unjudged (w : Int) : Unjudged r v s (noteRemovalStrain w s) := by
  refine .quiet (noteRemovalStrain_onward s w) (.quiet (by simp [dials])) (by simp [stressRecord]) ?_
  unfold noteRemovalStrain
  split <;> rfl

theorem removalNoted_unjudged (cause : RemovalCause) (h : t.lch.last.net = s.lch.last.net) :
    Unjudged r v t (removalNoted s cause t) :=
  ((handMilestone_unjudged t h.symm).trans (noteRemovalStrain_unjudged _ _)).trans (raiseExt_unjudged _ _)

/-- The splice publishes its own strain, and moves nothing else that the evaluations hold (R78, R109). -/
theorem armsOpened_unjudged : Unjudged r (spliceStrain s).value s (armsOpened s) := by
  obtain ⟨htsq, hlch, -⟩ := armsOpened_keeps s
  have hrecord : stressRecord (armsOpened s) = stressRecord s := by
    simp only [stressRecord, htsq, hlch]
  refine ⟨armsOpened_onward s, Guarded.after (spliceToCrosshead_guarded _) (.quiet rfl), .inl hrecord,
    fun _ _ => by rw [htsq], fun hs _ => ?_⟩
  have hevu : (armsOpened s).evu = { s.evu with strain := some (spliceStrain s) } := by
    unfold armsOpened spliceToCrosshead keepStrain
    extract_lets _ t t'
    rw [if_pos (by exact hs.inTest)]
    rfl
  simp [latestStrain, moduliRecord, searchRecord, SearchRecord.Stands, hevu]

/-- The splice of a removal publishes the latest strain anew, so the blocks that react to it find no other
(R77, R78). -/
theorem removeArms_unjudged {react : Strain → State → State}
    (hr : ∀ st t, Unjudged r st.value t (react st t)) (cause : RemovalCause) :
    Unjudged r v s (removeArms react cause s) := by
  cases hin : inTest s with
  | true =>
    rw [removeArms_inTest hin]
    refine Unjudged.of_value (w := (spliceStrain s).value) ?_ fun hs => ?_
    · refine inOpenOrder_keeps (P := Unjudged r (spliceStrain s).value s) _ _
        (fun _ _ ht => ht.trans (.counted _ _))
        (fun act ha t ht => ?_) (armsOpened_unjudged s)
      simp only [List.mem_cons, List.not_mem_nil, or_false] at ha
      obtain rfl | rfl := ha
      · exact ht.trans (hr _ t)
      · exact ht.trans (removalNoted_unjudged s cause ht.onward.sight.net)
    · obtain ⟨hstrain, hrange⟩ := hs.crosshead
      exact (spliceStrain_value (by rwa [hstrain])).trans hstrain
  | false =>
    rw [removeArms_outside hin]
    exact (raiseExt_unjudged _ _).after (setExh_unjudged s _)

theorem requestRemoval_unjudged {react : Strain → State → State}
    (hr : ∀ st t, Unjudged r st.value t (react st t)) (cause : RemovalCause) :
    Unjudged r v s (requestRemoval react cause s) := by
  have hopened : ∀ d x, Unjudged r v s (raiseExt d (s.setExh x)) := fun d x =>
    (raiseExt_unjudged _ d).after (setExh_unjudged s x)
  unfold requestRemoval
  split
  · exact hopened _ _
  · exact hopened _ _
  · exact removeArms_unjudged s hr cause
  · split
    · exact hopened _ _
    · exact .refl s
  · exact .refl s

/-! ## The search limit (R115) -/

theorem closeAtLimit_search (x : EvalSample) : (closeAtLimit x s).evu.search = .closed := by
  unfold closeAtLimit
  split
  · assumption
  · rfl
  · rfl

theorem endPlateau_moduliRecord (x : EvalSample) : moduliRecord (endPlateau x s) = moduliRecord s := by
  unfold endPlateau
  dsimp only
  split <;> simp [moduliRecord]

theorem closeAtLimit_moduliRecord (x : EvalSample) :
    moduliRecord (closeAtLimit x s) = moduliRecord s := by
  unfold closeAtLimit
  split
  · rfl
  · rfl
  · exact endPlateau_moduliRecord s x

theorem closeAtLimit_unjudged (x : EvalSample) (h : Strained r v s → r.searchLimit ≤ v) :
    Unjudged r v s (closeAtLimit x s) where
  onward := closeAtLimit_onward s x
  guarded := closeAtLimit_guarded s x
  stress := .inl (by simp)
  specimen _ _ := by simp
  kept hs _ := by
    have hstrain : latestStrain (closeAtLimit x s) = latestStrain s := by simp [latestStrain]
    exact ⟨hstrain.trans hs.strain, closeAtLimit_moduliRecord s x,
      .inr ⟨h hs, closeAtLimit_search s x, by simp [searchRecord]⟩⟩

theorem limit_le_of_limitReached (h : limitReached v s = true) (hs : Strained r v s) :
    r.searchLimit ≤ v := by
  simp only [limitReached, hs.specimen, Bool.and_eq_true, decide_eq_true_eq] at h
  exact h.2

theorem evuStrainLimit_unjudged (st : Strain) : Unjudged r st.value s (evuStrainLimit st s) := by
  unfold evuStrainLimit
  split
  · rename_i h
    exact closeAtLimit_unjudged s _ (limit_le_of_limitReached s h)
  · exact .refl s

/-! ## Phases (R92, R94) -/

theorem phaseClosed_unjudged (k : Nat) (p : Phase) : Unjudged r v s (phaseClosed k p s) := by
  have hstopped : Unjudged r v s (s.setTsq { s.tsq with phaseTimer := none }) :=
    .quiet ⟨.of_fm rfl rfl, fun _ => .inl ⟨rfl, rfl, rfl, id, fun _ => id⟩⟩ (.quiet rfl) rfl rfl
  have hnoted := hstopped.trans (handMilestone_unjudged (s.setTsq { s.tsq with phaseTimer := none })
    (m := { kind := .phaseEnd, index := some k, sample := currentSample s, value := none }) rfl)
  unfold phaseClosed
  dsimp only
  split
  · exact hnoted.trans (requestRemoval_unjudged _ (fun st t => evuStrainLimit_unjudged t st) _)
  · exact hnoted

/-- A phase that ends goes over into the next one, or ends the test (R94). -/
theorem endPhase_unjudged {k : Nat} {p : Phase} (hrun : s.tsq.state = .running) :
    Unjudged r v s (endPhase k p s) := by
  have hclosed : Unjudged r v s (phaseClosed k p s) := phaseClosed_unjudged s k p
  have htsq := (phaseClosed_keeps k p s).1
  have hstill : (phaseClosed k p s).tsq.state = .running := by
    rw [htsq]
    exact hrun
  have hends : endPhase k p s = beginPhase (k + 1) (phaseClosed k p s) ∨
      endPhase k p s = endTest .ended .programEnd (phaseClosed k p s) := by
    rw [endPhase_eq]
    split
    · exact .inl rfl
    · exact .inr rfl
  refine ⟨endPhase_onward s hrun, endPhase_guarded s k p hrun, endPhase_stress s k p, ?_, ?_⟩
  · intro _ hin
    obtain hnext | hover := hends
    · simp [hnext, htsq]
    · simp [hover, inTest, endTest_state] at hin
  · intro hs hrun'
    obtain hnext | hover := hends
    · have heval : evaluations (endPhase k p s) = evaluations (phaseClosed k p s) := by
        simp [hnext, evaluations, latestStrain, searchRecord, moduliRecord]
      simp only [evaluations, Prod.mk.injEq] at heval
      obtain ⟨hstrain, hsearch, hmoduli⟩ := heval
      rw [hstrain, hsearch, hmoduli]
      exact hclosed.kept hs hstill
    · simp [hover, endTest_state] at hrun'

theorem judgeEnd_unjudged (met : EndKind → Int → Bool) : Unjudged r v s (judgeEnd met s) := by
  obtain h | ⟨k, p, hrun, -, h⟩ := judgeEnd_cases s met <;> rw [h]
  · exact .refl s
  · exact endPhase_unjudged s hrun

theorem evuStrain_unjudged (st : Strain) : Unjudged r st.value s (evuStrain st s) := by
  unfold evuStrain
  split
  · rename_i h
    exact (judgeEnd_unjudged _ _).after (closeAtLimit_unjudged s _ (limit_le_of_limitReached s h))
  · exact .refl s

theorem offerStrain_unjudged (st : Strain) : Unjudged r st.value s (offerStrain st s) := by
  refine inOpenOrder_unjudged s _ fun act ha t => ?_
  simp only [List.mem_cons, List.not_mem_nil, or_false] at ha
  obtain rfl | rfl := ha
  · exact judgeEnd_unjudged t _
  · exact evuStrain_unjudged t st

/-! ## Trips (R102, R142) -/

/-- A class that trips takes the test out of RUNNING; one already latched moves its record only (R142,
R143). -/
theorem spend_unjudged (c : TripClass) : Unjudged r v s (spend c s) := by
  cases hc : latched s c with
  | true =>
    have hspent : spend c s = updateHistory c (tripValues (setCondition c .spent s))
        (setCondition c .spent s) := if_pos hc
    exact .quiet (spend_onward s c) (spend_guarded s c) (by rw [hspent]; rfl) (by rw [hspent]; rfl)
  | false =>
    have hstate := spend_state hc
    refine ⟨spend_onward s c, spend_guarded s c, spend_stress s c, fun ha _ => ?_, fun hs hrun => ?_⟩
    · exact (congrArg Dials.specimen (trip_dials (s := setCondition c .spent s) hc)).trans (if_neg ha)
    · rw [hstate, hs.state] at hrun
      exact absurd hrun nofun

theorem setCondition_unjudged (c : TripClass) (x : Condition) : Unjudged r v s (setCondition c x s) :=
  .quiet (setCondition_onward s c x) (setCondition_guarded s c x) rfl rfl

theorem judgeDelayed_unjudged (c : TripClass) (h : Bool) (d : Nat) :
    Unjudged r v s (judgeDelayed c h d s) := by
  unfold judgeDelayed
  split
  · split
    · split
      · exact spend_unjudged s c
      · exact setCondition_unjudged s c _
    · split
      · exact spend_unjudged s c
      · exact .refl s
    · exact .refl s
  · exact setCondition_unjudged s c _

theorem judgeTension2_unjudged (h : Bool) (n : Nat) : Unjudged r v s (judgeTension2 h n s) := by
  unfold judgeTension2
  split
  · split
    · split
      · exact spend_unjudged s _
      · exact setCondition_unjudged s _ _
    · split
      · exact spend_unjudged s _
      · exact setCondition_unjudged s _ _
    · exact .refl s
  · exact setCondition_unjudged s _ _

theorem protectForce_unjudged : Unjudged r v s (protectForce s) := by
  unfold protectForce
  split
  · exact .refl s
  · refine inOpenOrder_unjudged s _ fun act ha t => ?_
    simp only [List.mem_cons, List.not_mem_nil, or_false] at ha
    obtain rfl | rfl | rfl := ha
    · exact judgeDelayed_unjudged t _ _ _
    · exact judgeTension2_unjudged t _ _
    · exact judgeDelayed_unjudged t _ _ _

/-! ## The blocks that take a force update, the Evaluation Unit apart (R25) -/

theorem exhForce_unjudged : Unjudged r v s (exhForce s) := by
  unfold exhForce
  split
  · exact removeArms_unjudged s (fun st t => offerStrain_unjudged t st) _
  · exact .refl s

theorem otherForceActs_unjudged {before : Bool} {g : Fin 4} {act : State → State}
    (h : act ∈ [protectForce] ++ [sequencerForce, exhForce, streamForce, loadWork before g]) :
    Unjudged r v s (act s) := by
  have hunloaded : ∀ t, dials t = dials s → unloaded t = unloaded s → Unjudged r v s t := fun t hd hu =>
    .quiet (.of_unloaded hu) (.quiet hd) (congrArg stressRecord hu :) (congrArg evaluations hu :)
  simp only [List.cons_append, List.nil_append, List.mem_cons, List.not_mem_nil, or_false] at h
  obtain rfl | rfl | rfl | rfl | rfl := h
  · exact protectForce_unjudged s
  · exact judgeEnd_unjudged s _
  · exact exhForce_unjudged s
  · exact hunloaded _ (streamForce_dials s) (unloaded_streamForce s)
  · exact hunloaded _ (loadWork_dials s before g) (unloaded_loadWork before g s)

end Sys2Proof.Machine
end

section
/-!
SUPPORT. A force update reaches Fm and the window (O52): the other blocks leave both, and a test that goes on
has been one when the Evaluation Unit took the update (R110, R120).
-/

namespace Sys2Proof.Machine

variable {s t u : State}

/-! ## The sample taken (R110, R120) -/

/-- Fm, the arming of the break detection and the window with the force of `s` taken. -/
structure ForceTaken (s t : State) : Prop where
  net : t.lch.last.net = s.lch.last.net
  fm : ∃ m, t.evu.fm = some m ∧ m.force = greatestForce s
  armed : ∀ r, s.tsq.specimen = some r →
    t.evu.breakArmed = (s.evu.breakArmed || decide (r.breakArm ≤ greatestForce s))
  window : t.evu.window = pushForce s.evu.window s.lch.last.net

theorem sampleTaken_forceTaken (s : State) : ForceTaken s (sampleTaken s) := by
  obtain ⟨m, hm, hforce⟩ := sampleTaken_fm s
  refine ⟨rfl, ⟨m, hm, hforce⟩, fun r hr => ?_, rfl⟩
  have harmed : (sampleTaken s).evu.breakArmed =
      (s.evu.breakArmed || carriesArmForce (sampleTaken s).evu.fm s) := rfl
  simp only [harmed, hm, carriesArmForce, hr, hforce]

/-- A milestone of the force held is no greater than the Fm that has taken it (R111). -/
theorem ForceTaken.sighted (h : ForceTaken s t) (hs : Sighted t u) : ForceTaken s u := by
  obtain ⟨hnet, ⟨m, hm, hforce⟩, harmed, hwindow⟩ := h
  have hlook := hs.look
  simp only [breakSight, Prod.mk.injEq] at hlook
  obtain ⟨hnet', harmed', -, hwindow', -⟩ := hlook
  have hfm : u.evu.fm = t.evu.fm := by
    obtain hfm | ⟨-, -, -, hlower⟩ := hs.fm
    · exact hfm
    · have hle : s.lch.last.net ≤ greatestForce s := le_max_right _ _
      have hlt := hlower m hm
      omega
  exact ⟨hnet'.trans hnet, ⟨m, hfm.trans hm, hforce⟩, fun r hr => harmed'.trans (harmed r hr),
    hwindow'.trans hwindow⟩

/-- A force taken after acts that detect no break is the force of the state before them. -/
theorem ForceTaken.since (h : ForceTaken t u) (hs : Sighted s t)
    (hspecimen : ∀ r, s.tsq.specimen = some r → t.tsq.specimen = some r) : ForceTaken s u := by
  obtain ⟨hnet, hfm, harmed, hwindow⟩ := h
  have hlook := hs.look
  simp only [breakSight, Prod.mk.injEq] at hlook
  obtain ⟨hnet', harmed', -, hwindow', -⟩ := hlook
  rw [hs.greatest] at hfm
  refine ⟨hnet.trans hnet', hfm, fun r hr => ?_, by rw [hwindow, hwindow', hnet']⟩
  rw [harmed r (hspecimen r hr), harmed', hs.greatest]

/-! ## The update as the Evaluation Unit takes it (R108) -/

/-- A break moves neither Fm nor the window (R122). -/
theorem takeBreak_forceTaken {x : EvalSample} (h : ForceTaken s t) : ForceTaken s (takeBreak x t) := by
  have hnoted : ForceTaken s (breakNoted x t) := by
    obtain ⟨hnet, ⟨m, hm, hforce⟩, harmed, hwindow⟩ := h
    exact ⟨by simpa [breakNoted] using hnet, ⟨m, by simpa [breakNoted] using hm, hforce⟩,
      fun r hr => by simpa [breakNoted] using harmed r hr, by simpa [breakNoted] using hwindow⟩
  have hremoved := hnoted.sighted (requestRemoval_onward (breakNoted x t)
    (fun st t => offerStrain_onward t st) .breakFound).sight
  rw [takeBreak_eq]
  dsimp only
  split
  · exact hremoved.sighted (endTest_sighted _ _ _)
  · exact hremoved.sighted (endTest_sighted _ _ _)
  · exact hremoved

theorem detectBreak_cases (x : EvalSample) (s : State) : detectBreak x s = s ∨
    (s.tsq.state = .running ∨ s.tsq.state = .held) ∧ detectBreak x s = takeBreak x s := by
  unfold detectBreak
  split
  · exact .inl rfl
  · split
    · rename_i h
      simp only [Bool.and_eq_true, Bool.or_eq_true, decide_eq_true_eq] at h
      exact .inr ⟨h.1.1.1, rfl⟩
    · exact .inl rfl

theorem evaluateRest_forceTaken {x : EvalSample} (h : ForceTaken s t) :
    ForceTaken s (evaluateRest x t) := by
  have hmoduli := h.sighted (moduliJudged_steady t x).sight
  rw [evaluateRest_eq]
  obtain hnone | ⟨-, hbreak⟩ := detectBreak_cases x (moduliJudged x t)
  · rwa [hnone]
  · rw [hbreak]
    exact takeBreak_forceTaken hmoduli

/-- During a test the update is taken by Fm and the window before anything else. -/
theorem evuForce_forceTaken (hin : inTest s = true) : ForceTaken s (evuForce s) := by
  have hsearched := (sampleTaken_forceTaken s).sighted (yieldSearched_steady s).sight
  rw [evuForce_eq, if_pos hin]
  split
  · refine inOpenOrder_keeps (P := ForceTaken s) _ _ (fun _ _ ht => ht.sighted (.of_fm rfl rfl))
      (fun act ha t ht => ?_) hsearched
    simp only [List.mem_cons, List.not_mem_nil, or_false] at ha
    obtain rfl | rfl := ha
    · exact ht.sighted (judgeEnd_onward t _).sight
    · exact evaluateRest_forceTaken ht
  · exact evaluateRest_forceTaken hsearched

/-! ## The LOAD sample (R25) -/

/-- The force has been taken, or no test is under way. -/
def TakenOrOver (s t : State) : Prop :=
  ForceTaken s t ∨ t.tsq.state ≠ .armed ∧ inTest t = false

theorem TakenOrOver.onward (h : TakenOrOver s t) (h' : Onward t u) : TakenOrOver s u := by
  obtain htaken | ⟨harmed, hout⟩ := h
  · exact .inl (htaken.sighted h'.sight)
  · have hcourse := h'.course harmed
    refine .inr ⟨hcourse.armed harmed, ?_⟩
    cases hin : inTest u with
    | true => exact absurd (hcourse.inTest_before hin) (by simp [hout])
    | false => rfl

/-- Acts before the Evaluation Unit's: they detect no break, and the record of a test that goes on stays. -/
def EarlierActs (s t : State) : Prop :=
  Onward s t ∧ ∀ r, s.tsq.specimen = some r → Unjudged r 0 s t

theorem evuForce_takenOrOver (harmed : s.tsq.state ≠ .armed) (h : EarlierActs s t) :
    TakenOrOver s (evuForce t) := by
  obtain ⟨honward, hrecord⟩ := h
  cases hin : inTest t with
  | true =>
    exact .inl ((evuForce_forceTaken hin).since honward.sight
      fun r hr => ((hrecord r hr).specimen harmed hin).trans hr)
  | false =>
    have hstill : evuForce t = t := if_neg (by simp [hin])
    rw [hstill]
    exact .inr ⟨(honward.course harmed).armed harmed, hin⟩

/-- The blocks take the update in any order; the Evaluation Unit alone takes the force. -/
theorem loadSample_takenOrOver {f : SampleFrame} (harmed : (converted f s).tsq.state ≠ .armed) :
    TakenOrOver (converted f s) (loadSample f s) :=
  inOpenOrder_through (P := EarlierActs (converted f s)) (Q := TakenOrOver (converted f s))
    (l₁ := [protectForce]) (a := evuForce)
    (l₂ := [sequencerForce, exhForce, streamForce, loadWork (requestOutstanding s) f.range])
    (fun _ _ ⟨ht, hr⟩ => ⟨ht.trans (.quiet (.of_fm rfl rfl) rfl rfl rfl),
      fun r hs => (hr r hs).trans (.counted _ _)⟩)
    (fun _ ha t ⟨ht, hr⟩ => ⟨ht.trans (otherForceActs_onward t ha),
      fun r hs => (hr r hs).trans (otherForceActs_unjudged t ha)⟩)
    (fun _ ht => evuForce_takenOrOver harmed ht)
    (fun _ ha t ht => ht.onward (otherForceActs_onward t ha)) ⟨.refl _, fun _ _ => .refl _⟩

/-- Settles O52: the Evaluation Unit takes the force of the converted sample, and no other block moves what
it has taken. -/
theorem forceUpdateReachesRecords : Obligations.ForceUpdateReachesRecords := by
  intro dt lane rx f s hsteered hin
  refine ⟨_, exec_sample_steered hsteered, ?_⟩
  obtain ⟨htsqHeard, hevuHeard⟩ := withTap_heard_keeps dt lane (routeKey lane f.sub) f.value s
  simp only [deliver]
  generalize withTap (routeKey lane f.sub) f.value (heard dt lane s) = u at *
  obtain ⟨htsq, hevu⟩ := converted_keeps f u
  rw [htsqHeard] at htsq
  rw [hevuHeard] at hevu
  have harmed : (converted f u).tsq.state ≠ .armed := by
    rw [htsq]
    intro h
    simp [inTest, h] at hin
  intro hlasts
  obtain ⟨hnet, ⟨m, hm, hforce⟩, hbreak, hwindow⟩ | ⟨-, hout⟩ :=
    loadSample_takenOrOver (f := f) harmed
  · have hgreatest : greatestForce (converted f u) =
        max ((s.evu.fm.map EvalSample.force).getD (loadSample f u).lch.last.net)
          (loadSample f u).lch.last.net := by
      rw [greatestForce, hevu, hnet]
    refine ⟨⟨m, hm, hforce.trans hgreatest, fun r hr => ?_⟩, ?_⟩
    · rw [hbreak r (by rw [htsq]; exact hr), hevu, hforce]
    · rw [hwindow, hevu, hnet]
      unfold pushForce
      split <;> rfl
  · exact absurd hlasts (by simp [hout])

end Sys2Proof.Machine
end

section
/-!
SUPPORT. What a sample does to the yield search, the chord and the proof, one evaluation at a time (R112 to
R115, R117 to R119).
-/

namespace Sys2Proof.Machine

/-! ## The Fy record (R112) -/

theorem nextFy_cases (x : EvalSample) (fy : Option EvalSample) :
    nextFy x fy = x ∨ fy = some (nextFy x fy) := by
  unfold nextFy
  split
  · exact .inl rfl
  · split
    · exact .inl rfl
    · exact .inr rfl

/-- The Fy record follows the greatest force. -/
theorem nextFy_force (x : EvalSample) (fy : Option EvalSample) :
    (nextFy x fy).force = max ((fy.map EvalSample.force).getD x.force) x.force := by
  unfold nextFy
  split
  · simp
  · rename_i y
    dsimp only [Option.map_some, Option.getD_some]
    split <;> omega

theorem yieldDropped_iff (r : Specimen) (fy : EvalSample) (force : Int) :
    yieldDropped r fy force = true ↔
      r.yieldMinForce ≤ fy.force ∧ force * 10000 < fy.force * (10000 - r.yieldDrop) := by
  simp [yieldDropped]

/-! ## The plateau (R113, R114) -/

theorem strainOf_some (x : EvalSample) :
    strainOf (some x) = (x.strain.map Strain.value).getD 0 := by
  obtain ⟨_, _, _, strain, _⟩ := x
  cases strain <;> rfl

/-- The candidate is the lowest force that is not transient. -/
theorem nextCandidate_force (transient : Bool) (x : EvalSample) (candidate : Option EvalSample) :
    (nextCandidate transient x candidate).map EvalSample.force =
      if transient then candidate.map EvalSample.force
      else some (min x.force ((candidate.map EvalSample.force).getD x.force)) := by
  unfold nextCandidate
  split
  · rfl
  · split
    · simp
    · rename_i c
      dsimp only [Option.map_some, Option.getD_some]
      split
      · rw [min_eq_left (by omega)]
        rfl
      · rw [min_eq_right (by omega)]
        rfl

theorem plateauEnds_iff (x reh : EvalSample) (candidate : Option EvalSample) (margin : Int) :
    plateauEnds x reh candidate margin = true ↔
      (∃ c, candidate.map EvalSample.force = some c ∧
        c * 10000 + reh.force * margin ≤ x.force * 10000) ∨ reh.force ≤ x.force := by
  cases candidate <;> simp [plateauEnds]

variable {s : State} {r : Specimen} {v : Int} {x : EvalSample}

/-- The end of the plateau gives ReL, where there is a candidate, and Ae (R114). -/
theorem endPlateau_gives (x : EvalSample) (s : State) :
    (endPlateau x s).evu.search = .closed ∧
      (endPlateau x s).evu.result.ae =
        some (clampSigned32 (strainOf (some x) - strainOf s.evu.reh)) ∧
      (endPlateau x s).evu.result.reh = s.evu.result.reh ∧
      ∀ c, s.evu.candidate = some c → (endPlateau x s).evu.result.rel = some (forceStress c) := by
  unfold endPlateau
  dsimp only
  split
  · rename_i hnone
    simp [hnone]
  · rename_i c hc
    simp [hc]

theorem judgePlateau_eq {reh : EvalSample} (h : s.evu.reh = some reh) :
    judgePlateau r v x s =
      let candidate := nextCandidate (v ≤ strainOf (some reh) + r.transient) x s.evu.candidate
      let t := s.setEvu { s.evu with candidate := candidate }
      if plateauEnds x reh candidate r.riseMargin then endPlateau x t else t := by
  unfold judgePlateau
  simp only [h]

/-- The judgement in PLATEAU leaves the upper yield point and the Fy record; it closes the search or leaves
it where it is. -/
theorem judgePlateau_upper (r : Specimen) (v : Int) (x : EvalSample) (s : State) :
    (judgePlateau r v x s).evu.reh = s.evu.reh ∧ (judgePlateau r v x s).evu.fy = s.evu.fy ∧
      (judgePlateau r v x s).evu.result.reh = s.evu.result.reh ∧
      ((judgePlateau r v x s).evu.search = s.evu.search ∨
        (judgePlateau r v x s).evu.search = .closed) := by
  cases hreh : s.evu.reh with
  | none => simp [judgePlateau, hreh]
  | some reh =>
    rw [judgePlateau_eq hreh]
    dsimp only
    split
    · obtain ⟨hclosed, -, hupper, -⟩ := endPlateau_gives x (s.setEvu { s.evu with
        candidate := nextCandidate (v ≤ strainOf (some reh) + r.transient) x s.evu.candidate })
      exact ⟨by simp [hreh], by simp, hupper, .inr hclosed⟩
    · exact ⟨hreh, rfl, rfl, .inl rfl⟩

/-! ## The yield search (R112 to R115) -/

theorem searchYield_closed (h : s.evu.search = .closed) : searchYield r v x s = s := by
  simp only [searchYield, h]

theorem searchYield_rising_limit (h : s.evu.search = .rising) (hlimit : r.searchLimit ≤ v) :
    searchYield r v x s = { s with evu := { s.evu with search := .closed } } := by
  simp only [searchYield, h, if_pos hlimit, closeAtLimit]
  rfl

theorem searchYield_rising_below (h : s.evu.search = .rising) (hbelow : v < r.searchLimit) :
    searchYield r v x s =
      let fy := nextFy x s.evu.fy
      let t := s.setEvu { s.evu with fy := some fy }
      if yieldDropped r fy x.force then judgePlateau r v x (foundUpperYield fy t) else t := by
  simp only [searchYield, h, if_neg (Int.not_le.2 hbelow)]

theorem searchYield_plateau_below (h : s.evu.search = .plateau) (hbelow : v < r.searchLimit) :
    searchYield r v x s = judgePlateau r v x s := by
  simp only [searchYield, h, if_neg (Int.not_le.2 hbelow)]

theorem foundUpperYield_gives (fy : EvalSample) (s : State) :
    (foundUpperYield fy s).evu.reh = some fy ∧ (foundUpperYield fy s).evu.fy = s.evu.fy ∧
      (foundUpperYield fy s).evu.result.reh = some (forceStress fy) ∧
      (foundUpperYield fy s).evu.search = .plateau := by
  simp [foundUpperYield]

/-- The upper yield point is found in the Fy record, and the search leaves RISING (R112). -/
theorem searchYield_found (h : s.evu.search = .rising) (hbelow : v < r.searchLimit)
    (hdrop : yieldDropped r (nextFy x s.evu.fy) x.force = true) :
    (searchYield r v x s).evu.reh = some (nextFy x s.evu.fy) ∧
      (searchYield r v x s).evu.fy = some (nextFy x s.evu.fy) ∧
      (searchYield r v x s).evu.result.reh = some (forceStress (nextFy x s.evu.fy)) ∧
      (searchYield r v x s).evu.search ≠ .rising := by
  rw [searchYield_rising_below h hbelow]
  dsimp only
  rw [if_pos hdrop]
  generalize nextFy x s.evu.fy = fy
  obtain ⟨hreh, hfy, hupper, hsearch⟩ := judgePlateau_upper r v x
    (foundUpperYield fy (s.setEvu { s.evu with fy := some fy }))
  obtain ⟨hreh', hfy', hupper', hsearch'⟩ :=
    foundUpperYield_gives fy (s.setEvu { s.evu with fy := some fy })
  refine ⟨hreh.trans hreh', hfy.trans hfy', hupper.trans hupper', ?_⟩
  rw [hsearch'] at hsearch
  obtain hsearch | hsearch := hsearch <;> exact fun h => absurd (hsearch.symm.trans h) nofun

/-- Without a drop the search stays in RISING and keeps the Fy record (R112). -/
theorem searchYield_undropped (h : s.evu.search = .rising) (hbelow : v < r.searchLimit)
    (hdrop : ¬ yieldDropped r (nextFy x s.evu.fy) x.force = true) :
    searchYield r v x s = { s with evu := { s.evu with fy := some (nextFy x s.evu.fy) } } := by
  rw [searchYield_rising_below h hbelow]
  dsimp only
  rw [if_neg hdrop]
  rfl

/-- What the yield search makes of a sample of a force and a strain `v`. -/
structure SearchRecord.Judged (r : Specimen) (v force : Int) (m n : SearchRecord) : Prop where
  closed : m.search = .closed → n.search = .closed ∧ n.fy = m.fy
  rising : m.search = .rising →
    let greatest := max ((m.fy.map EvalSample.force).getD force) force
    if r.searchLimit ≤ v then n.search = .closed ∧ n.fy = m.fy
    else
      n.fy.map EvalSample.force = some greatest ∧
        if r.yieldMinForce ≤ greatest ∧ force * 10000 < greatest * (10000 - r.yieldDrop) then
          n.search ≠ .rising ∧ n.upper.map ForceStress.force = some greatest
        else n.search = .rising ∧ n.upper = m.upper
  plateau : ∀ reh : EvalSample, m.search = .plateau → m.reh = some reh → v < r.searchLimit →
    let start := (reh.strain.map Strain.value).getD 0
    let low :=
      if v ≤ start + r.transient then m.candidate.map EvalSample.force
      else some (min force ((m.candidate.map EvalSample.force).getD force))
    if (∃ c, low = some c ∧ c * 10000 + reh.force * r.riseMargin ≤ force * 10000) ∨
        reh.force ≤ force then
      n.search = .closed ∧ n.ae = some (clampSigned32 (v - start)) ∧
        (low.isSome = true → n.lower.map ForceStress.force = low)
    else n.search = .plateau ∧ n.candidate.map EvalSample.force = low

theorem searchYield_judged (hx : x.strain.map Strain.value = some v) :
    (searchRecord s).Judged r v x.force (searchRecord (searchYield r v x s)) where
  closed h := by
    rw [searchYield_closed h]
    exact ⟨h, rfl⟩
  rising h := by
    have hforce := nextFy_force x s.evu.fy
    dsimp only
    split
    · rename_i hlimit
      rw [searchYield_rising_limit h hlimit]
      exact ⟨rfl, rfl⟩
    · rename_i hlimit
      have hbelow : v < r.searchLimit := Int.not_le.1 hlimit
      have hdropped := yieldDropped_iff r (nextFy x s.evu.fy) x.force
      rw [hforce] at hdropped
      by_cases hdrop : yieldDropped r (nextFy x s.evu.fy) x.force = true
      · obtain ⟨-, hfy, hupper, hleft⟩ := searchYield_found h hbelow hdrop
        refine ⟨?_, ?_⟩
        · simp only [searchRecord, hfy, Option.map_some, hforce]
        · rw [if_pos (by exact hdropped.1 hdrop)]
          refine ⟨hleft, ?_⟩
          simp only [searchRecord, hupper, Option.map_some, forceStress, hforce]
      · rw [searchYield_undropped h hbelow hdrop, if_neg (by exact fun hd => hdrop (hdropped.2 hd))]
        refine ⟨?_, h, rfl⟩
        simp only [searchRecord, Option.map_some, hforce]
  plateau reh h hreh hbelow := by
    have hstart := strainOf_some reh
    have hlow := nextCandidate_force (v ≤ strainOf (some reh) + r.transient) x s.evu.candidate
    have hends := plateauEnds_iff x reh
      (nextCandidate (v ≤ strainOf (some reh) + r.transient) x s.evu.candidate) r.riseMargin
    have hstrain : strainOf (some x) = v := by rw [strainOf_some, hx]; rfl
    rw [searchYield_plateau_below h hbelow, judgePlateau_eq hreh]
    rw [hlow] at hends
    generalize nextCandidate (v ≤ strainOf (some reh) + r.transient) x s.evu.candidate = candidate at *
    simp only [decide_eq_true_eq, hstart] at hlow hends
    dsimp only
    by_cases hend : plateauEnds x reh candidate r.riseMargin = true
    · obtain ⟨hclosed, hae, -, hlower⟩ :=
        endPlateau_gives x (s.setEvu { s.evu with candidate := candidate })
      rw [if_pos hend, if_pos (by exact hends.1 hend)]
      refine ⟨hclosed, ?_, fun hsome => ?_⟩
      · rw [← hstart, ← hstrain]
        exact hae.trans (by rw [← hreh]; rfl)
      · simp only [searchRecord] at hsome ⊢
        rw [← hlow] at hsome ⊢
        cases candidate with
        | none => simp at hsome
        | some c => simp [hlower c rfl, forceStress]
    · rw [if_neg hend, if_neg (by exact fun hd => hend (hends.2 hd))]
      exact ⟨h, hlow⟩

/-! ## What the yield search leaves -/

/-- The latest strain, and what the chord and the proof hold. -/
def moduliView (s : State) : Option Int × ModuliRecord := (latestStrain s, moduliRecord s)

theorem closeAtLimit_moduliView (x : EvalSample) (s : State) :
    moduliView (closeAtLimit x s) = moduliView s := by
  simp [moduliView, latestStrain, closeAtLimit_moduliRecord]

theorem judgePlateau_moduliView (r : Specimen) (v : Int) (x : EvalSample) (s : State) :
    moduliView (judgePlateau r v x s) = moduliView s := by
  have hend : ∀ t, moduliView (endPlateau x t) = moduliView t := fun t => by
    simp [moduliView, latestStrain, endPlateau_moduliRecord]
  unfold judgePlateau
  split
  · rfl
  · dsimp only
    split
    · exact hend _
    · rfl

theorem foundUpperYield_moduliView (fy : EvalSample) (s : State) :
    moduliView (foundUpperYield fy s) = moduliView s := by
  simp [moduliView, latestStrain, moduliRecord, foundUpperYield]

theorem searchYield_moduliView (r : Specimen) (v : Int) (x : EvalSample) (s : State) :
    moduliView (searchYield r v x s) = moduliView s := by
  unfold searchYield
  split
  · rfl
  · split
    · exact closeAtLimit_moduliView x s
    · dsimp only
      split
      · exact (judgePlateau_moduliView _ _ _ _).trans (foundUpperYield_moduliView _ _)
      · rfl
  · split
    · exact closeAtLimit_moduliView x s
    · exact judgePlateau_moduliView r v x s

/-! ## The chord and the proof (R117 to R119) -/

/-- The latest strain, and what the yield search holds. -/
def searchView (s : State) : Option Int × SearchRecord := (latestStrain s, searchRecord s)

theorem judgeChord_searchView (x : EvalSample) (r : Specimen) (v : Int) (s : State) :
    searchView (judgeChord x r v s) = searchView s := by
  unfold judgeChord
  split
  · split
    · simp [searchView, latestStrain, searchRecord]
    · rfl
  · split
    · rfl
    · split
      · simp [searchView, latestStrain, searchRecord]
      · rfl
  · rfl

theorem judgeProof_searchView (x : EvalSample) (r : Specimen) (v : Int) (s : State) :
    searchView (judgeProof x r v s) = searchView s := by
  unfold judgeProof
  split
  · split
    · simp [searchView, latestStrain, searchRecord]
    · rfl
  · rfl

/-- The lower chord point is taken at the lower stress (R117). -/
theorem judgeChord_low (h : s.evu.chord = .waitingLow) :
    if r.sigmaLow ≤ x.stress then
      (judgeChord x r v s).evu.chord = .waitingHigh ∧
        (judgeChord x r v s).evu.point1 = some { stress := x.stress, strain := v }
    else (judgeChord x r v s).evu.chord = .waitingLow := by
  unfold judgeChord
  simp only [h]
  split
  · exact ⟨rfl, rfl⟩
  · exact h

/-- The upper chord point is taken at the upper stress, with the modulus of the two (R117 to R119). -/
theorem judgeChord_high {p : ChordPoint} (h : s.evu.chord = .waitingHigh) (hp : s.evu.point1 = some p) :
    if r.sigmaHigh ≤ x.stress then
      let e := chordModulus p { stress := x.stress, strain := v }
      (judgeChord x r v s).evu.chord = .complete ∧
        (judgeChord x r v s).evu.point2 = some { stress := x.stress, strain := v } ∧
        (judgeChord x r v s).evu.result.modulusStatus = (if e.isSome then .valid else .invalid) ∧
        (judgeChord x r v s).evu.result.modulus = e ∧
        (e.isSome → r.proofOffset ≠ 0 → (judgeChord x r v s).evu.proof = .watching)
    else (judgeChord x r v s).evu.chord = .waitingHigh := by
  unfold judgeChord
  simp only [h, hp]
  split
  · exact ⟨rfl, rfl, rfl, rfl, fun he ho => if_pos ⟨he, ho⟩⟩
  · exact h

theorem judgeChord_complete (h : s.evu.chord = .complete) : judgeChord x r v s = s := by
  simp only [judgeChord, h]

/-- A watched proof is found where its line is crossed (R119). -/
theorem judgeProof_watching {p q : ChordPoint} (h : s.evu.proof = .watching)
    (hp : s.evu.point1 = some p) (hq : s.evu.point2 = some q) :
    if r.proofOffset * (q.stress - p.stress) ≤
        (v - p.strain) * (q.stress - p.stress) - (x.stress - p.stress) * (q.strain - p.strain) then
      (judgeProof x r v s).evu.proof = .found ∧ (judgeProof x r v s).evu.result.rp = some x.stress
    else (judgeProof x r v s).evu.proof = .watching := by
  unfold judgeProof
  simp only [h, hp, hq, proofMet, decide_eq_true_eq]
  split
  · exact ⟨rfl, rfl⟩
  · exact h

/-- What the chord and the proof make of a sample of a stress and a strain `v`. -/
structure ModuliRecord.Judged (r : Specimen) (v stress : Int) (m n : ModuliRecord) : Prop where
  low : m.chord = .waitingLow →
    if r.sigmaLow ≤ stress then
      n.chord = .waitingHigh ∧ n.point1 = some { stress := stress, strain := v }
    else n.chord = .waitingLow
  high : ∀ p : ChordPoint, m.chord = .waitingHigh → m.point1 = some p →
    if r.sigmaHigh ≤ stress then
      n.chord = .complete ∧ n.point2 = some { stress := stress, strain := v } ∧
        (if p.strain < v ∧ p.stress < stress then
          n.status = .valid ∧
            n.modulus = some (min 2147483647
              (roundDiv ((stress - p.stress) * 100000) (v - p.strain))) ∧
            (r.proofOffset ≠ 0 → n.proof = .watching)
        else n.status = .invalid ∧ n.modulus = none)
    else n.chord = .waitingHigh
  proof : ∀ p q : ChordPoint, m.chord = .complete → m.proof = .watching →
    m.point1 = some p → m.point2 = some q →
    if r.proofOffset * (q.stress - p.stress) ≤
        (v - p.strain) * (q.stress - p.stress) - (stress - p.stress) * (q.strain - p.strain) then
      n.proof = .found ∧ n.rp = some stress
    else n.proof = .watching

/-- In RUNNING an evaluation runs on a sample that carries the latest strain (R108). -/
theorem whileRunning_strained {f : Specimen → Int → State → State} (hrun : s.tsq.state = .running)
    (hspecimen : s.tsq.specimen = some r) (hx : x.strain.map Strain.value = some v) :
    whileRunning f x s = f r v s := by
  obtain ⟨st, hst, rfl⟩ := Option.map_eq_some_iff.1 hx
  simp only [whileRunning, hspecimen, hst, hrun, if_true]

theorem moduliJudged_strained (hrun : s.tsq.state = .running) (hspecimen : s.tsq.specimen = some r)
    (hx : x.strain.map Strain.value = some v) : moduliJudged x s =
      if s.evu.proof = .watching then judgeProof x r v (judgeChord x r v s)
      else judgeChord x r v s := by
  have hgoes := (judgeChord_steady s x r v).course
  unfold moduliJudged
  dsimp only
  rw [whileRunning_strained hrun hspecimen hx,
    whileRunning_strained (hgoes.state.trans hrun) (hgoes.specimen.trans hspecimen) hx]

/-- The proof is watched with the chord complete only, so a sample is judged by one of the two. -/
theorem moduliJudged_judged (hs : Strained r v s) (hx : x.strain.map Strain.value = some v) :
    (moduliRecord s).Judged r v x.stress (moduliRecord (moduliJudged x s)) := by
  rw [moduliJudged_strained hs.state hs.specimen hx]
  have hopen : s.evu.chord ≠ .complete → s.evu.proof ≠ .watching := fun hc hw =>
    hc (hs.sequenced.proof hw)
  refine ⟨fun h => ?_, fun p h hp => ?_, fun p q h hw hp hq => ?_⟩
  · rw [if_neg (hopen (by rw [show s.evu.chord = .waitingLow from h]; decide))]
    exact judgeChord_low h
  · rw [if_neg (hopen (by rw [show s.evu.chord = .waitingHigh from h]; decide))]
    have hhigh := judgeChord_high (r := r) (v := v) (x := x) h hp
    split at hhigh
    · rename_i hreached
      obtain ⟨hchord, hpoint, hstatus, hmodulus, hproof⟩ := hhigh
      rw [if_pos hreached]
      refine ⟨hchord, hpoint, ?_⟩
      split
      · rename_i hslope
        have he : chordModulus p { stress := x.stress, strain := v } =
            some (min 2147483647 (roundDiv ((x.stress - p.stress) * 100000) (v - p.strain))) :=
          if_pos hslope
        rw [he] at hstatus hmodulus hproof
        exact ⟨hstatus, hmodulus, hproof rfl⟩
      · rename_i hslope
        have he : chordModulus p { stress := x.stress, strain := v } = none := if_neg hslope
        rw [he] at hstatus hmodulus
        exact ⟨hstatus, hmodulus⟩
    · rename_i hreached
      rw [if_neg hreached]
      exact hhigh
  · have hwatching : s.evu.proof = .watching := hw
    rw [if_pos hwatching, judgeChord_complete h]
    exact judgeProof_watching hw hp hq

/-- The chord and the proof leave the latest strain and the yield search. -/
theorem moduliJudged_searchView (hs : Strained r v s) (hx : x.strain.map Strain.value = some v) :
    searchView (moduliJudged x s) = searchView s := by
  rw [moduliJudged_strained hs.state hs.specimen hx]
  split
  · exact (judgeProof_searchView x r v _).trans (judgeChord_searchView x r v s)
  · exact judgeChord_searchView x r v s

end Sys2Proof.Machine
end

section
/-!
SUPPORT. The evaluations of a force update in RUNNING (O53): the sample is judged as the Evaluation Unit finds
it, and what the judgement leaves stays while the test goes on (R108 to R119).
-/

namespace Sys2Proof.Machine

variable {r : Specimen} {v : Int} {s t u : State}

/-! ## The search about the sample's judgement (R115) -/

/-- A limit reached before the sample closes the search as the sample would have. -/
theorem SearchRecord.Judged.since {force : Int} {m n k : SearchRecord} (h : n.Judged r v force k)
    (hstands : m.Stands r v n) : m.Judged r v force k := by
  obtain rfl | ⟨hlimit, hclosed, hfy⟩ := hstands
  · exact h
  · obtain ⟨hclosed', hfy'⟩ := h.closed hclosed
    refine ⟨fun _ => ⟨hclosed', hfy'.trans hfy⟩, fun _ => ?_, fun _ _ _ hbelow => ?_⟩
    · dsimp only
      rw [if_pos hlimit]
      exact ⟨hclosed', hfy'.trans hfy⟩
    · exact absurd hlimit (Int.not_le.2 hbelow)

/-- A limit reached after the sample has been reached by the sample. -/
theorem SearchRecord.Judged.stands {force : Int} {m n k : SearchRecord} (h : m.Judged r v force n)
    (hstands : n.Stands r v k) : m.Judged r v force k := by
  obtain rfl | ⟨hlimit, hclosed, hfy⟩ := hstands
  · exact h
  · refine ⟨fun hm => ⟨hclosed, hfy.trans (h.closed hm).2⟩, fun hm => ?_, fun _ _ _ hbelow => ?_⟩
    · have hrising := h.rising hm
      dsimp only at hrising ⊢
      rw [if_pos hlimit] at hrising ⊢
      exact ⟨hclosed, hfy.trans hrising.2⟩
    · exact absurd hlimit (Int.not_le.2 hbelow)

/-! ## A test that goes on, or does not -/

/-- The test goes on in RUNNING with the strain `v`, what the evaluations hold being as said, or it has left
RUNNING. -/
def GoesOnWith (r : Specimen) (v : Int) (M : ModuliRecord → Prop) (Q : SearchRecord → Prop)
    (t : State) : Prop :=
  Strained r v t ∧ M (moduliRecord t) ∧ Q (searchRecord t) ∨
    t.tsq.state ≠ .armed ∧ t.tsq.state ≠ .running

variable {M : ModuliRecord → Prop} {Q : SearchRecord → Prop}

/-- An act that evaluates nothing leaves it so. -/
theorem GoesOnWith.unjudged (h : GoesOnWith r v M Q t) (h' : Unjudged r v t u)
    (hQ : ∀ m n, Q m → m.Stands r v n → Q n) : GoesOnWith r v M Q u := by
  obtain ⟨hs, hm, hq⟩ | ⟨harmed, hrun⟩ := h
  · have harmed := (h'.onward.course hs.not_armed).armed hs.not_armed
    by_cases hrun : u.tsq.state = .running
    · obtain ⟨-, hmoduli, hsearch⟩ := h'.kept hs hrun
      exact .inl ⟨h'.strained hs hrun, by rwa [hmoduli], hQ _ _ hq hsearch⟩
    · exact .inr ⟨harmed, hrun⟩
  · have hcourse := h'.onward.course harmed
    exact .inr ⟨hcourse.armed harmed,
      fun h => hrun ((hcourse.goesOn_of_running h).state.symm.trans h)⟩

/-! ## The update as the Evaluation Unit takes it (R108, R116) -/

/-- A test in RUNNING stays there, or has been TRIPPED or ENDED. -/
theorem Unjudged.running_or_over (h : Unjudged r v s t) (hs : Strained r v s) :
    t.tsq.state = .running ∨
      t.tsq.state ≠ .armed ∧ t.tsq.state ≠ .running ∧ t.tsq.state ≠ .held := by
  obtain h | h | h := h.onward.course hs.not_armed
  · exact .inl (h.state.trans hs.state)
  · exact .inr (by simp [h.state])
  · exact .inr (by simp [h.state])

/-- The rest of the evaluations judge the chord and the proof; a break takes the test out of RUNNING. -/
theorem evaluateRest_goesOn {x : EvalSample} (hs : Strained r v t)
    (hx : x.strain.map Strain.value = some v) (hforce : x.force = t.lch.last.net) :
    GoesOnWith r v ((moduliRecord t).Judged r v x.stress) (searchRecord t = ·)
      (evaluateRest x t) := by
  have hsteady := moduliJudged_steady t x
  have hstate : (moduliJudged x t).tsq.state = .running := hsteady.course.state.trans hs.state
  have hguarded := evaluateRest_guarded t x
  have hstress := evaluateRest_stress t x
  rw [evaluateRest_eq] at hguarded hstress ⊢
  obtain hnone | ⟨-, hbreak⟩ := detectBreak_cases x (moduliJudged x t)
  · rw [hnone] at hguarded hstress ⊢
    have hview := moduliJudged_searchView hs hx
    simp only [searchView, Prod.mk.injEq] at hview
    obtain ⟨hstrain, hsearch⟩ := hview
    exact .inl ⟨hs.kept hsteady.course hsteady.sight.net hguarded hstress (hstrain.trans hs.strain),
      moduliJudged_judged hs hx, hsearch.symm⟩
  · rw [hbreak]
    obtain h | h | h := takeBreak_taken (.inl hstate) (hforce.trans hsteady.sight.net.symm)
    · exact .inr (by simp [h.state])
    · exact .inr (by simp [h.state])
    · exact .inr (by simp [h.state])

/-- The rest of the evaluations, after the sequencer may have judged the closing of the search (R116). -/
theorem evaluateRest_goesOn_after {x : EvalSample} (hs : Strained r v s)
    (hx : x.strain.map Strain.value = some v) (hforce : x.force = s.lch.last.net)
    (h : Unjudged r v s t) :
    GoesOnWith r v ((moduliRecord s).Judged r v x.stress) ((searchRecord s).Stands r v ·)
      (evaluateRest x t) := by
  obtain hrun | ⟨harmed, hrun, hheld⟩ := h.running_or_over hs
  · obtain ⟨-, hmoduli, hsearch⟩ := h.kept hs hrun
    obtain ⟨hs', hm, hq⟩ | hout :=
      evaluateRest_goesOn (h.strained hs hrun) hx (hforce.trans h.onward.sight.net.symm)
    · rw [hmoduli] at hm
      exact .inl ⟨hs', hm, hq ▸ hsearch⟩
    · exact .inr hout
  · rw [evaluateRest_outside hrun hheld]
    exact .inr ⟨harmed, hrun⟩

/-- The sample of the present update carries the force held, its stress and the latest strain (R108). -/
theorem Strained.sample (hs : Strained r v s) : (evaluationSample s).force = s.lch.last.net ∧
    (evaluationSample s).stress = stressOf s.lch.last.net r.s0 ∧
    (evaluationSample s).strain.map Strain.value = some v := ⟨rfl, hs.stress, hs.strain⟩

/-- Fm and the window taken, the yield search judges the sample (R112 to R115). -/
theorem yieldSearched_strained (hs : Strained r v s) : Strained r v (yieldSearched s) ∧
    moduliRecord (yieldSearched s) = moduliRecord s ∧
    (searchRecord s).Judged r v s.lch.last.net (searchRecord (yieldSearched s)) := by
  obtain ⟨-, -, hx⟩ := hs.sample
  have htaken : Strained r v (sampleTaken s) :=
    hs.kept (sampleTaken_goesOn s) rfl (.quiet rfl) (.inl rfl) hs.strain
  have hsearched : yieldSearched s = searchYield r v (evaluationSample s) (sampleTaken s) :=
    whileRunning_strained htaken.state htaken.specimen hx
  have hsteady := yieldSearched_steady s
  have hview := searchYield_moduliView r v (evaluationSample s) (sampleTaken s)
  simp only [moduliView, Prod.mk.injEq, ← hsearched] at hview
  obtain ⟨hstrain, hmoduli⟩ := hview
  refine ⟨htaken.kept hsteady.course hsteady.sight.net ?_ (.inl ?_) (hstrain.trans htaken.strain),
    hmoduli, ?_⟩
  · rw [hsearched]
    exact searchYield_guarded _ r v _
  · rw [hsearched]
    exact searchYield_stressRecord _ r v _
  · rw [hsearched]
    exact searchYield_judged (s := sampleTaken s) hx

/-- The evaluations of a sample in RUNNING, in their order. -/
theorem evuForce_goesOn (hs : Strained r v s) :
    GoesOnWith r v ((moduliRecord s).Judged r v (stressOf s.lch.last.net r.s0))
      ((searchRecord s).Judged r v s.lch.last.net) (evuForce s) := by
  obtain ⟨hforce, hstress, hx⟩ := hs.sample
  obtain ⟨hsearched, hmoduli, hjudged⟩ := yieldSearched_strained hs
  have hforce' := hforce.trans (yieldSearched_steady s).sight.net.symm
  have hrest : GoesOnWith r v ((moduliRecord (yieldSearched s)).Judged r v (evaluationSample s).stress)
      ((searchRecord (yieldSearched s)).Stands r v ·) (evuForce s) := by
    have hclosing : ∀ act ∈ [judgeEnd metByClosing] ++ [], ∀ t, Unjudged r v t (act t) := by
      intro act ha t
      obtain rfl : act = judgeEnd metByClosing := by simpa using ha
      exact judgeEnd_unjudged t _
    rw [evuForce_eq, if_pos hs.inTest]
    split
    · exact inOpenOrder_through (P := Unjudged r v (yieldSearched s))
        (l₁ := [judgeEnd metByClosing]) (l₂ := [])
        (fun _ _ ht => ht.trans (.counted _ _)) (fun act ha t ht => ht.trans (hclosing act ha t))
        (fun t ht => evaluateRest_goesOn_after hsearched hx hforce' ht)
        (fun act ha t ht => ht.unjudged (hclosing act ha t) fun _ _ h h' => h.trans h') (.refl _)
    · exact evaluateRest_goesOn_after hsearched hx hforce' (.refl _)
  rw [hmoduli, hstress] at hrest
  obtain ⟨hs', hm, hstands⟩ | hout := hrest
  · exact .inl ⟨hs', hm, hjudged.stands hstands⟩
  · exact .inr hout

/-- The evaluations after whatever the other blocks have done on the update. -/
theorem evuForce_goesOn_after (hs : Strained r v s) (h : Unjudged r v s t) :
    GoesOnWith r v ((moduliRecord s).Judged r v (stressOf s.lch.last.net r.s0))
      ((searchRecord s).Judged r v s.lch.last.net) (evuForce t) := by
  obtain hrun | ⟨harmed, hrun, hheld⟩ := h.running_or_over hs
  · obtain ⟨-, hmoduli, hsearch⟩ := h.kept hs hrun
    have hjudged := evuForce_goesOn (h.strained hs hrun)
    rw [hmoduli, h.onward.sight.net] at hjudged
    obtain ⟨hs', hm, hq⟩ | hout := hjudged
    · exact .inl ⟨hs', hm, hq.since hsearch⟩
    · exact .inr hout
  · have hstate := (evuForce_outside hrun hheld).state
    exact .inr ⟨by rwa [hstate], by rwa [hstate]⟩

/-! ## The LOAD sample (R25) -/

/-- The blocks take the update in any order; the Evaluation Unit alone evaluates the sample. -/
theorem loadSample_goesOn {f : SampleFrame} (hs : Strained r v (converted f s)) :
    GoesOnWith r v
      ((moduliRecord (converted f s)).Judged r v (stressOf (converted f s).lch.last.net r.s0))
      ((searchRecord (converted f s)).Judged r v (converted f s).lch.last.net) (loadSample f s) :=
  inOpenOrder_through (P := Unjudged r v (converted f s))
    (l₁ := [protectForce]) (a := evuForce)
    (l₂ := [sequencerForce, exhForce, streamForce, loadWork (requestOutstanding s) f.range])
    (fun _ _ ht => ht.trans (.counted _ _))
    (fun _ ha t ht => ht.trans (otherForceActs_unjudged t ha))
    (fun _ ht => evuForce_goesOn_after hs ht)
    (fun _ ha t ht => ht.unjudged (otherForceActs_unjudged t ha) fun _ _ h h' => h.stands h')
    (.refl _)

/-- The tap and the silence timer are no part of what the invariant of the test reads. -/
theorem withTap_heard_sequenced {dt : Nat} {lane : Lane} {k : Fin 10} {w : Int} (h : Sequenced s) :
    Sequenced (withTap k w (heard dt lane s)) := by
  obtain ⟨hlatch, hrecord, hstrain, hproof⟩ := h
  unfold withTap
  split <;> exact ⟨hlatch, hrecord, hstrain, hproof⟩

/-- The converted sample finds the test with the strain before it, and with its own stress (R24, R27). -/
theorem converted_strained {f : SampleFrame} (h : Sequenced s) (hrun : s.tsq.state = .running)
    (hspecimen : s.tsq.specimen = some r) (hstrain : latestStrain s = some v) :
    Strained r v (converted f s) := by
  obtain ⟨htsq, hevu⟩ := converted_keeps f s
  have hguarded : Guarded s (converted f s) :=
    .trans (.quiet (receiveRange_dials s f.range)) (.quiet rfl)
  have hrecord : (converted f s).tsq.specimen = some r := by rw [htsq, hspecimen]
  refine ⟨by rw [htsq, hrun], hrecord, hguarded.sequenced h, ?_, ?_⟩
  · simp only [currentStress, convertSample_stressFollows f _ r hrecord]
  · rw [latestStrain, hevu]
    exact hstrain

/-- The yield search of a sample in RISING (R112, R115). -/
theorem searchYield_rising (r : Specimen) (strain : Int) (x : EvalSample) (s : State)
    (h : s.evu.search = .rising) :
    (r.searchLimit ≤ strain → searchYield r strain x s =
      { s with evu := { s.evu with search := .closed } }) ∧
    (strain < r.searchLimit →
      ∃ fy : EvalSample,
        (fy = x ∨ s.evu.fy = some fy) ∧ x.force ≤ fy.force ∧
        (∀ y, s.evu.fy = some y → y.force ≤ fy.force) ∧
        if r.yieldMinForce ≤ fy.force ∧ x.force * 10000 < fy.force * (10000 - r.yieldDrop) then
          (searchYield r strain x s).evu.reh = some fy ∧
            (searchYield r strain x s).evu.result.reh =
              some { force := fy.force, stress := fy.stress } ∧
            (searchYield r strain x s).evu.search ≠ .rising
        else searchYield r strain x s = { s with evu := { s.evu with fy := some fy } }) := by
  refine ⟨searchYield_rising_limit h, fun hbelow => ?_⟩
  have hforce := nextFy_force x s.evu.fy
  refine ⟨nextFy x s.evu.fy, nextFy_cases x s.evu.fy, ?_, fun y hy => ?_, ?_⟩
  · rw [hforce]
    exact le_max_right _ _
  · rw [hforce, hy]
    exact le_max_left _ _
  · split
    · rename_i hdrop
      obtain ⟨hreh, -, hupper, hleft⟩ :=
        searchYield_found h hbelow ((yieldDropped_iff r _ x.force).2 hdrop)
      exact ⟨hreh, hupper, hleft⟩
    · rename_i hdrop
      exact searchYield_undropped h hbelow fun hd => hdrop ((yieldDropped_iff r _ x.force).1 hd)

/-- Settles O53: the other blocks leave the evaluations alone, but for a search closed at the limit, and a
splice publishes the latest strain anew, so the sample is judged with the strain before it. -/
theorem evaluationsJudgeSample : Obligations.EvaluationsJudgeSample := by
  refine ⟨searchYield_rising, ?_⟩
  intro dt lane rx f r st s hinvariant hsteered hrun hspecimen hstrain
  refine ⟨_, exec_sample_steered hsteered, ?_⟩
  obtain ⟨htsqHeard, hevuHeard⟩ := withTap_heard_keeps dt lane (routeKey lane f.sub) f.value s
  have hsequenced := withTap_heard_sequenced (dt := dt) (lane := lane) (k := routeKey lane f.sub)
    (w := f.value) hinvariant.sequenced
  simp only [deliver]
  generalize withTap (routeKey lane f.sub) f.value (heard dt lane s) = u at *
  have hstrained : Strained r st.value (converted f u) :=
    converted_strained hsequenced (by rw [htsqHeard, hrun]) (by rw [htsqHeard, hspecimen])
      (by rw [latestStrain, hevuHeard, hstrain]; rfl)
  obtain ⟨-, hevu⟩ := converted_keeps f u
  rw [hevuHeard] at hevu
  have hmoduliRecord : moduliRecord (converted f u) = moduliRecord s := by
    simp only [moduliRecord, hevu]
  have hsearchRecord : searchRecord (converted f u) = searchRecord s := by
    simp only [searchRecord, hevu]
  have hjudged := loadSample_goesOn hstrained
  rw [hmoduliRecord, hsearchRecord, ← loadSample_last f u] at hjudged
  intro hgoes
  obtain ⟨-, ⟨hlow, hhigh, hproof⟩, ⟨-, hrising, hplateau⟩⟩ | ⟨-, hout⟩ := hjudged
  · exact ⟨hrising, hplateau, hlow, hhigh, hproof⟩
  · exact absurd hgoes hout

end Sys2Proof.Machine
end

section
/-!
SUPPORT. The trip history orders (O35) and the output lines (O49): the owners answer at once, and a line with a
function reads the blocks its function follows (R81, R145, R149 to R152).
-/

namespace Sys2Proof.Machine

variable {s : State} (dt : Nat) (tag : Byte)

/-! ## The latch as the line functions read it (R145) -/

theorem mem_allTrips (c : TripClass) : c ∈ allTrips := by cases c <;> decide

theorem latchEmpty_iff (s : State) : latchEmpty s = true ↔ ∀ c : TripClass, latched s c = false := by
  simp [latchEmpty, mem_allTrips]

theorem tripLampFunction_iff (s : State) : tripLampFunction s = true ↔ ∃ c, latched s c = true := by
  simp [tripLampFunction, latchEmpty, mem_allTrips]

theorem dumpFunction_iff (s : State) :
    dumpFunction s = true ↔ ∃ c, isDump c = true ∧ latched s c = true := by
  simp [dumpFunction, mem_allTrips]

theorem testActiveFunction_iff (s : State) : testActiveFunction s = true ↔
    s.tsq.state = .running ∨ s.tsq.state = .held ∨ s.tsq.state = .tripped := by
  unfold testActiveFunction inTest
  cases s.tsq.state <;> simp

/-! ## TRIP-HISTORY-READ and TRIP-HISTORY-RESET (R149) -/

/-- While a class is latched the reset is refused with the lowest-numbered one. -/
theorem ownTripHistoryReset_refused (h : Settled s) {c : TripClass} (hc : latched s c = true)
    (hlow : ∀ d : TripClass, (tripNumber d).val < (tripNumber c).val → latched s d = false) :
    ownTripHistoryReset tag [] (joined .tripHistoryReset dt tag s) =
      answered (detailReply .tripHistoryReset tag .conditionPresent (.tripClass c)) (later dt s) := by
  obtain ⟨rest, hclasses⟩ :=
    latchedClasses_lowest (s := joined .tripHistoryReset dt tag s) (c := c) hc hlow
  rw [ownTripHistoryReset, hclasses]
  exact reply_joined _ dt tag _ _ h

/-- With an empty latch every record is emptied. -/
theorem ownTripHistoryReset_empties (h : Settled s) (hempty : latchEmpty s = true) :
    ownTripHistoryReset tag [] (joined .tripHistoryReset dt tag s) =
      answered (plainReply .tripHistoryReset tag .done)
        { later dt s with pru := { s.pru with history := Vector.replicate 8 TripRecord.empty } } := by
  have hclasses : latchedClasses (joined .tripHistoryReset dt tag s) = [] :=
    latchedClasses_empty (s := joined .tripHistoryReset dt tag s) hempty
  rw [ownTripHistoryReset, hclasses]
  exact reply_join (s := { later dt s with pru := { s.pru with
    history := Vector.replicate 8 TripRecord.empty } }) h .tripHistoryReset tag _ _ _

/-- Settles O35: each order is answered at once, the reset by what the latch holds. -/
theorem tripHistoryOrders : Obligations.TripHistoryOrders := by
  intro dt tag s hready
  have hsettled := hready.1
  refine ⟨?_, fun c hc hlow => ?_, fun hempty => ?_⟩
  · exact congrArg Host.Outcome.next ((takeOrder_ready hready rfl).trans
      (reply_join (s := later dt s) hsettled .tripHistoryRead tag _ _ _))
  · exact congrArg Host.Outcome.next ((takeOrder_ready hready rfl).trans
      (ownTripHistoryReset_refused dt tag hsettled hc hlow))
  · exact congrArg Host.Outcome.next ((takeOrder_ready hready rfl).trans
      (ownTripHistoryReset_empties dt tag hsettled ((latchEmpty_iff s).2 hempty)))

/-! ## LINE-SET (R151) -/

/-- The byte of a level in LINE-SET. -/
def levelByte (level : LineLevel) : Byte := if level = .asserted then 0 else 1

theorem levelByte_le (level : LineLevel) : (levelByte level).toNat ≤ 1 := by
  cases level <;> decide

theorem levelByte_read (level : LineLevel) :
    (if levelByte level = 0 then LineLevel.asserted else .released) = level := by
  cases level <;> rfl

/-- The four bytes of LINE-SET's line number. -/
theorem lineNumber_read (a b c d l : Byte) : unsignedAt [a, b, c, d, l] 0 4 =
    ((a.toNat * 256 + b.toNat) * 256 + c.toNat) * 256 + d.toNat := by
  simp [unsignedAt, bigEndian, byteAt, List.range_succ]

/-- A line number past 3 is refused. -/
theorem ownLineSet_past (h : Settled s) {args : List Byte} (hn : 4 ≤ unsignedAt args 0 4) :
    ownLineSet tag args (joined .lineSet dt tag s) =
      answered (plainReply .lineSet tag .badArgument) (later dt s) := by
  rw [ownLineSet, dif_neg (by omega)]
  exact reply_joined _ dt tag _ _ h

/-- A line with a function is refused. -/
theorem ownLineSet_owned (h : Settled s) {args : List Byte} {i : Fin 4}
    (hi : unsignedAt args 0 4 = i.val) (hl : (byteAt args 4).toNat ≤ 1)
    (howned : lineFunction s i ≠ .manual) :
    ownLineSet tag args (joined .lineSet dt tag s) =
      answered (plainReply .lineSet tag .lineOwned) (later dt s) := by
  have hline : (⟨unsignedAt args 0 4, by omega⟩ : Fin 4) = i := Fin.ext hi
  rw [ownLineSet, dif_pos ⟨by omega, hl⟩]
  dsimp only
  rw [hline, if_neg (by exact howned)]
  exact reply_joined _ dt tag _ _ h

/-- A MANUAL line's level is set. -/
theorem ownLineSet_manual (h : Settled s) {args : List Byte} {i : Fin 4} {level : LineLevel}
    (hi : unsignedAt args 0 4 = i.val) (hl : byteAt args 4 = levelByte level)
    (hmanual : lineFunction s i = .manual) :
    ownLineSet tag args (joined .lineSet dt tag s) =
      answered (plainReply .lineSet tag .done)
        { later dt s with oln := { s.oln with manual := s.oln.manual.set i level } } := by
  have hline : (⟨unsignedAt args 0 4, by omega⟩ : Fin 4) = i := Fin.ext hi
  rw [ownLineSet, dif_pos ⟨by omega, by rw [hl]; exact levelByte_le level⟩]
  dsimp only
  rw [hline, if_pos (by exact hmanual), hl, levelByte_read]
  exact reply_join (s := { later dt s with oln := { s.oln with
    manual := s.oln.manual.set i level } }) h .lineSet tag _ _ _

/-! ## The level of a line (R150, R152) -/

theorem lineLevel_manual {i : Fin 4} (h : lineFunction s i = .manual) :
    lineLevel s i = s.oln.manual[i] := by
  simp only [lineLevel, h]

/-- Whether the function of a line is asserted; MANUAL is none. -/
def functionAsserted (s : State) : LineFunction → Bool
  | .manual => false
  | .extOpen => extOpenFunction s
  | .dump => dumpFunction s
  | .tripLamp => tripLampFunction s
  | .testActive => testActiveFunction s

/-- A line with a function is ASSERTED exactly while its function is. -/
theorem lineLevel_asserted {i : Fin 4} {f : LineFunction} (h : lineFunction s i = f)
    (hf : f ≠ .manual) : lineLevel s i = .asserted ↔ functionAsserted s f = true := by
  have hfollow : ∀ b : Bool, (if b then LineLevel.asserted else .released) = .asserted ↔ b = true := by
    decide
  unfold lineLevel
  rw [h]
  cases f with
  | manual => exact absurd rfl hf
  | extOpen | dump | tripLamp | testActive => exact hfollow _

/-- Settles O49: the order by its checks in turn, and each function by the block it follows. -/
theorem linesFollow : Obligations.LinesFollow := by
  refine ⟨fun dt tag a b c d level s hready => ?_, fun s i => ⟨lineLevel_manual, ?_⟩⟩
  · have hsettled := hready.1
    have hnumber := lineNumber_read a b c d (levelByte level)
    have hexec : exec (.lineSet dt tag [a, b, c, d, levelByte level]) s =
        .next (ownLineSet tag [a, b, c, d, levelByte level] (joined .lineSet dt tag s)) :=
      congrArg Host.Outcome.next (takeOrder_ready hready rfl)
    refine ⟨fun hpast => ?_, fun hn => ⟨fun howned => ?_, fun hmanual => ?_⟩⟩
    · exact hexec.trans (congrArg _ (ownLineSet_past dt tag hsettled (by rw [hnumber]; exact hpast)))
    · exact hexec.trans (congrArg _
        (ownLineSet_owned dt tag hsettled hnumber (levelByte_le level) howned))
    · refine ⟨_, hexec.trans (congrArg _ (ownLineSet_manual dt tag hsettled hnumber rfl hmanual)), ?_, rfl⟩
      exact (lineLevel_manual (by exact hmanual)).trans (Vector.getElem_set_self _)
  · exact ⟨fun h => (lineLevel_asserted h (by decide)).trans decide_eq_true_iff,
      fun h => (lineLevel_asserted h (by decide)).trans (dumpFunction_iff s),
      fun h => (lineLevel_asserted h (by decide)).trans (tripLampFunction_iff s),
      fun h => (lineLevel_asserted h (by decide)).trans (testActiveFunction_iff s)⟩

end Sys2Proof.Machine
end

section
/-!
SUPPORT. A trip and its history record (R142, R143, R148), and the load-loss timer (O24).
-/

namespace Sys2Proof.Machine

variable {s : State} {c : TripClass}

theorem tripNumber_val_ne {c d : TripClass} (h : c ≠ d) : (tripNumber c).val ≠ (tripNumber d).val := by
  cases c <;> cases d <;> simp_all [tripNumber]

/-- Every trip is counted in the history of its class (R148). -/
theorem spend_history (c : TripClass) (s : State) : (spend c s).pru.history =
    s.pru.history.set (tripNumber c) (countTrip (tripValues s) s.pru.history[tripNumber c]) := by
  unfold spend trip
  split
  · rfl
  · simp [updateHistory, tripValues, setCondition, runClock]

/-- A class that was not latched trips (R102, R142, R148). -/
theorem spend_tripped (h : latched s c = false) : Tripped c s (spend c s) where
  latch := by
    unfold spend trip
    rw [if_neg (by simpa [latched] using h)]
    simp
  hold := by rw [spend_xhu, if_neg (by simp [h])]; rfl
  count := by simp [spend_history, countTrip]
  last := by simp [spend_history, countTrip, tripValues, runClock]
  others d hd := by simp [spend_history, tripNumber_val_ne hd.symm]
  sequencer := spend_state h
  record harmed :=
    (congrArg Dials.specimen (trip_dials (setCondition c .spent s) h)).trans (if_pos harmed)
  same := by simp

/-- A class in the latch only counts its trip (R143). -/
theorem spend_counts (h : latched s c = true) : spend c s = s.setPru { s.pru with
    conditions := s.pru.conditions.set (tripNumber c) .spent
    history := s.pru.history.set (tripNumber c)
      (countTrip (tripValues s) s.pru.history[tripNumber c]) } := by
  have hlatched : latched (setCondition c .spent s) c = true := h
  unfold spend trip
  rw [if_pos hlatched]
  rfl

/-- Settles O24: the timer stops and the class is spent, in the latch or not. -/
theorem loadLossTrips : Obligations.LoadLossTrips := by
  intro deadline s hat
  let u := (reach deadline s).setPru { s.pru with loadLossAt := none }
  have hexec : exec .loadLossTimerExpiry s = .next (spend .loadLost u) := by
    simp only [exec, execLoadLossTimerExpiry, hat]
    rfl
  refine ⟨_, hexec, fun hopen => ?_, fun hlatched => ?_⟩
  · have h : Tripped .loadLost u (spend .loadLost u) := spend_tripped hopen
    exact { h with }
  · exact spend_counts (s := u) hlatched

end Sys2Proof.Machine
end

section
/-!
SUPPORT. What the acts of an event leave of the Protection Unit (R134, R139, R142): a condition is moved by
the judgements of its own class only, a class once latched stays latched, and LOAD-LOST stays while LOAD is
down and needed.
-/

namespace Sys2Proof.Machine

/-! ## What an act judges -/

/-- LOAD-LOST's condition and its timer. -/
def lossParts (s : State) : Condition × Option Nat := (condition s .loadLost, s.pru.loadLossAt)

/-- An act that judges the classes of `J` only. Any act may end what needs LOAD, on which LOAD-LOST
returns to CLEAR; no act makes LOAD needed. -/
structure Watched (J : List TripClass) (s t : State) : Prop where
  stage : SameStage s t
  protset : t.pru.protset = s.pru.protset
  conditions : ∀ c : TripClass, c ≠ .loadLost → c ∉ J → condition t c = condition s c
  latched : ∀ c : TripClass, latched s c = true → latched t c = true
  needs : NeedsLoad t → NeedsLoad s
  loss : .loadLost ∉ J → channelUp s .load = false → NeedsLoad t → lossParts t = lossParts s

theorem SameStage.of_backbone {s t : State} (h : backbone t = backbone s) : SameStage s t where
  now := (congrArg State.now h :)
  lif := (congrArg State.lif h :)
  route := (congrArg (fun u => u.rtb.route) h :)
  timer := (congrArg (fun u => u.xhu.demandAt) h :)
  stream := ⟨(congrArg (fun u => u.cpt.streamOn) h :), (congrArg (fun u => u.cpt.decimation) h :)⟩

theorem needsLoad_congr {s t : State} (hstate : t.tsq.state = s.tsq.state)
    (hmode : t.xhu.mode = s.xhu.mode) : NeedsLoad t ↔ NeedsLoad s := by
  simp only [NeedsLoad, hstate, jogActive_congr hmode]

variable {J : List TripClass} {s t u : State}

theorem Watched.trans (h : Watched J s t) (h' : Watched J t u) : Watched J s u where
  stage := h.stage.trans h'.stage
  protset := h'.protset.trans h.protset
  conditions c hl hc := (h'.conditions c hl hc).trans (h.conditions c hl hc)
  latched c hc := h'.latched c (h.latched c hc)
  needs hn := h.needs (h'.needs hn)
  loss hl hdown hn := (h'.loss hl ((h.stage.channelUp _).trans hdown) hn).trans
    (h.loss hl hdown (h'.needs hn))

/-- One act after another, the later one given first. -/
theorem Watched.after (h' : Watched J t u) (h : Watched J s t) : Watched J s u := h.trans h'

/-- An act that leaves the Protection Unit alone and makes LOAD needed by nothing. -/
theorem Watched.of_pru (hstage : SameStage s t) (hpru : t.pru = s.pru)
    (hneeds : NeedsLoad t → NeedsLoad s) : Watched J s t where
  stage := hstage
  protset := by rw [hpru]
  conditions c _ _ := condition_congr hpru c
  latched c hc := by simpa only [Machine.latched, hpru] using hc
  needs := hneeds
  loss _ _ _ := by simp only [lossParts, condition, hpru]

/-- An act that leaves the sequencer, the Protection Unit and the crosshead's mode alone. -/
theorem Watched.of_console (hbackbone : backbone t = backbone s) (h : console t = console s) :
    Watched J s t :=
  .of_pru (.of_backbone hbackbone) (congrArg (fun c => c.2.1) h)
    (needsLoad_congr (congrArg (fun c => c.1.state) h) (congrArg (fun c => c.2.2.mode) h)).1

/-- An act after which nothing needs LOAD. -/
theorem Watched.of_unneeded (hstage : SameStage s t) (hprotset : t.pru.protset = s.pru.protset)
    (hconditions : ∀ c : TripClass, c ≠ .loadLost → c ∉ J → condition t c = condition s c)
    (hlatched : ∀ c : TripClass, Machine.latched s c = true → Machine.latched t c = true)
    (hneeds : ¬ NeedsLoad t) : Watched J s t :=
  ⟨hstage, hprotset, hconditions, hlatched, fun hn => absurd hn hneeds, fun _ _ hn => absurd hn hneeds⟩

/-- HOLD out of ARMED, RUNNING and HELD needs no LOAD. -/
theorem not_needsLoad (hstate : s.tsq.state ≠ .armed ∧ s.tsq.state ≠ .running ∧ s.tsq.state ≠ .held)
    (hmode : s.xhu.mode = .hold) : ¬ NeedsLoad s := by
  simp [NeedsLoad, hstate, jogActive, jogVelocity, hmode]

variable (s)

theorem Watched.refl : Watched J s s := .of_console rfl rfl

theorem inOpenOrder_watched (acts : List (State → State)) (h : ∀ act ∈ acts, ∀ t, Watched J t (act t)) :
    Watched J s (inOpenOrder acts s) :=
  inOpenOrder_keeps (P := Watched J s) acts s (fun _ _ ht => ht.trans (.of_console rfl rfl))
    (fun act ha t ht => ht.trans (h act ha t)) (.refl s)

/-! ## HOLD, trips and the end of a test -/

theorem settleLoadLost_watched : Watched J s (settleLoadLost s) where
  stage := (settleLoadLost_moves (b := false) s).stage
  protset := by simp
  conditions c hl _ := settleLoadLost_condition s hl
  latched c hc := by simpa [latched] using hc
  needs := (needsLoad_congr (by simp) (by simp)).1
  loss _ hdown hn := by
    have hneeds : NeedsLoad s := (needsLoad_congr (by simp) (by simp)).1 hn
    rw [settleLoadLost, if_pos ((loadLostHolds_iff s).2 ⟨hdown, hneeds⟩)]

theorem enterHold_watched : Watched J s (enterHold s) := by
  refine .after (settleLoadLost_watched _) (.of_pru (.of_backbone rfl) rfl fun hn => ?_)
  simpa [NeedsLoad, jogActive, jogVelocity, or_assoc] using Or.imp_right (Or.imp_right Or.inl) hn

theorem requestMode_watched {m : XhuMode} (hrun : s.tsq.state = .running) :
    Watched J s (requestMode m s) := by
  have hdriven : ∀ x : Xhu, x.demandAt = s.xhu.demandAt →
      Watched J s (if latchEmpty s then s.setXhu x else s) := by
    intro x hx
    split
    · exact .of_pru ⟨rfl, rfl, rfl, hx, rfl, rfl⟩ rfl fun _ => .inr (.inl hrun)
    · exact .refl s
  cases m with
  | hold => exact enterHold_watched s
  | jog v d => exact .refl s
  | positionRate | strainRate | stressRate => exact hdriven _ rfl

theorem beginPhase_watched (k : Nat) (hrun : s.tsq.state = .running) :
    Watched J s (beginPhase k s) := by
  unfold beginPhase requestPhaseMode
  have hbegun : ∀ x : Tsq, x.state = .running → Watched J s (s.setTsq x) := fun x hx =>
    .of_pru ⟨rfl, rfl, rfl, rfl, rfl, rfl⟩ rfl fun _ => .inr (.inl hrun)
  split
  · exact .after (requestMode_watched _ (by exact hrun)) (hbegun _ hrun)
  · exact hbegun _ hrun

/-- A trip leaves the conditions of the other classes, and ends what needs LOAD (R102, R139, R142). -/
theorem spend_watched {c : TripClass} (hc : c ∈ J) : Watched J s (spend c s) := by
  have hstage : SameStage s (spend c s) := .of_backbone (spend_backbone s c)
  have hconditions : ∀ d : TripClass, d ≠ .loadLost → d ∉ J →
      condition (spend c s) d = condition s d := fun d hl hd =>
    spend_condition s hl fun h => hd (h ▸ hc)
  have hlatched : ∀ d : TripClass, latched s d = true → latched (spend c s) d = true := by
    intro d hd
    by_cases h : d = c
    · rw [h]
      exact spend_latched s
    · rw [spend_others h, hd]
  cases hopen : latched s c with
  | false =>
    refine .of_unneeded hstage (by simp) hconditions hlatched (not_needsLoad ?_ (spend_hold hopen))
    rw [spend_state hopen]
    cases s.tsq.state <;> simp [trippedState]
  | true =>
    obtain ⟨htsq, hxhu⟩ := spend_again s hopen
    refine ⟨hstage, by simp, hconditions, hlatched, (needsLoad_congr (by rw [htsq]) (by rw [hxhu])).1,
      fun hl _ _ => ?_⟩
    have hne : c ≠ .loadLost := fun h => hl (h ▸ hc)
    have hlatchedSet : latched (setCondition c .spent s) c = true := hopen
    unfold spend trip
    rw [if_pos hlatchedSet]
    simp [lossParts, condition, updateHistory, setCondition, tripNumber_val_ne hne]

theorem endTest_watched {new : SeqState} (cause : EndCause) (h : new = .ended ∨ new = .aborted) :
    Watched J s (endTest new cause s) := by
  refine .of_unneeded (.of_backbone (endTest_backbone s new cause)) (by simp)
    (fun c hl _ => endTest_condition hl _ _ s) (fun c hc => by simpa [latched] using hc)
    (not_needsLoad ?_ (congrArg Dials.mode (endTest_dials s new cause)))
  rw [endTest_state]
  obtain rfl | rfl := h <;> decide

/-! ## Phases, strain and removals -/

theorem phaseClosed_backbone (k : Nat) (p : Phase) : backbone (phaseClosed k p s) = backbone s := by
  have hstopped : backbone (s.setTsq { s.tsq with phaseTimer := none }) = backbone s := rfl
  unfold phaseClosed
  dsimp only
  split
  · simp [requestRemoval_backbone, hstopped]
  · simp [hstopped]

theorem endPhase_watched (k : Nat) (p : Phase) (hrun : s.tsq.state = .running) :
    Watched J s (endPhase k p s) := by
  have hconsole := phaseClosed_console k p s
  have hclosed : Watched J s (phaseClosed k p s) :=
    .of_pru (.of_backbone (phaseClosed_backbone s k p)) (congrArg (fun c => c.2.1) hconsole)
      fun _ => .inr (.inl hrun)
  rw [endPhase_eq]
  split
  · exact hclosed.trans (beginPhase_watched _ _ ((congrArg (fun c => c.1.state) hconsole).trans hrun))
  · exact hclosed.trans (endTest_watched _ _ (.inl rfl))

theorem judgeEnd_watched (met : EndKind → Int → Bool) : Watched J s (judgeEnd met s) := by
  obtain h | ⟨k, p, hrun, -, h⟩ := judgeEnd_cases s met <;> rw [h]
  · exact .refl s
  · exact endPhase_watched s k p hrun

theorem closeAtLimit_watched (x : EvalSample) : Watched J s (closeAtLimit x s) :=
  .of_console (by simp) (by simp [console])

theorem evuStrain_watched (st : Strain) : Watched J s (evuStrain st s) := by
  unfold evuStrain
  split
  · exact (judgeEnd_watched _ _).after (closeAtLimit_watched s _)
  · exact .refl s

theorem offerStrain_watched (st : Strain) : Watched J s (offerStrain st s) := by
  refine inOpenOrder_watched s _ fun act ha t => ?_
  simp only [List.mem_cons, List.not_mem_nil, or_false] at ha
  obtain rfl | rfl := ha
  · exact judgeEnd_watched t _
  · exact evuStrain_watched t st

theorem publishCrosshead_watched : Watched J s (publishCrosshead s) :=
  .after (offerStrain_watched _ _) (.of_console (by simp) (by simp [console]))

theorem armsOpened_watched : Watched J s (armsOpened s) :=
  .of_console ((spliceToCrosshead_backbone _).trans rfl) (by simp [armsOpened, console])

theorem removeArms_watched {react : Strain → State → State} (hr : ∀ st t, Watched J t (react st t))
    (cause : RemovalCause) : Watched J s (removeArms react cause s) := by
  cases h : inTest s with
  | true =>
    rw [removeArms_inTest h]
    refine .after (inOpenOrder_watched _ _ fun act ha t => ?_) (armsOpened_watched s)
    simp only [List.mem_cons, List.not_mem_nil, or_false] at ha
    obtain rfl | rfl := ha
    · exact hr _ t
    · exact .of_console (by simp [removalNoted]) (by simp [console, removalNoted])
  | false =>
    rw [removeArms_outside h]
    exact .of_console ((raiseExt_backbone _ _).trans rfl) (by simp [console])

theorem requestRemoval_watched {react : Strain → State → State}
    (hr : ∀ st t, Watched J t (react st t)) (cause : RemovalCause) :
    Watched J s (requestRemoval react cause s) := by
  have hopened : ∀ d x, Watched J s (raiseExt d (s.setExh x)) := fun d x =>
    .of_pru (.trans (t := s.setExh x) ⟨rfl, rfl, rfl, rfl, rfl, rfl⟩
      (raiseExt_moves (b := false) _ d).stage) (by simp) (needsLoad_congr (by simp) (by simp)).1
  unfold requestRemoval
  split
  · exact hopened _ _
  · exact hopened _ _
  · exact removeArms_watched s hr cause
  · split
    · exact hopened _ _
    · exact .refl s
  · exact .refl s

end Sys2Proof.Machine
end

section
/-!
SUPPORT. The evaluations of a force update and the loss of a channel: which conditions they judge (R25, R108,
R134 to R141).
-/

namespace Sys2Proof.Machine

variable {J : List TripClass} (s : State)

/-! ## The evaluations of a force update (R108 to R122) -/

theorem judgePlateau_console (r : Specimen) (strain : Int) (x : EvalSample) :
    console (judgePlateau r strain x s) = console s := by
  unfold judgePlateau
  split
  · rfl
  · dsimp only
    split <;> simp [console]

theorem searchYield_console (r : Specimen) (strain : Int) (x : EvalSample) :
    console (searchYield r strain x s) = console s := by
  unfold searchYield
  split
  · rfl
  · split
    · simp [console]
    · dsimp only
      split
      · exact (judgePlateau_console _ r strain x).trans (by simp [console, foundUpperYield])
      · rfl
  · split
    · simp [console]
    · exact judgePlateau_console s r strain x

theorem judgeChord_console (x : EvalSample) (r : Specimen) (strain : Int) :
    console (judgeChord x r strain s) = console s := by
  unfold judgeChord
  split
  · split <;> simp [console]
  · split
    · rfl
    · split <;> simp [console]
  · rfl

theorem judgeProof_console (x : EvalSample) (r : Specimen) (strain : Int) :
    console (judgeProof x r strain s) = console s := by
  unfold judgeProof
  split
  · split <;> simp [console]
  · rfl

theorem whileRunning_watched {f : Specimen → Int → State → State}
    (hc : ∀ r v t, console (f r v t) = console t)
    (hb : ∀ r v t, backbone (f r v t) = backbone t) (x : EvalSample) :
    Watched J s (whileRunning f x s) := by
  unfold whileRunning
  split
  · split
    · exact .of_console (hb _ _ s) (hc _ _ s)
    · exact .refl s
  · exact .refl s

theorem takeBreak_watched (x : EvalSample) : Watched J s (takeBreak x s) := by
  unfold takeBreak
  extract_lets _ s1 _ _ s2 s3
  have hfound : Watched J s s1 := .of_console ((recordMilestone_backbone _ _).trans rfl) (by simp [console, s1])
  have hresult : Watched J s1 s2 := .of_console rfl rfl
  have hremoved : Watched J s2 s3 :=
    (enterHold_watched s2).trans (requestRemoval_watched _ (fun st t => offerStrain_watched t st) _)
  refine (hfound.trans (hresult.trans hremoved)).trans ?_
  split
  · exact endTest_watched s3 _ (.inl rfl)
  · exact endTest_watched s3 _ (.inl rfl)
  · exact .refl s3

theorem evaluateRest_watched (x : EvalSample) : Watched J s (evaluateRest x s) := by
  have hchord : Watched J s (whileRunning (judgeChord x) x s) :=
    whileRunning_watched s (fun r v t => judgeChord_console t x r v)
      (fun r v t => judgeChord_backbone t x r v) x
  have hjudged : Watched J s (moduliJudged x s) := by
    unfold moduliJudged
    dsimp only
    split
    · exact hchord.trans (whileRunning_watched _ (fun r v t => judgeProof_console t x r v)
        (fun r v t => judgeProof_backbone t x r v) x)
    · exact hchord
  rw [evaluateRest_eq]
  refine hjudged.trans ?_
  unfold detectBreak
  split
  · exact .refl _
  · split
    · exact takeBreak_watched _ x
    · exact .refl _

theorem evuForce_watched : Watched J s (evuForce s) := by
  unfold evuForce
  split
  · extract_lets x s1 s2
    have htaken : Watched J s s1 := .of_console rfl rfl
    have hsearched : Watched J s1 s2 := whileRunning_watched s1
      (fun r v t => searchYield_console t r v x) (fun r v t => searchYield_backbone t r v x) x
    refine (htaken.trans hsearched).trans ?_
    split
    · refine inOpenOrder_watched s2 _ fun act ha t => ?_
      simp only [List.mem_cons, List.not_mem_nil, or_false] at ha
      obtain rfl | rfl := ha
      · exact judgeEnd_watched t _
      · exact evaluateRest_watched t x
    · exact evaluateRest_watched s2 x
  · exact .refl s

/-! ## The blocks that take a force update beside the Protection Unit (R25) -/

theorem exhForce_watched : Watched J s (exhForce s) := by
  unfold exhForce
  split
  · exact removeArms_watched s (fun st t => offerStrain_watched t st) _
  · exact .refl s

/-- The stream and the Load Channel's own work move no part that a condition stands in. -/
theorem Watched.of_unloaded {t : State} (hstage : SameStage s t) (h : unloaded t = unloaded s) :
    Watched J s t :=
  .of_pru hstage (congrArg State.pru h :)
    (needsLoad_congr (congrArg (fun u => u.tsq.state) h :) (congrArg (fun u => u.xhu.mode) h :)).1

theorem forceActs_watched {before : Bool} {g : Fin 4} {act : State → State}
    (h : act ∈ [evuForce, sequencerForce, exhForce, streamForce, loadWork before g]) :
    Watched J s (act s) := by
  simp only [List.mem_cons, List.not_mem_nil, or_false] at h
  obtain rfl | rfl | rfl | rfl | rfl := h
  · exact evuForce_watched s
  · exact judgeEnd_watched s _
  · exact exhForce_watched s
  · exact .of_unloaded s (streamForce_stage s) (unloaded_streamForce s)
  · exact .of_unloaded s (loadWork_moves (b := false) s before g).stage (unloaded_loadWork before g s)

theorem exhPosition_watched : Watched J s (exhPosition s) := by
  unfold exhPosition
  split
  · exact publishCrosshead_watched s
  · exact .refl s

/-! ## The Protection Unit's judgements -/

section judgements

variable {c : TripClass}

theorem setCondition_watched (hc : c ∈ J) (x : Condition) : Watched J s (setCondition c x s) where
  stage := .of_backbone (setCondition_backbone s c x)
  protset := rfl
  conditions d _ hd := by
    have hne : c ≠ d := fun h => hd (h ▸ hc)
    simp [condition, setCondition, tripNumber_val_ne hne]
  latched _ h := h
  needs := id
  loss hl _ _ := by
    have hne : c ≠ .loadLost := fun h => hl (h ▸ hc)
    simp [lossParts, condition, setCondition, tripNumber_val_ne hne]

theorem judgeDelayed_watched (hc : c ∈ J) (h : Bool) (d : Nat) : Watched J s (judgeDelayed c h d s) := by
  unfold judgeDelayed
  split
  · split
    · split
      · exact spend_watched s hc
      · exact setCondition_watched s hc _
    · split
      · exact spend_watched s hc
      · exact .refl s
    · exact .refl s
  · exact setCondition_watched s hc _

theorem judgeAtOnce_watched (hc : c ∈ J) (h : Bool) : Watched J s (judgeAtOnce c h s) := by
  unfold judgeAtOnce
  split
  · split
    · exact .refl s
    · exact spend_watched s hc
  · exact setCondition_watched s hc _

theorem judgeTension2_watched (hc : .tension2 ∈ J) (h : Bool) (n : Nat) :
    Watched J s (judgeTension2 h n s) := by
  unfold judgeTension2
  split
  · split
    · split
      · exact spend_watched s hc
      · exact setCondition_watched s hc _
    · split
      · exact spend_watched s hc
      · exact setCondition_watched s hc _
    · exact .refl s
  · exact setCondition_watched s hc _

theorem protectPosition_watched (hc : .travel ∈ J) : Watched J s (protectPosition s) := by
  unfold protectPosition
  split
  · exact .refl s
  · exact judgeAtOnce_watched s hc _

end judgements

end Sys2Proof.Machine
end

section
/-!
SUPPORT. The conditions that a sample and a demand expiry judge, each by its rule, whatever the order of the
blocks (R134 to R138, R140).
-/

namespace Sys2Proof.Machine

variable {c : TripClass} {x : Condition} {J : List TripClass} {s t u : State}

/-! ## A class judged (R134) -/

/-- A class has been judged: its condition, and, where it has become SPENT, the class in the latch. -/
structure Ruled (c : TripClass) (x : Condition) (s t : State) : Prop where
  verdict : condition t c = x
  latched : x = .spent → condition s c ≠ .spent → latched t c = true

theorem Ruled.since (h : Ruled c x t u) (e : condition t c = condition s c) : Ruled c x s u :=
  ⟨h.verdict, fun hx hs => h.latched hx (by rwa [e])⟩

/-- The verdict stands through acts that do not judge the class. -/
theorem Ruled.kept (h : Ruled c x s t) (hl : c ≠ .loadLost) (hc : c ∉ J) (w : Watched J t u) :
    Ruled c x s u :=
  ⟨(w.conditions c hl hc).trans h.verdict, fun hx hs => w.latched c (h.latched hx hs)⟩

theorem Ruled.latches (h : Ruled c x s t) (hspent : condition t c = .spent)
    (hs : condition s c ≠ .spent) : Machine.latched t c = true :=
  h.latched (h.verdict.symm.trans hspent) hs

theorem trip_condition {d : TripClass} (hd : d ≠ .loadLost) (s : State) :
    condition (trip c s) d = condition s d := by
  have hraise : ∀ v, condition (raise .trip (.tripped c) v) d = condition v d := by
    intro v
    simp [condition]
  unfold trip
  split
  · rfl
  · refine (sequencerTrip_condition _ hd).trans ((hraise _).trans ?_)
    exact settleLoadLost_condition _ hd

theorem setCondition_condition (c : TripClass) (x : Condition) (s : State) :
    condition (setCondition c x s) c = x := by
  simp [condition, setCondition]

theorem spend_ruled (hl : c ≠ .loadLost) (s : State) : Ruled c .spent s (spend c s) :=
  ⟨(trip_condition hl _).trans (setCondition_condition c _ s), fun _ _ => spend_latched s⟩

theorem setCondition_ruled (x : Condition) (s : State) (hx : x ≠ .spent) : Ruled c x s (setCondition c x s) :=
  ⟨setCondition_condition c x s, fun h => absurd h hx⟩

/-- A class SPENT already stays so until its condition is false. -/
theorem Ruled.spent (h : condition s c = .spent) : Ruled c .spent s s :=
  ⟨h, fun _ hs => absurd h hs⟩

theorem judgeDelayed_ruled (hl : c ≠ .loadLost) (holds : Bool) (delay : Nat) (s : State) :
    Ruled c (delayed holds delay s.now (condition s c)) s (judgeDelayed c holds delay s) := by
  unfold judgeDelayed delayed
  cases holds with
  | false => exact setCondition_ruled .clear s nofun
  | true =>
    simp only [if_true]
    cases hx : condition s c with
    | clear =>
      dsimp only
      split
      · exact spend_ruled hl s
      · exact setCondition_ruled (.timing _) s nofun
    | timing start =>
      dsimp only
      split
      · exact spend_ruled hl s
      · exact ⟨hx, nofun⟩
    | spent => exact .spent hx

theorem judgeTension2_ruled (holds : Bool) (n : Nat) (s : State) :
    Ruled .tension2 (counted holds n (condition s .tension2)) s (judgeTension2 holds n s) := by
  have hl : TripClass.tension2 ≠ .loadLost := by decide
  unfold judgeTension2 counted
  cases holds with
  | false => exact setCondition_ruled .clear s nofun
  | true =>
    simp only [if_true]
    cases hx : condition s .tension2 with
    | clear =>
      dsimp only
      split
      · exact spend_ruled hl s
      · exact setCondition_ruled (.timing _) s nofun
    | timing k =>
      dsimp only
      split
      · exact spend_ruled hl s
      · exact setCondition_ruled (.timing _) s nofun
    | spent => exact .spent hx

theorem judgeAtOnce_ruled (hl : c ≠ .loadLost) (holds : Bool) (s : State) :
    Ruled c (if holds then .spent else .clear) s (judgeAtOnce c holds s) := by
  unfold judgeAtOnce
  cases holds with
  | false => exact setCondition_ruled .clear s nofun
  | true =>
    simp only [if_true]
    split
    · exact .spent ‹_›
    · exact spend_ruled hl s

/-- One act of an open order judges the class, from what `view` shows; the others leave that and the class
alone. -/
theorem inOpenOrder_ruled {α : Type} (view : State → α) {l₁ l₂ : List (State → State)}
    {a : State → State} (hl : c ≠ .loadLost) (hc : c ∉ J)
    (hchoices : ∀ t n, view { t with choices := n } = view t)
    (hothers : ∀ act ∈ l₁ ++ l₂, ∀ t, Watched J t (act t) ∧ view (act t) = view t)
    (hjudge : ∀ t, view t = view s → condition t c = condition s c → Ruled c x t (a t)) :
    Ruled c x s (inOpenOrder (l₁ ++ a :: l₂) s) := by
  refine inOpenOrder_through (P := fun t => view t = view s ∧ condition t c = condition s c)
    (Q := Ruled c x s) (fun t n ht => ⟨(hchoices t n).trans ht.1, ht.2⟩) (fun act ha t ht => ?_)
    (fun t ht => (hjudge t ht.1 ht.2).since ht.2)
    (fun act ha t ht => ht.kept hl hc (hothers act ha t).1) ⟨rfl, rfl⟩
  obtain ⟨w, hview⟩ := hothers act ha t
  exact ⟨hview.trans ht.1, (w.conditions c hl hc).trans ht.2⟩

/-! ## The force conditions (R135, R136) -/

/-- The classes judged on a force update. -/
abbrev forceClasses : List TripClass := [.tension1, .tension2, .compression]

/-- The condition state of a force class after a judgement of the force held, from the state before it. -/
def forceVerdict (p : ProtSet) (s : State) (x : Condition) : TripClass → Condition
  | .tension1 => delayed (tension1Holds p s) (millis p.delay1Ms) s.now x
  | .tension2 => counted (tension2Holds p s) p.count2.toNat x
  | .compression => delayed (compressionHolds p s) (millis p.delayCMs) s.now x
  | _ => x

/-- The judgements read the force and the calibration tables, which no block moves on a force update. -/
theorem forceVerdict_congr {p : ProtSet} (h : offered t = offered s) (x : Condition) (c : TripClass) :
    forceVerdict p t x c = forceVerdict p s x c := by
  have hview : ∀ u, forceVerdict p u x c = forceVerdict p (offered u) x c := fun u => by
    cases c <;> rfl
  rw [hview, h, ← hview]

theorem protectForce_ruled {p : ProtSet} (hp : s.pru.protset = some p) (hc : c ∈ forceClasses) :
    Ruled c (forceVerdict p s (condition s c) c) s (protectForce s) := by
  have hverdict : ∀ t, offered t = offered s → condition t c = condition s c →
      forceVerdict p t (condition t c) c = forceVerdict p s (condition s c) c := fun t h e => by
    rw [e, forceVerdict_congr h]
  have hdelayed : ∀ {J : List TripClass} {d : TripClass} (hd : d ∈ J) (h : State → Bool)
      (n : Nat) (t : State), Watched J t (judgeDelayed d (h t) n t) ∧
        offered (judgeDelayed d (h t) n t) = offered t :=
    fun hd h n t => ⟨judgeDelayed_watched t hd _ n, offered_of_backbone (judgeDelayed_backbone t _ _ n)⟩
  have hcounted : ∀ {J : List TripClass} (hd : .tension2 ∈ J) (h : State → Bool) (n : Nat) (t : State),
      Watched J t (judgeTension2 (h t) n t) ∧ offered (judgeTension2 (h t) n t) = offered t :=
    fun hd h n t => ⟨judgeTension2_watched t hd _ n, offered_of_backbone (judgeTension2_backbone t _ n)⟩
  have hprotect : protectForce s = inOpenOrder
      [ fun t => judgeDelayed .tension1 (tension1Holds p t) (millis p.delay1Ms) t,
        fun t => judgeTension2 (tension2Holds p t) p.count2.toNat t,
        fun t => judgeDelayed .compression (compressionHolds p t) (millis p.delayCMs) t ] s := by
    unfold protectForce
    rw [hp]
  rw [hprotect]
  simp only [List.mem_cons, List.not_mem_nil, or_false] at hc
  obtain rfl | rfl | rfl := hc
  · refine inOpenOrder_ruled offered (J := [.tension2, .compression]) (l₁ := []) (by decide) (by decide)
      (fun _ _ => rfl) (fun act ha t => ?_)
      fun t h e => hverdict t h e ▸ judgeDelayed_ruled (by decide) _ _ t
    simp only [List.nil_append, List.mem_cons, List.not_mem_nil, or_false] at ha
    obtain rfl | rfl := ha
    · exact hcounted (by decide) _ _ t
    · exact hdelayed (by decide) _ _ t
  · refine inOpenOrder_ruled offered (J := [.tension1, .compression]) (l₁ := [_]) (by decide) (by decide)
      (fun _ _ => rfl) (fun act ha t => ?_)
      fun t h e => hverdict t h e ▸ judgeTension2_ruled _ _ t
    simp only [List.cons_append, List.nil_append, List.mem_cons, List.not_mem_nil, or_false] at ha
    obtain rfl | rfl := ha
    · exact hdelayed (by decide) _ _ t
    · exact hdelayed (by decide) _ _ t
  · refine inOpenOrder_ruled offered (J := [.tension1, .tension2]) (l₁ := [_, _]) (l₂ := []) (by decide)
      (by decide) (fun _ _ => rfl) (fun act ha t => ?_)
      fun t h e => hverdict t h e ▸ judgeDelayed_ruled (by decide) _ _ t
    simp only [List.append_nil, List.mem_cons, List.not_mem_nil, or_false] at ha
    obtain rfl | rfl := ha
    · exact hdelayed (by decide) _ _ t
    · exact hcounted (by decide) _ _ t

theorem converted_pru (f : SampleFrame) (s : State) : (converted f s).pru = s.pru := by
  unfold converted convertSample receiveRange
  dsimp only
  split
  · rfl
  · split <;> simp

/-- A LOAD sample judges the force classes on the force it forms (R25, R135, R136). -/
theorem loadSample_ruled {p : ProtSet} (f : SampleFrame) (hp : s.pru.protset = some p)
    (hc : c ∈ forceClasses) :
    Ruled c (forceVerdict p (loadSample f s) (condition s c) c) s (loadSample f s) := by
  have hl : c ≠ .loadLost := by
    rintro rfl
    exact absurd hc (by decide)
  have hpru := converted_pru f s
  have hfinal : offered (loadSample f s) = offered (converted f s) :=
    (loadSample_offered f s).1.trans (offered_of_backbone (converted_backbone f s)).symm
  rw [forceVerdict_congr hfinal, ← condition_congr hpru c]
  refine Ruled.since ?_ (condition_congr hpru c)
  refine inOpenOrder_ruled offered (J := []) (l₁ := []) hl (by simp) (fun _ _ => rfl)
    (fun act ha t => ⟨forceActs_watched t ha, (forceActs_stress (List.mem_cons_of_mem _ ha) t).1⟩)
    fun t h e => ?_
  have hprotset : t.pru.protset = some p := by
    have hview : t.pru.protset = (converted f s).pru.protset := (congrArg (fun u => u.pru.protset) h :)
    rw [hview, hpru, hp]
  rw [← forceVerdict_congr h, ← e]
  exact protectForce_ruled hprotset hc

/-! ## TRAVEL and POSITION-LOST on an XHEAD sample (R138, R140) -/

/-- The condition state of TRAVEL at the position held: SPENT beyond a hard limit. -/
def travelVerdict (x : XSet) (s : State) : Condition :=
  if s.xhu.pos < x.softLower - x.hardMargin ∨ x.softUpper + x.hardMargin < s.xhu.pos then .spent
  else .clear

theorem travelVerdict_congr {x : XSet} (h : backbone t = backbone s) :
    travelVerdict x t = travelVerdict x s := by
  have hpos : t.xhu.pos = s.xhu.pos := (congrArg (fun u => u.xhu.pos) h :)
  simp only [travelVerdict, hpos]

theorem protectPosition_ruled {x : XSet} (hx : s.xhu.xset = some x) :
    Ruled .travel (travelVerdict x s) s (protectPosition s) := by
  have h := judgeAtOnce_ruled (c := .travel) (by decide)
    (s.xhu.pos < x.softLower - x.hardMargin || x.softUpper + x.hardMargin < s.xhu.pos) s
  unfold protectPosition
  rw [hx]
  simpa [travelVerdict] using h

theorem positioned_conditions (x : XSet) (count : Int) (s : State) (c : TripClass) :
    condition (positioned x count s) c =
      if s.xhu.good = false ∧ c = .positionLost then .clear else condition s c := by
  have hregained : ∀ u, condition (regainPosition u) c =
      condition (setCondition .positionLost .clear u) c := by
    intro u
    refine condition_congr ?_ c
    unfold regainPosition
    dsimp only
    split <;> simp
  unfold positioned
  dsimp only
  cases hgood : s.xhu.good with
  | true => simp [condition]
  | false =>
    simp only [Bool.false_eq_true, if_false, hregained, true_and]
    split
    · rename_i h
      rw [h, setCondition_condition]
    · rename_i h
      simp [condition, setCondition, tripNumber_val_ne (Ne.symm h)]

theorem positionSample_eq (f : SampleFrame) {x : XSet} (hx : s.xhu.xset = some x) :
    positionSample f s =
      inOpenOrder [protectPosition, exhPosition, sequencerPosition] (positioned x f.value s) := by
  unfold positionSample
  rw [hx]
  rfl

/-- The blocks beside the Protection Unit that take a position update judge nothing (R42). -/
theorem positionActs_watched {act : State → State} (h : act ∈ [exhPosition, sequencerPosition])
    (t : State) : Watched J t (act t) ∧ backbone (act t) = backbone t := by
  simp only [List.mem_cons, List.not_mem_nil, or_false] at h
  obtain rfl | rfl := h
  · exact ⟨exhPosition_watched t, exhPosition_backbone t⟩
  · exact ⟨judgeEnd_watched t _, sequencerPosition_backbone t⟩

theorem positionSample_travel (f : SampleFrame) {x : XSet} (hx : s.xhu.xset = some x) :
    Ruled .travel (travelVerdict x (positionSample f s)) s (positionSample f s) := by
  have hxset : (positioned x f.value s).xhu.xset = some x :=
    ((congrArg (fun u => u.xhu.xset) (positioned_undemanded x f.value s) :)).trans hx
  have hcondition : condition (positioned x f.value s) .travel = condition s .travel := by
    simp [positioned_conditions]
  rw [travelVerdict_congr (positionSample_backbone hx), positionSample_eq f hx]
  refine Ruled.since ?_ hcondition
  refine inOpenOrder_ruled backbone (J := []) (l₁ := []) (by decide) (by simp) (fun _ _ => rfl)
    (fun act ha t => positionActs_watched ha t) fun t h _ => ?_
  rw [← travelVerdict_congr h]
  exact protectPosition_ruled (((congrArg (fun u => u.xhu.xset) h :)).trans hxset)

theorem positionSample_positionLost (f : SampleFrame) {x : XSet} (hx : s.xhu.xset = some x) :
    condition (positionSample f s) .positionLost =
      if s.xhu.good then condition s .positionLost else .clear := by
  have hjudged : Watched [.travel] (positioned x f.value s) (positionSample f s) := by
    rw [positionSample_eq f hx]
    refine inOpenOrder_watched _ _ fun act ha t => ?_
    obtain rfl | ha := List.mem_cons.1 ha
    · exact protectPosition_watched t (by decide)
    · exact (positionActs_watched ha t).1
  rw [hjudged.conditions _ (by decide) (by decide), positioned_conditions]
  cases s.xhu.good <;> simp

/-! ## FOLLOWING at a demand expiry (R137) -/

theorem protectDemand_ruled {p : ProtSet} (hp : s.pru.protset = some p) (d : Int) (enable : Bool) :
    Ruled .following
      (delayed (enable && decide (p.followLimit < |d - s.xhu.pos|)) (millis p.followDelayMs) s.now
        (condition s .following)) s (protectDemand d enable s) := by
  unfold protectDemand
  rw [hp, ← Int.natCast_natAbs]
  exact judgeDelayed_ruled (by decide) _ _ s

theorem endDisabledJog_watched (s : State) : Watched J s (endDisabledJog s) := by
  unfold endDisabledJog endJog
  split
  · exact .refl s
  · split
    · exact enterHold_watched s
    · exact .refl s

theorem offeredDemand_watched (hJ : .following ∈ J) (s : State) : Watched J s (offeredDemand s) := by
  refine .after (endDisabledJog_watched _) ?_
  unfold protectDemand
  split
  · exact .refl s
  · exact judgeDelayed_watched s hJ _ _

/-- A demand expiry judges FOLLOWING on the frame it sends (R45, R137). -/
theorem offeredDemand_ruled {p : ProtSet} (hp : s.pru.protset = some p) : Ruled .following
    (delayed (s.xhu.lastEnable && decide (p.followLimit < |demandSent s - s.xhu.pos|))
      (millis p.followDelayMs) s.now (condition s .following)) s (offeredDemand s) :=
  (protectDemand_ruled hp _ _).kept (J := []) (by decide) (by simp) (endDisabledJog_watched _)

end Sys2Proof.Machine
end

section
/-!
SUPPORT. The conditions that the silence of a lane judges (R134 to R136, R138 to R141): what each loss judges,
and what the losses beside it leave.
-/

namespace Sys2Proof.Machine

variable {J : List TripClass} {p : ProtSet} {s t u : State}

/-! ## What each loss judges -/

theorem judgeLoadLost_watched (hJ : .loadLost ∈ J) (up : Bool) (s : State) :
    Watched J s (judgeLoadLost up s) := by
  have hmoved : ∀ x n, Watched J s (s.setPru { s.pru with
      conditions := s.pru.conditions.set (tripNumber .loadLost) x, loadLossAt := n }) := fun x n =>
    { setCondition_watched s hJ x with
      needs := id
      stage := ⟨rfl, rfl, rfl, rfl, rfl, rfl⟩
      loss := fun h => absurd hJ h }
  unfold judgeLoadLost
  split
  · exact .refl s
  · split
    · split
      · split
        · exact spend_watched s hJ
        · exact hmoved (.timing s.now) _
      · exact .refl s
    · exact hmoved .clear none

theorem clearForceConditions_watched (hJ : ∀ c ∈ forceClasses, c ∈ J) (s : State) :
    Watched J s (clearForceConditions s) :=
  ((setCondition_watched s (hJ .tension1 (by decide)) _).trans
    (setCondition_watched _ (hJ .tension2 (by decide)) _)).trans
      (setCondition_watched _ (hJ .compression (by decide)) _)

theorem loadStale_watched (s : State) : Watched J s (loadStale s) :=
  .of_pru (loadStale_moves (b := false) s).stage (by simp [loadStale])
    (needsLoad_congr (by simp [loadStale]) (by simp [loadStale])).1

theorem startFallback_watched (s : State) : Watched J s (startFallback s) :=
  .of_pru (startFallback_moves s).stage (by simp) (needsLoad_congr (by simp) (by simp)).1

/-- The classes the loss of a channel judges. -/
def lossClasses : Channel → List TripClass
  | .load => [.tension1, .tension2, .compression, .loadLost]
  | .xhead => [.travel, .positionLost]
  | .extA | .extB | .unused => []

theorem loseLoad_watched (hJ : ∀ c ∈ lossClasses .load, c ∈ J) (s : State) :
    Watched J s (loseLoad s) := by
  refine inOpenOrder_watched s _ fun act ha t => ?_
  simp only [List.mem_cons, List.not_mem_nil, or_false] at ha
  obtain rfl | rfl | rfl := ha
  · exact loadStale_watched t
  · exact (clearForceConditions_watched (fun c hc => hJ c (by revert c; decide)) t).trans
      (judgeLoadLost_watched (hJ _ (by decide)) false _)
  · exact startFallback_watched t

theorem losePosition_watched (hJ : ∀ c ∈ lossClasses .xhead, c ∈ J) (s : State) :
    Watched J s (losePosition s) := by
  have hstaled : Watched J s (setCondition .travel .clear (s.setXhu { s.xhu with good := false })) :=
    .after (setCondition_watched _ (hJ _ (by decide)) _) (.of_pru ⟨rfl, rfl, rfl, rfl, rfl, rfl⟩ rfl id)
  unfold losePosition
  split
  · dsimp only
    split
    · exact hstaled.trans (spend_watched _ (hJ _ (by decide)))
    · exact hstaled
  · exact .refl s

theorem armLost_watched (armB : Bool) (s : State) : Watched J s (armLost armB s) := by
  have hexh : ∀ x, Watched J s (s.setExh x) := fun x => .of_pru ⟨rfl, rfl, rfl, rfl, rfl, rfl⟩ rfl id
  have hraised : ∀ t d, Watched J t (raiseExt d t) := fun t d =>
    .of_console (raiseExt_backbone t d) (by simp [console])
  obtain h | ⟨-, ⟨-, h⟩ | ⟨-, h⟩⟩ := armLost_eq armB s <;> rw [h]
  · exact .refl s
  · exact .of_console (failAttach_backbone s _ _) (by simp [console])
  · unfold loseArm
    extract_lets x _ t u
    split
    · have hspliced : Watched J s u :=
        (hexh _).trans (.of_console (spliceToCrosshead_backbone t) (by simp [console, u, t]))
      refine hspliced.trans (inOpenOrder_watched u _ fun act ha v => ?_)
      simp only [List.mem_cons, List.not_mem_nil, or_false] at ha
      obtain rfl | rfl := ha
      · exact offerStrain_watched v _
      · exact .after (hraised _ _) (.of_console (handMilestone_backbone v _) (by simp [console]))
    · exact .after (hraised _ _) (hexh _)

theorem channelLost_watched {c : Channel} (hJ : ∀ d ∈ lossClasses c, d ∈ J) (s : State) :
    Watched J s (channelLost c s) := by
  cases c with
  | load => exact loseLoad_watched hJ s
  | xhead => exact losePosition_watched hJ s
  | extA => exact armLost_watched false s
  | extB => exact armLost_watched true s
  | unused => exact .refl s

theorem loseDriveLane_watched (hJ : .driveFault ∈ J) (s : State) : Watched J s (loseDriveLane s) := by
  have hreplaced : Watched J s (s.setXhu { s.xhu with drive := noDriveStatus }) :=
    .of_pru ⟨rfl, rfl, rfl, rfl, rfl, rfl⟩ rfl id
  unfold loseDriveLane
  dsimp only
  refine .after (setCondition_watched _ hJ _) ?_
  split
  · exact hreplaced.trans (spend_watched _ hJ)
  · exact hreplaced

/-! ## One loss among those of a lane -/

/-- Each channel of a lane is lost once, beside the drive status and other channels. -/
theorem lossesOf_split {lane : Lane} {c : Channel} (hc : c ∈ channelsOn s lane) :
    ∃ l₁ l₂, lossesOf lane s = l₁ ++ channelLost c :: l₂ ∧
      ∀ act ∈ l₁ ++ l₂, act = loseDriveLane ∨ ∃ d, d ≠ c ∧ act = channelLost d := by
  have hnodup : (channelsOn s lane).Nodup := List.Nodup.filter _ (by decide)
  obtain ⟨k₁, k₂, hk⟩ := List.append_of_mem hc
  rw [hk, List.nodup_middle, List.nodup_cons] at hnodup
  refine ⟨(if lane = 4 then [loseDriveLane] else []) ++ k₁.map channelLost, k₂.map channelLost, ?_,
    fun act ha => ?_⟩
  · simp [lossesOf, hk]
  · have hchannel : act ∈ (k₁ ++ k₂).map channelLost → ∃ d, d ≠ c ∧ act = channelLost d := by
      rintro h
      obtain ⟨d, hd, rfl⟩ := List.mem_map.1 h
      exact ⟨d, fun e => hnodup.1 (e ▸ hd), rfl⟩
    simp only [List.mem_append, List.map_append] at ha hchannel
    obtain (ha | ha) | ha := ha
    · split at ha
      · exact .inl (List.mem_singleton.1 ha)
      · cases ha
    · exact .inr (hchannel (.inl ha))
    · exact .inr (hchannel (.inr ha))

theorem goStale_kept (lane : Lane) (s : State) : (laneStaled lane s).pru = s.pru ∧
    (laneStaled lane s).tsq = s.tsq ∧ (laneStaled lane s).xhu = s.xhu ∧
    (laneStaled lane s).rtb.route = s.rtb.route := by
  simp [laneStaled, setLane]

/-! ## The drive status (R141) -/

/-- DRIVE-FAULT after the loss of the drive status. -/
structure DriveJudged (s t : State) : Prop where
  cleared : condition t .driveFault = .clear
  latched : s.xhu.lastEnable = true → Machine.latched t .driveFault = true

theorem loseDriveLane_judged (s : State) : DriveJudged s (loseDriveLane s) where
  cleared := setCondition_condition _ _ _
  latched henable := by
    have hheld : (s.setXhu { s.xhu with drive := noDriveStatus }).xhu.lastEnable = true := henable
    unfold loseDriveLane
    dsimp only
    rw [if_pos hheld]
    exact spend_latched (s.setXhu { s.xhu with drive := noDriveStatus })

theorem goStale_drive_judged (s : State) : DriveJudged (laneStaled 4 s) (goStale 4 s) := by
  have hothers : ∀ act ∈ [] ++ (channelsOn s 4).map channelLost, ∀ t,
      Watched [.tension1, .tension2, .compression, .loadLost, .travel, .positionLost] t (act t) ∧
        (act t).xhu.lastEnable = t.xhu.lastEnable := by
    intro act ha t
    obtain ⟨c, -, rfl⟩ := List.mem_map.1 ha
    exact ⟨channelLost_watched (by cases c <;> decide) t,
      (congrArg (fun x => x.2.2.1.2.2) (channelLost_calm c t) :)⟩
  rw [goStale_eq]
  refine inOpenOrder_through (P := fun t => t.xhu.lastEnable = (laneStaled 4 s).xhu.lastEnable)
    (Q := DriveJudged (laneStaled 4 s)) (l₁ := []) (a := loseDriveLane)
    (l₂ := (channelsOn s 4).map channelLost) (fun _ _ h => h)
    (fun act ha t ht => (hothers act ha t).2.trans ht) (fun t ht => ?_) (fun act ha t ht => ?_) rfl
  · obtain ⟨hcleared, hlatched⟩ := loseDriveLane_judged t
    exact ⟨hcleared, fun h => hlatched (ht.trans h)⟩
  · have w := (hothers act ha t).1
    exact ⟨(w.conditions _ (by decide) (by decide)).trans ht.cleared, fun h => w.latched _ (ht.latched h)⟩

/-! ## The position (R138, R140) -/

/-- TRAVEL and POSITION-LOST after the loss of a GOOD position. -/
structure PositionJudged (s t : State) : Prop where
  travel : condition t .travel = .clear
  enabled : s.xhu.lastEnable = true →
    condition t .positionLost = .spent ∧ latched t .positionLost = true
  disabled : s.xhu.lastEnable = false → condition t .positionLost = condition s .positionLost

/-- The position held is no longer GOOD, and TRAVEL is CLEAR. -/
def positionStaled (s : State) : State :=
  setCondition .travel .clear (s.setXhu { s.xhu with good := false })

theorem losePosition_eq (hgood : s.xhu.good = true) : losePosition s =
    if s.xhu.lastEnable = true then spend .positionLost (positionStaled s) else positionStaled s := by
  unfold losePosition
  rw [if_pos hgood]
  rfl

theorem losePosition_judged (hgood : s.xhu.good = true) : PositionJudged s (losePosition s) := by
  have htravel : condition (positionStaled s) .travel = .clear := setCondition_condition _ _ _
  rw [losePosition_eq hgood]
  split
  · rename_i henable
    exact
      { travel := (spend_condition _ (by decide) (by decide)).trans htravel
        enabled := fun _ => ⟨(spend_ruled (by decide) _).verdict, spend_latched _⟩
        disabled := fun h => absurd (henable.symm.trans h) (by decide) }
  · rename_i henable
    exact
      { travel := htravel
        enabled := fun h => absurd h henable
        disabled := fun _ => by simp [condition, positionStaled, setCondition, tripNumber] }

theorem goStale_position_judged {lane : Lane} (hx : Channel.xhead ∈ channelsOn s lane)
    (hgood : s.xhu.good = true) : PositionJudged (laneStaled lane s) (goStale lane s) := by
  obtain ⟨l₁, l₂, hsplit, hmem⟩ := lossesOf_split hx
  have hothers : ∀ act ∈ l₁ ++ l₂, ∀ t,
      Watched [.tension1, .tension2, .compression, .loadLost, .driveFault] t (act t) ∧
        (act t).xhu.good = t.xhu.good ∧ (act t).xhu.lastEnable = t.xhu.lastEnable := by
    intro act ha t
    obtain rfl | ⟨d, hd, rfl⟩ := hmem act ha
    · obtain ⟨hcalm, -, hgood, -⟩ := loseDriveLane_effect t
      exact ⟨loseDriveLane_watched (by decide) t, congrArg Prod.fst hgood,
        (congrArg (fun x => x.2.2.1.2.2) hcalm :)⟩
    · have hgood := channelLost_ofCrosshead d t
      rw [if_neg hd] at hgood
      have hclasses : ∀ c ∈ lossClasses d,
          c ∈ [TripClass.tension1, .tension2, .compression, .loadLost, .driveFault] := by
        cases d with
        | xhead => exact absurd rfl hd
        | load | extA | extB | unused => decide
      exact ⟨channelLost_watched hclasses t, congrArg Prod.fst hgood,
        (congrArg (fun x => x.2.2.1.2.2) (channelLost_calm d t) :)⟩
  obtain ⟨-, -, hxhu, -⟩ := goStale_kept lane s
  rw [goStale_eq, hsplit]
  refine inOpenOrder_through
    (P := fun t => t.xhu.good = true ∧ t.xhu.lastEnable = (laneStaled lane s).xhu.lastEnable ∧
      condition t .positionLost = condition (laneStaled lane s) .positionLost)
    (Q := PositionJudged (laneStaled lane s)) (fun _ _ h => h) (fun act ha t ht => ?_)
    (fun t ht => ?_) (fun act ha t ht => ?_) ⟨by rw [hxhu, hgood], rfl, rfl⟩
  · obtain ⟨w, hg, he⟩ := hothers act ha t
    exact ⟨hg.trans ht.1, he.trans ht.2.1, (w.conditions _ (by decide) (by decide)).trans ht.2.2⟩
  · obtain ⟨hg, he, hc⟩ := ht
    obtain ⟨htravel, henabled, hdisabled⟩ := losePosition_judged hg
    exact ⟨htravel, fun h => henabled (he.trans h), fun h => (hdisabled (he.trans h)).trans hc⟩
  · have w := (hothers act ha t).1
    have hlost := w.conditions .positionLost (by decide) (by decide)
    exact ⟨(w.conditions _ (by decide) (by decide)).trans ht.travel,
      fun h => ⟨hlost.trans (ht.enabled h).1, w.latched _ (ht.enabled h).2⟩,
      fun h => hlost.trans (ht.disabled h)⟩

/-! ## LOAD (R135, R136, R139) -/

/-- The force conditions are CLEAR. -/
def ForceClear (s : State) : Prop := ∀ c ∈ forceClasses, condition s c = .clear

theorem ForceClear.kept (h : ForceClear s) (hJ : ∀ c ∈ forceClasses, c ∉ J) (w : Watched J s t) :
    ForceClear t := fun c hc =>
  (w.conditions c (by rintro rfl; exact absurd hc (by decide)) (hJ c hc)).trans (h c hc)

/-- LOAD-LOST after the loss of LOAD under a PROTSET. An act on the same event may have ended what needs
LOAD, and LOAD-LOST with it. -/
structure LoadJudged (p : ProtSet) (s t : State) : Prop where
  stage : SameStage s t
  needs : NeedsLoad t → NeedsLoad s
  unneeded : ¬ NeedsLoad s → LossClear t
  trips : condition s .loadLost = .clear → p.loadLossMs ≤ 0 →
    latched t .loadLost = true ∨ ¬ NeedsLoad t
  times : condition s .loadLost = .clear → 0 < p.loadLossMs → NeedsLoad t →
    lossParts t = (.timing t.now, some (t.now + millis p.loadLossMs))
  stays : condition s .loadLost ≠ .clear → NeedsLoad t → lossParts t = lossParts s

/-- Before the loss of LOAD, acts that do not judge LOAD-LOST. -/
theorem LoadJudged.since (h : LoadJudged p t u) (w : Watched J s t) (hJ : .loadLost ∉ J)
    (hdown : channelUp s .load = false) : LoadJudged p s u := by
  have hparts : NeedsLoad t → lossParts t = lossParts s := w.loss hJ hdown
  have hcondition : NeedsLoad t → condition t .loadLost = condition s .loadLost := fun hn =>
    congrArg Prod.fst (hparts hn)
  refine ⟨w.stage.trans h.stage, fun hn => w.needs (h.needs hn),
    fun hn => h.unneeded fun ht => hn (w.needs ht),
    fun hc hms => ?_, fun hc hms hn => ?_, fun hc hn => ?_⟩
  · by_cases hn : NeedsLoad t
    · exact h.trips ((hcondition hn).trans hc) hms
    · exact .inr fun hu => hn (h.needs hu)
  · exact h.times ((hcondition (h.needs hn)).trans hc) hms hn
  · have ht := h.needs hn
    exact (h.stays (by rwa [hcondition ht]) hn).trans (hparts ht)

/-- After it, such acts too. -/
theorem LoadJudged.kept (h : LoadJudged p s t) (w : Watched J t u) (hJ : .loadLost ∉ J)
    (hdown : channelUp s .load = false) (hclear : LossClear t → LossClear u) : LoadJudged p s u := by
  have hparts : NeedsLoad u → lossParts u = lossParts t :=
    w.loss hJ ((h.stage.channelUp _).trans hdown)
  refine ⟨h.stage.trans w.stage, fun hn => h.needs (w.needs hn), fun hn => hclear (h.unneeded hn),
    fun hc hms => (h.trips hc hms).imp (w.latched _) fun hn hu => hn (w.needs hu), fun hc hms hn => ?_,
    fun hc hn => (hparts hn).trans (h.stays hc (w.needs hn))⟩
  rw [hparts hn, w.stage.now]
  exact h.times hc hms (w.needs hn)

theorem loadLostHolds_down (s : State) : loadLostHolds false s = true ↔ NeedsLoad s := by
  simp [loadLostHolds, NeedsLoad, or_assoc]

theorem judgeLoadLost_unneeded (hp : s.pru.protset = some p) (hneeds : ¬ NeedsLoad s) :
    judgeLoadLost false s = clearLoadLost s := by
  have hholds : ¬ loadLostHolds false s = true := mt (loadLostHolds_down s).1 hneeds
  unfold judgeLoadLost
  rw [hp]
  exact if_neg hholds

theorem judgeLoadLost_needed (hp : s.pru.protset = some p) (hneeds : NeedsLoad s) :
    judgeLoadLost false s =
      if condition s .loadLost = .clear then
        if p.loadLossMs ≤ 0 then spend .loadLost s
        else s.setPru { s.pru with
          conditions := s.pru.conditions.set (tripNumber .loadLost) (.timing s.now)
          loadLossAt := some (s.now + millis p.loadLossMs) }
      else s := by
  have hholds : loadLostHolds false s = true := (loadLostHolds_down s).2 hneeds
  unfold judgeLoadLost
  rw [hp]
  dsimp only
  rw [if_pos hholds]
  cases condition s .loadLost with
  | clear => rfl
  | timing _ | spent => rfl

theorem judgeLoadLost_judged (hp : s.pru.protset = some p) :
    LoadJudged p s (judgeLoadLost false s) := by
  have w : Watched [.loadLost] s (judgeLoadLost false s) := judgeLoadLost_watched (by decide) false s
  refine ⟨w.stage, w.needs, fun hn => ?_, fun hc hms => ?_, fun hc hms hn => ?_, fun hc hn => ?_⟩
  · rw [judgeLoadLost_unneeded hp hn]
    exact clearLoadLost_lossClear s
  · by_cases hn : NeedsLoad s
    · rw [judgeLoadLost_needed hp hn, if_pos hc, if_pos hms]
      exact .inl (spend_latched s)
    · exact .inr fun ht => hn (w.needs ht)
  · rw [judgeLoadLost_needed hp (w.needs hn), if_pos hc, if_neg (by omega)]
    simp [lossParts, condition]
  · rw [judgeLoadLost_needed hp (w.needs hn), if_neg hc]

theorem protectLoadLost_forceClear (s : State) : ForceClear (protectLoadLost s) := by
  have hcleared : ForceClear (clearForceConditions s) := by
    intro c hc
    simp only [List.mem_cons, List.not_mem_nil, or_false] at hc
    obtain rfl | rfl | rfl := hc <;>
      simp [condition, clearForceConditions, setCondition, tripNumber]
  exact hcleared.kept (J := [.loadLost]) (by decide) (judgeLoadLost_watched (by decide) false _)

theorem protectLoadLost_judged (hp : s.pru.protset = some p) (hdown : channelUp s .load = false) :
    LoadJudged p s (protectLoadLost s) :=
  (judgeLoadLost_judged (s := clearForceConditions s) hp).since
    (clearForceConditions_watched (J := forceClasses) (fun _ h => h) s) (by decide) hdown

/-- The Load Channel and the port respond to the loss of LOAD beside the Protection Unit (R11). -/
theorem loseLoad_others {act : State → State} (h : act ∈ [loadStale] ++ [startFallback]) (t : State) :
    Watched J t (act t) ∧ (act t).tsq = t.tsq ∧ (act t).xhu = t.xhu ∧ (act t).pru = t.pru := by
  simp only [List.cons_append, List.nil_append, List.mem_cons, List.not_mem_nil, or_false] at h
  obtain rfl | rfl := h
  · exact ⟨loadStale_watched t, by simp [loadStale], by simp [loadStale], by simp [loadStale]⟩
  · exact ⟨startFallback_watched t, by simp, by simp, by simp⟩

theorem LossClear.of_pru (h : LossClear s) (hpru : t.pru = s.pru) : LossClear t := by
  simpa only [LossClear, condition, hpru] using h

theorem loseLoad_forceClear (s : State) : ForceClear (loseLoad s) :=
  inOpenOrder_through (P := fun _ => True) (Q := ForceClear) (l₁ := [loadStale]) (a := protectLoadLost)
    (l₂ := [startFallback]) (fun _ _ h => h) (fun _ _ _ _ => trivial)
    (fun t _ => protectLoadLost_forceClear t)
    (fun _ ha t ht => ht.kept (J := []) (by simp) (loseLoad_others ha t).1) trivial

theorem loseLoad_judged (hp : s.pru.protset = some p) (hdown : channelUp s .load = false) :
    LoadJudged p s (loseLoad s) := by
  refine inOpenOrder_through (P := Watched [] s) (Q := LoadJudged p s) (l₁ := [loadStale])
    (a := protectLoadLost) (l₂ := [startFallback]) (fun _ _ ht => ht.trans (.of_console rfl rfl))
    (fun _ ha t ht => ht.trans (loseLoad_others ha t).1) (fun t ht => ?_) (fun _ ha t ht => ?_) (.refl s)
  · exact (protectLoadLost_judged (ht.protset.trans hp) ((ht.stage.channelUp _).trans hdown)).since ht
      (by simp) hdown
  · obtain ⟨w, -, -, hpru⟩ := loseLoad_others (J := []) ha t
    exact ht.kept w (by simp) hdown fun hclear => hclear.of_pru hpru

/-- Where nothing else is lost, LOAD-LOST trips at once at a delay of 0. -/
theorem loseLoad_latched (hp : s.pru.protset = some p) (hneeds : NeedsLoad s)
    (hclear : condition s .loadLost = .clear) (hms : p.loadLossMs ≤ 0) :
    latched (loseLoad s) .loadLost = true := by
  refine inOpenOrder_through (P := fun t => t.tsq = s.tsq ∧ t.xhu = s.xhu ∧ t.pru = s.pru)
    (Q := fun t => latched t .loadLost = true) (l₁ := [loadStale]) (a := protectLoadLost)
    (l₂ := [startFallback]) (fun _ _ ht => ht) (fun _ ha t ht => ?_) (fun t ht => ?_)
    (fun _ ha t ht => (loseLoad_others (J := []) ha t).1.latched _ ht) ⟨rfl, rfl, rfl⟩
  · obtain ⟨-, htsq, hxhu, hpru⟩ := loseLoad_others (J := []) ha t
    exact ⟨htsq.trans ht.1, hxhu.trans ht.2.1, hpru.trans ht.2.2⟩
  · obtain ⟨htsq, hxhu, hpru⟩ := ht
    have hcleared : condition (clearForceConditions t) .loadLost = .clear := by
      simpa [clearForceConditions, setCondition, condition, tripNumber, hpru] using hclear
    have hneeded : NeedsLoad (clearForceConditions t) :=
      (needsLoad_congr (by rw [← htsq]; rfl) (by rw [← hxhu]; rfl)).2 hneeds
    have hprotset : (clearForceConditions t).pru.protset = some p := by
      simpa [hpru] using hp
    unfold protectLoadLost
    rw [judgeLoadLost_needed hprotset hneeded, if_pos hcleared, if_pos hms]
    exact spend_latched _

/-- A lane that is STALE carries no channel that is UP. -/
theorem laneStaled_down {lane : Lane} (hload : Channel.load ∈ channelsOn s lane) :
    channelUp (laneStaled lane s) .load = false := by
  obtain ⟨k, hk, rfl⟩ := Option.map_eq_some_iff.1 (mem_channelsOn.1 hload).2
  obtain ⟨-, -, -, hroute⟩ := goStale_kept (keyLane k) s
  have hlanes := (laneStaled_keeps (keyLane k) s).2.2.2.2
  simp [channelUp, channelUpUnder, hroute, hk, laneUp, hlanes]

/-- The losses beside that of LOAD judge no class of LOAD (R11). -/
theorem otherLosses_watched {act : State → State}
    (h : act = loseDriveLane ∨ ∃ d, d ≠ Channel.load ∧ act = channelLost d) (t : State) :
    Watched [.travel, .positionLost, .driveFault] t (act t) ∧ (LossClear t → LossClear (act t)) := by
  obtain rfl | ⟨d, hd, rfl⟩ := h
  · exact ⟨loseDriveLane_watched (by decide) t, (loseDriveLane_moves t).lossClear⟩
  · cases d with
    | load => exact absurd rfl hd
    | xhead => exact ⟨losePosition_watched (by decide) t, (losePosition_moves t).lossClear⟩
    | extA => exact ⟨armLost_watched false t, (armLost_moves t false).lossClear⟩
    | extB => exact ⟨armLost_watched true t, (armLost_moves t true).lossClear⟩
    | unused => exact ⟨.refl t, id⟩

theorem goStale_forceClear {lane : Lane} (hload : Channel.load ∈ channelsOn s lane) :
    ForceClear (goStale lane s) := by
  obtain ⟨l₁, l₂, hsplit, hmem⟩ := lossesOf_split hload
  rw [goStale_eq, hsplit]
  exact inOpenOrder_through (P := fun _ => True) (Q := ForceClear) (fun _ _ h => h)
    (fun _ _ _ _ => trivial) (fun t _ => loseLoad_forceClear t)
    (fun act ha t ht => ht.kept (by decide) (otherLosses_watched (hmem act ha) t).1) trivial

theorem goStale_load_judged {lane : Lane} (hload : Channel.load ∈ channelsOn s lane)
    (hp : s.pru.protset = some p) : LoadJudged p (laneStaled lane s) (goStale lane s) := by
  obtain ⟨l₁, l₂, hsplit, hmem⟩ := lossesOf_split hload
  obtain ⟨hpru, -⟩ := goStale_kept lane s
  have hdown := laneStaled_down hload
  rw [goStale_eq, hsplit]
  refine inOpenOrder_through (P := Watched [.travel, .positionLost, .driveFault] (laneStaled lane s))
    (Q := LoadJudged p (laneStaled lane s)) (fun _ _ ht => ht.trans (.of_console rfl rfl))
    (fun act ha t ht => ht.trans (otherLosses_watched (hmem act ha) t).1) (fun t ht => ?_)
    (fun act ha t ht => ?_) (.refl _)
  · exact (loseLoad_judged (ht.protset.trans (by rw [hpru, hp])) ((ht.stage.channelUp _).trans hdown)).since
      ht (by decide) hdown
  · obtain ⟨w, hclear⟩ := otherLosses_watched (hmem act ha) t
    exact ht.kept w (by decide) hdown hclear

/-- A lane other than L4 that carries LOAD alone loses LOAD only. -/
theorem goStale_loadAlone {lane : Lane} (hlane : lane ≠ 4) (hload : Channel.load ∈ channelsOn s lane)
    (hothers : ∀ c ∈ [Channel.xhead, .extA, .extB], (entryOf s.rtb.route c).map keyLane ≠ some lane) :
    goStale lane s = loseLoad (laneStaled lane s) := by
  have halone : channelsOn s lane = [.load] := by
    have hx := hothers .xhead (by simp)
    have ha := hothers .extA (by simp)
    have hb := hothers .extB (by simp)
    have hl := (mem_channelsOn.1 hload).2
    simp only [channelsOn, ownedChannels, List.filter_cons, List.filter_nil, hl, hx, ha, hb,
      decide_true, decide_false, if_true, Bool.false_eq_true, if_false]
  have hlosses : lossesOf lane s = [channelLost .load] := by simp [lossesOf, hlane, halone]
  rw [goStale_eq, hlosses]
  rfl

end Sys2Proof.Machine
end

section
/-!
SUPPORT. The statement about the conditions, one event at a time.
-/

namespace Sys2Proof.Machine

variable {p : ProtSet} {s : State}

/-- A LOAD sample of an UP lane (R135, R136). -/
theorem loadSample_judges {dt : Nat} {lane : Lane} {f : SampleFrame} {c : TripClass}
    (hp : s.pru.protset = some p) (hc : c ∈ forceClasses) :
    let t := deliver lane .load f (withTap (routeKey lane f.sub) f.value (heard dt lane s))
    Ruled c (forceVerdict p t (condition s c) c) s t := by
  obtain ⟨-, -, hpru, -⟩ := arrived_leaves dt lane (routeKey lane f.sub) f.value s
  have h := loadSample_ruled f (s := withTap (routeKey lane f.sub) f.value (heard dt lane s))
    (by rw [hpru, hp]) hc
  rw [condition_congr hpru c] at h
  exact h.since (condition_congr hpru c)

/-- An XHEAD sample of an UP lane (R138, R140). -/
theorem positionSample_judges {dt : Nat} {lane : Lane} {f : SampleFrame} {x : XSet}
    (hx : s.xhu.xset = some x) :
    let t := deliver lane .xhead f (withTap (routeKey lane f.sub) f.value (heard dt lane s))
    Ruled .travel (travelVerdict x t) s t ∧
      condition t .positionLost = if s.xhu.good then condition s .positionLost else .clear := by
  obtain ⟨hxhu, -, hpru, -⟩ := arrived_leaves dt lane (routeKey lane f.sub) f.value s
  have hxset : (withTap (routeKey lane f.sub) f.value (heard dt lane s)).xhu.xset = some x := by
    rw [hxhu, hx]
  have hlost := positionSample_positionLost f hxset
  rw [hxhu, condition_congr hpru .positionLost] at hlost
  exact ⟨(positionSample_travel f hxset).since (condition_congr hpru _), hlost⟩

/-- A demand expiry (R137). -/
theorem demandExpiry_judges {deadline : Nat} (hp : s.pru.protset = some p) :
    let t := offeredDemand (demandExpiry deadline s)
    Ruled .following (delayed (t.xhu.lastEnable &&
      decide (p.followLimit < |demandSent (demandExpiry deadline s) - s.xhu.pos|))
        (millis p.followDelayMs) t.now (condition s .following)) s t := by
  intro t
  obtain ⟨hpos, -, -, -, -, -, -, -, -, -, -, -, hpru, -⟩ := demandExpiry_keeps deadline s
  obtain ⟨-, -, -, -, -, henable, -⟩ := offeredDemand_keeps (demandExpiry deadline s)
  have hnow : t.now = (demandExpiry deadline s).now :=
    (offeredDemand_watched (J := [.following]) (by simp) _).stage.now
  have h := offeredDemand_ruled (s := demandExpiry deadline s) (by rw [hpru, hp])
  rw [condition_congr hpru .following] at h
  rw [henable, hnow, ← hpos]
  exact h.since (condition_congr hpru _)

/-- The silence of the lane that carries LOAD, for LOAD-LOST (R139). -/
theorem goStale_judgesLoadLost {lane : Lane} {deadline : Nat} (hp : s.pru.protset = some p)
    (hload : (entryOf s.rtb.route .load).map keyLane = some lane) :
    let t := goStale lane (reach deadline s)
    (¬ NeedsLoad s → LossClear t) ∧
    (NeedsLoad s → condition s .loadLost = .clear →
      (p.loadLossMs ≤ 0 → latched t .loadLost = true ∨ ¬ NeedsLoad t) ∧
      (p.loadLossMs ≤ 0 → lane ≠ 4 →
        (∀ c ∈ [Channel.xhead, .extA, .extB], (entryOf s.rtb.route c).map keyLane ≠ some lane) →
          latched t .loadLost = true) ∧
      (0 < p.loadLossMs → NeedsLoad t → condition t .loadLost = .timing t.now ∧
        t.pru.loadLossAt = some (t.now + millis p.loadLossMs))) ∧
    (NeedsLoad t → condition s .loadLost ≠ .clear →
      condition t .loadLost = condition s .loadLost ∧ t.pru.loadLossAt = s.pru.loadLossAt) := by
  intro t
  have hcarried : Channel.load ∈ channelsOn (reach deadline s) lane :=
    mem_channelsOn.2 ⟨by decide, hload⟩
  obtain ⟨hpru, htsq, hxhu, -⟩ := goStale_kept lane (reach deadline s)
  have hneeds : NeedsLoad (laneStaled lane (reach deadline s)) ↔ NeedsLoad s :=
    needsLoad_congr (by rw [htsq]; rfl) (by rw [hxhu]; rfl)
  have hcondition : condition (laneStaled lane (reach deadline s)) .loadLost = condition s .loadLost :=
    condition_congr hpru _
  obtain ⟨-, -, hunneeded, htrips, htimes, hstays⟩ :=
    goStale_load_judged (p := p) (s := reach deadline s) hcarried hp
  rw [hcondition] at htrips htimes hstays
  refine ⟨fun hn => hunneeded (mt hneeds.1 hn), fun hn hclear => ⟨htrips hclear, ?_, ?_⟩, ?_⟩
  · intro hms hlane halone
    have hlost : t = loseLoad (laneStaled lane (reach deadline s)) :=
      goStale_loadAlone hlane hcarried halone
    rw [hlost]
    exact loseLoad_latched (by rw [hpru]; exact hp) (hneeds.2 hn) (hcondition.trans hclear) hms
  · exact fun hms ht => Prod.ext_iff.1 (htimes hclear hms ht)
  · intro ht hx
    obtain ⟨hkept, htimer⟩ := Prod.ext_iff.1 (hstays hx ht)
    exact ⟨hkept.trans hcondition, htimer.trans (congrArg Pru.loadLossAt hpru)⟩

/-- The silence of a lane, for the position and the drive status (R140, R141). -/
theorem goStale_judges {lane : Lane} {deadline : Nat} :
    let t := goStale lane (reach deadline s)
    ((entryOf s.rtb.route .xhead).map keyLane = some lane → s.xhu.good = true → PositionJudged s t) ∧
      (lane = 4 → DriveJudged s t) := by
  obtain ⟨hpru, -, hxhu, -⟩ := goStale_kept lane (reach deadline s)
  have henable : (laneStaled lane (reach deadline s)).xhu.lastEnable = s.xhu.lastEnable :=
    congrArg Xhu.lastEnable hxhu
  constructor
  · intro hx hgood
    obtain ⟨htravel, henabled, hdisabled⟩ :=
      goStale_position_judged (s := reach deadline s) (mem_channelsOn.2 ⟨by decide, hx⟩) hgood
    rw [henable] at henabled hdisabled
    exact ⟨htravel, henabled, fun h => (hdisabled h).trans (condition_congr hpru _)⟩
  · rintro rfl
    obtain ⟨hcleared, hlatched⟩ := goStale_drive_judged (reach deadline s)
    exact ⟨hcleared, fun h => hlatched (henable.trans h)⟩

/-- Settles O25: on each event one act judges a class and the others leave it, in whatever order the blocks
take the event, so the judgement made is the one found after it. -/
theorem conditionsAreJudged : Obligations.ConditionsAreJudged := by
  refine ⟨fun dt lane rx f p s hsteered hp => ?_, fun dt lane rx f x s hsteered hx => ?_,
    fun deadline p s hdemand hp => ?_, fun lane deadline s hsilence => ?_⟩
  · have hjudged := fun c hc => loadSample_judges (dt := dt) (lane := lane) (f := f) (c := c) hp hc
    exact ⟨_, exec_sample_steered hsteered, (hjudged .tension1 (by decide)).verdict,
      (hjudged .tension2 (by decide)).verdict, (hjudged .compression (by decide)).verdict,
      fun c hc => (hjudged c hc).latches⟩
  · obtain ⟨htravel, hlost⟩ := positionSample_judges (dt := dt) (lane := lane) (f := f) hx
    exact ⟨_, exec_sample_steered hsteered, htravel.verdict, htravel.latches, hlost⟩
  · have hjudged := demandExpiry_judges (deadline := deadline) hp
    obtain ⟨hsent, -, -, -, -, henable, -⟩ := offeredDemand_keeps (demandExpiry deadline s)
    have hframe := hsent.trans (demandExpiry_frame deadline s).1
    rw [← henable] at hframe
    exact ⟨_, _, _, exec_demandTimerExpiry hdemand, hframe, hjudged.verdict, hjudged.latches⟩
  · have hexec : exec (.silenceTimerExpiry lane) s = .next (goStale lane (reach deadline s)) := by
      simp only [exec, execSilenceTimerExpiry, hsilence]
    obtain ⟨hposition, hdrive⟩ := goStale_judges (s := s) (lane := lane) (deadline := deadline)
    refine ⟨_, hexec, fun hx hgood => ?_, fun hlane => ?_, fun hload => ⟨?_, fun p hp => ?_⟩⟩
    · obtain ⟨htravel, henabled, hdisabled⟩ := hposition hx hgood
      exact ⟨htravel, henabled, hdisabled⟩
    · obtain ⟨hcleared, hlatched⟩ := hdrive hlane
      exact ⟨hcleared, hlatched⟩
    · exact goStale_forceClear (mem_channelsOn.2 ⟨by decide, hload⟩)
    · exact goStale_judgesLoadLost hp hload

end Sys2Proof.Machine
end
